-- ==== Sys2Proof/Word.lean ====
section
/-!
DEFINITION. The plain words of the model: a byte, a string of bytes, a line address, and the shape of a keyed table.
-/

namespace Sys2Proof

/-- One byte, on the line or in a row. -/
abbrev Byte := BitVec 8

/-- A string of bytes in the order sent or stored. -/
abbrev Bytes := List Byte

/-- A 10-bit node address (conventions, Addresses). -/
abbrev Addr := BitVec 10

/-- A table of records by index: pairs with rising indices. An index that is not listed has no record. -/
abbrev Map (α : Type) := List (Nat × α)

end Sys2Proof
end

