-- ==== Sys2Proof/Syntax.lean ====
section
/-!
DEFINITION. The commands of the block: one constructor of `Instr` for each row of spec/opcode_table.json, and the
names their operands are taken from. A row's operands are what the rule of the row says the event or the request
carries. Indices are plain numbers; WellFormed.lean says which are in range.
-/

namespace Sys2Proof

/-- The two line ports (R1). -/
inductive Port | v | s
  deriving DecidableEq, Repr

/-- The seven regions in region order (R20). -/
inductive Region | channels | gradeRules | segments | paths | schedule | signs | gates
  deriving DecidableEq, Repr

/-- The eight fields of the site record (R37). -/
inductive SiteField
  | nodeAddress | sectionNumber | silenceLimit | baseDraw | defaultBudget | lightChannel | lightStep | startupGrade
  deriving DecidableEq, Repr

/-- The three kinds of frame the part's own blocks offer (R2, R10). -/
inductive LocalKind | faceSet | reply | report
  deriving DecidableEq, Repr

/-- A channel's status (R45). -/
inductive ChannelStatus | never | live | stale | fault
  deriving DecidableEq, Repr

/-- A segment's closure state (R98). -/
inductive ClosureState | opened | notice | closing | closed | reopening
  deriving DecidableEq, Repr

/-- The sources a claim can have (R99). -/
inductive ClaimSource
  | centre | restart | grade
  | path (p : Fin 16)
  | schedule (e : Fin 32)
  deriving DecidableEq, Repr

/-- What a grade event does to the GRADE claim (R71). -/
inductive ClaimAction | place | remove
  deriving DecidableEq, Repr

/-- The order a gate holds (R118). -/
inductive GateOrder | noOrder | lower | raise
  deriving DecidableEq, Repr

/-- The direction of a travel (R146). -/
inductive Direction | lowering | raising
  deriving DecidableEq, Repr

/-- The levels of one gate channel's input pins (R117 to R121, R131, R132). -/
structure GatePins where
  encoderA : Bool
  encoderB : Bool
  home : Bool
  closedEnd : Bool
  safety : Bool
  loop : Bool
  deriving DecidableEq, Repr

/-- Pins at rest: every level low (log 6). -/
def GatePins.low : GatePins :=
  { encoderA := false, encoderB := false, home := false, closedEnd := false, safety := false, loop := false }

/-- The levels of all input pins at the application of supply: the twelve local inputs (bit i is input i) and the
four gate channels (R79, R138). -/
structure Pins where
  inputs : BitVec 12
  gate0 : GatePins
  gate1 : GatePins
  gate2 : GatePins
  gate3 : GatePins
  deriving DecidableEq, Repr

/-- What the Line Switch passes with a frame it hands to a block (R6); `time` is the running time of the hand-off. -/
structure Arrival where
  source : Addr
  dest : Addr
  port : Port
  time : Nat
  payload : Bytes
  deriving DecidableEq, Repr

/-- A channel update of Sample Intake (R58). `rise` is none while the rise is unavailable. -/
structure ChannelUpdate where
  channel : Nat
  status : ChannelStatus
  value : Int
  filtered : Int
  rise : Option Int
  deriving DecidableEq, Repr

/-- What a loss of supply cuts short, and how far the writing of non-volatile memory had come (R43). A mask marks
the bytes of the row being written that already hold the new byte: bit i is byte i. -/
inductive Cut
  | quiet
  | openRegion (region : Region) (count : Nat) (written : Bool)
  | writeRows (region : Region) (first : Nat) (rows : List Bytes) (done : Nat) (mixed : BitVec 32)
  | activate (region : Region) (check : BitVec 16) (written : Bool)
  | clear (region : Region) (blanked : Nat) (mixed : BitVec 32)
  | siteWrite (field : SiteField) (value : BitVec 16) (written : Bool)
  deriving DecidableEq, Repr

/-- The commands of the block, in the table's order. A request carries its tag and the parameters as received. -/
inductive Instr
  -- power-on and the starts of the jobs
  | powerOn (pins : Pins)
  | sampleIntakeStart
  | gradeEvaluatorStart
  | pathMonitorStart
  | gateDriveStart
  | closureSequencerStart
  | budgetAllocatorStart
  | signPublisherStart
  -- the corridor line
  | carrierDetected (port : Port)
  | carrierLost (port : Port)
  | frameReceived (port : Port) (unit : Bytes)
  | silenceTimerExpiry
  | frameOffered (port : Port) (kind : LocalKind) (dest : Addr) (payload : Bytes)
  | transmissionComplete (port : Port)
  | spaceSignal (port : Port)
  -- restart
  | restartTakesEffect
  | sampleIntakeRestart
  | gradeEvaluatorRestart
  | pathMonitorRestart
  | signPublisherRestart
  -- line state notices and the Management Responder
  | lineConnectedNotice
  | lineIsolatedNotice
  | manageFrame (arrival : Arrival)
  | unknownRequest (code tag : Byte)
  -- table requests
  | openRegion (tag region count : Byte)
  | writeRows (tag region first count : Byte) (rows : List Bytes)
  | readRows (tag region first count : Byte)
  | blankCheck (tag region : Byte)
  | activateRegion (tag region : Byte) (check : BitVec 16)
  | clearRegion (tag region : Byte)
  | clearAll (tag : Byte)
  | siteWrite (tag field : Byte) (value : BitVec 16)
  | siteRead (tag : Byte)
  -- Sample Intake
  | channelsIntoService
  | channelsOutOfService
  | sampleFrame (arrival : Arrival)
  | ageTimerExpiry (channel : Nat)
  -- Grade Evaluator
  | channelUpdate (update : ChannelUpdate)
  | gradeRulesIntoService
  | gradeRulesOutOfService
  | graderSegmentsIntoService
  | graderSegmentsOutOfService
  | graderChannelsNotice (entered : Bool)
  | descentHoldExpiry (segment : Nat)
  | holdGrade (tag segment floor : Byte)
  | gradeEvent (segment grade : Nat) (action : Option ClaimAction)
  | gradeNotice (segment grade : Nat)
  -- Path Monitor
  | countingInputEdge (input : Nat) (level : Bool)
  | tripwireInputEdge (input : Nat) (level : Bool)
  | unassignedInputEdge (input : Nat) (level : Bool)
  | deadTimerExpiry (input : Nat)
  | detectFrame (arrival : Arrival)
  | ageOut (path : Nat)
  | clearWaitExpiry (path : Nat)
  | confirmWaitExpiry (path : Nat)
  | confirmPath (tag path : Byte)
  | declinePath (tag path : Byte)
  | clearPath (tag path : Byte)
  | pathsIntoService
  | pathsOutOfService
  | warningNotice (path : Nat) (on : Bool) (mask : Byte)
  -- Closure Sequencer
  | claimPlacement (source : ClaimSource) (urgent : Bool) (mask : Byte)
  | claimRemoval (source : ClaimSource) (mask : Byte)
  | closeSegment (tag segment urgent : Byte)
  | releaseSegment (tag segment : Byte)
  | leadTimerExpiry (segment : Nat)
  | graceTimerExpiry (segment : Nat)
  | confirmationNotice (sign : Nat) (face : Byte)
  | gateStateNotice (gate : Nat)
  | clockSecond
  | setTime (tag : Byte) (broadcast : Bool) (day : BitVec 16) (second : BitVec 24)
  | segmentsIntoService
  | segmentsOutOfService
  | gatesBuiltNotice
  | sequencerGatesOutOfService
  | scheduleIntoService
  | segmentNotice (segment : Nat) (state : ClosureState) (parameter : BitVec 16)
  | urgencyNotice (segment : Nat) (urgent : Bool)
  -- Gate Drive Units
  | orderEvent (gate : Nat) (order : GateOrder)
  | gatesIntoService
  | gatesOutOfService
  | encoderEdge (gate : Nat) (a b home closedEnd : Bool)
  | startDelayExpiry (gate : Nat)
  | settleExpiry (gate : Nat)
  | reversalDwellExpiry (gate : Nat)
  | stallTimerExpiry (gate : Nat)
  | travelTimerExpiry (gate : Nat)
  | safetyEdgeChange (gate : Nat) (active : Bool)
  | loopEdge (gate : Nat) (level : Bool)
  | loopFaultSet (gate : Nat)
  | presenceClearance (gate : Nat)
  | vehicleWaitExpiry (gate : Nat)
  | grant (gate : Nat) (direction : Direction)
  | gateStop (tag gate : Byte)
  | gateResume (tag gate : Byte)
  -- Budget Allocator
  | admissionRequest (gate : Nat) (direction : Direction) (draw : Nat)
  | handBack (gate : Nat)
  | requestWithdrawn (gate : Nat)
  | setBudget (tag : Byte) (budget : BitVec 16)
  | lightChannelChange (channel : Nat) (status : ChannelStatus) (filtered : Int)
  | litNotice (sign : Nat) (lit : Bool)
  | budgetRegionNotice (region : Region) (entered : Bool)
  -- Sign Publisher
  | grantNotice (sign level : Nat)
  | forceFace (tag sign face : Byte) (duration : BitVec 16)
  | forcedTimerExpiry (sign : Nat)
  | faceReport (arrival : Arrival)
  | replyTimerExpiry (sign : Nat)
  | republishTimerExpiry (sign : Nat)
  | signSweep (tag : Byte) (signs : List Byte)
  | signsIntoService
  | signsOutOfService
  | signerSegmentsNotice (entered : Bool)
  -- queries, restart, supply
  | sectionStatus (tag : Byte)
  | channelQuery (tag channel : Byte)
  | segmentQuery (tag segment first : Byte)
  | pathQuery (tag path : Byte)
  | gateQuery (tag gate : Byte)
  | signQuery (tag sign : Byte)
  | restart (tag : Byte)
  | supplyLost (cut : Cut)
  | segmentReferenceAbsent
  deriving DecidableEq, Repr

end Sys2Proof
end

