-- ==== Sys2Proof/Config.lean ====
section
/-!
DEFINITION. What the part fixes once (capacities, 00_scope.md) and the free values the spec leaves open.
-/

namespace Sys2Proof.Config

/-- Places of a port's forward queue (R9). -/
def forwardPlaces : Nat := 16

/-- Places of a port's local queue (R10). -/
def localPlaces : Nat := 8

/-- Local frames served before one waiting forward frame (R11). -/
def streakLimit : Nat := 4

/-- Greatest payload of a line frame (R4). -/
def maxPayload : Nat := 120

/-- Where a line counter stops (R17). -/
def counterMax : Nat := 65535

/-- Bad entries in a row that make a channel FAULT (R49). -/
def faultRunLimit : Nat := 3

/-- Values of a full history ring (R54). -/
def ringSize : Nat := 8

/-- Entries of a path's event queue (R85). -/
def pathQueuePlaces : Nat := 16

/-- Illegal encoder transitions of one travel that make a gate FAULT (R120). -/
def encoderErrorLimit : Nat := 16

/-- Obstacle reversals of one lowering order that make a gate FAULT (R131). -/
def obstacleLimit : Nat := 3

/-- The sign reply limit of 2.0 s, in tenths (R158). -/
def replyLimit : Nat := 20

/-- Attempts of one publication cycle (R160). -/
def attemptLimit : Nat := 3

/-- Where a presence time stops (R132). -/
def presenceMax : Nat := 65535

/-- Free value (log 12): what the 2-byte item of a budget figure carries when the figure is above 65535.
R178 gives the item two bytes and no meaning for such a figure. -/
opaque wideFigure : Nat → BitVec 16

/-- Free value (log 13): the position count of a gate whose record is built UNHOMED. R121 gives no count there.
The argument is the number of free values drawn before. -/
opaque unhomedCount : Nat → Int

/-- Free value (log 14): what the 4-byte item of a position count carries when the count does not fit it. -/
opaque widePosition : Int → BitVec 32

end Sys2Proof.Config
end

