-- ==== Sys2Proof/Machine/State.lean ====
section
/-!
DEFINITION. The state of the block as plain data: one record for each of its ten blocks, as the chapters of spec/
give them, the queue of waiting commands, and the model's own fields (each marked as such). `State.reset` is the
factory part when its power-on, the start-up included, is over (log 6).

All running times and timer expiries are absolute, in 0.1 s. The one finer time is a local input's dead timer,
which counts steps of 50 ms; `State.time` counts those (log 4). A stopped timer is `none`.
-/

namespace Sys2Proof.Machine

/-- Reasons a step stops with a fault. The part has none that stops it: every command the spec describes leaves a
next state, and a refused request is answered in a REPLY (R170). Safe: nothing is cut short. -/
inductive Fault
  deriving DecidableEq, Repr

/-- Reasons a step is refused. -/
inductive Refusal
  /-- Raised by `exec` for a command whose meaning is not written. No arm raises it. Safe: nothing is claimed of
  such a command. -/
  | notModelled (mnemonic : String)
  deriving DecidableEq, Repr

/-! ### The corridor line -/

/-- A frame on the line, its header taken apart (R2, chapter 11). -/
structure Frame where
  dest : Addr
  hop : BitVec 4
  zeros : BitVec 2
  source : Addr
  kind : BitVec 6
  payload : Bytes
  check : BitVec 16
  deriving DecidableEq, Repr

/-- A frame of one of the part's own blocks; `restartReply` marks the REPLY whose end releases a RESTART (R174). -/
structure LocalFrame where
  frame : Frame
  restartReply : Bool
  deriving DecidableEq, Repr

/-- What a busy transmitter is sending (R11). -/
inductive Sending
  | own (l : LocalFrame)
  | passing (f : Frame)
  deriving DecidableEq, Repr

/-- The answer to an offer (R10). -/
inductive OfferAnswer | accepted | full
  deriving DecidableEq, Repr

/-- The outcome of a local frame (R10). -/
inductive LineOutcome | sent | lost
  deriving DecidableEq, Repr

/-- An outcome given to the block that offered the frame; the frame's kind says which block that is. -/
structure Given where
  port : Port
  frame : Frame
  outcome : LineOutcome
  deriving DecidableEq, Repr

/-- One port (R1, R9 to R11, R17). -/
structure PortState where
  up : Bool
  forwardQ : List Frame
  localQ : List LocalFrame
  busy : Option Sending
  streak : Nat
  badFrames : Nat
  overflow : Nat
  reportLoss : Nat
  forwarded : Nat
  deriving DecidableEq, Repr

/-- The line state (R14 to R16). -/
inductive LineState | connected | isolated
  deriving DecidableEq, Repr

/-- The Line Switch. `answer` (the latest answer to an offer) and `outcomes` (the outcomes given by the latest
operation that gave any) are the model's own record of what the blocks were told (log 8). -/
structure LineSwitch where
  portV : PortState
  portS : PortState
  lineState : LineState
  silence : Option Nat
  answer : Option (Port × OfferAnswer)
  outcomes : List Given
  deriving DecidableEq, Repr

/-! ### The table store -/

/-- The state item of a region header (R21). `invalid` is a stored value that is none of the four. -/
inductive RegionState
  | empty | opened | active | failed
  | invalid (code : Byte)
  deriving DecidableEq, Repr

/-- A region's header (R21). -/
structure Header where
  state : RegionState
  count : Nat
  check : BitVec 16
  deriving DecidableEq, Repr

/-- One region: header and rows in non-volatile memory (R20, R21). A row that is not listed is blank. -/
structure RegionRecord where
  header : Header
  rows : Map Bytes
  deriving DecidableEq, Repr

/-- The seven regions (R20). -/
structure Regions where
  channels : RegionRecord
  gradeRules : RegionRecord
  segments : RegionRecord
  paths : RegionRecord
  schedule : RegionRecord
  signs : RegionRecord
  gates : RegionRecord
  deriving DecidableEq, Repr

/-- The site record: eight stored 16-bit values (R37, chapter 11). -/
structure SiteRecord where
  nodeAddress : BitVec 16
  sectionNumber : BitVec 16
  silenceLimit : BitVec 16
  baseDraw : BitVec 16
  defaultBudget : BitVec 16
  lightChannel : BitVec 16
  lightStep : BitVec 16
  startupGrade : BitVec 16
  deriving DecidableEq, Repr

/-- A CLEAR ALL under way: the tag of its request and the number of regions cleared so far (R33). -/
structure ClearRun where
  tag : Byte
  cleared : Nat
  deriving DecidableEq, Repr

/-- The Table Store, with its start-up list (R41) and the CLEAR ALL under way (R33; log 29). -/
structure TableStore where
  regions : Regions
  site : SiteRecord
  startList : List Region
  clearing : Option ClearRun
  deriving DecidableEq, Repr

/-! ### Sample Intake -/

/-- A channel record (R45). -/
structure ChannelRec where
  status : ChannelStatus
  lastRaw : Option (BitVec 16)
  value : Int
  filtered : Int
  saturated : Bool
  ring : List Int
  age : Option Nat
  faultRun : Nat
  lastSeq : Option Byte
  deriving DecidableEq, Repr

/-- Sample Intake. `started` and `inService` say whether it has started and is using CHANNELS (R35, R62). As in every
job, the rows in use are those it found at the notice that began its use (R35; log 7). -/
structure Intake where
  started : Bool
  inService : Bool
  rows : Map Bytes
  channels : Map ChannelRec
  deriving DecidableEq, Repr

/-! ### The Grade Evaluator -/

/-- A segment grade record (R67). -/
structure GradeRec where
  raw : Nat
  effective : Nat
  floor : Nat
  hold : Option Nat
  deriving DecidableEq, Repr

/-- The Grade Evaluator: a flag for each present rule (R64), a record for each present segment (R67). -/
structure Grader where
  started : Bool
  rulesIn : Bool
  segmentsIn : Bool
  ruleRows : Map Bytes
  segmentRows : Map Bytes
  flags : Map Bool
  segments : Map GradeRec
  deriving DecidableEq, Repr

/-! ### The Path Monitor -/

/-- A local input's assignment (R79). `rising` is the active edge, `dead` the dead time in steps of 50 ms. -/
inductive Assignment
  | unassigned
  | counting (rising : Bool) (dead : Nat)
  | tripwire (rising : Bool)
  deriving DecidableEq, Repr

/-- A local input record (R79). The dead timer's expiry counts steps of 50 ms. -/
structure InputRec where
  level : Bool
  assignment : Assignment
  dead : Option Nat
  deriving DecidableEq, Repr

/-- A path's danger state (R78). -/
inductive PathState | quiet | watch | alert | release | clearing
  deriving DecidableEq, Repr

/-- The state of a path's closure (R89). -/
inductive Decision | noDecision | waiting | declined | claimed
  deriving DecidableEq, Repr

/-- A path record (R78). `faults` holds the four slot fault flags, slot 0 first. -/
structure PathRec where
  state : PathState
  queue : List Nat
  faults : List Bool
  blind : Bool
  warning : Bool
  decision : Decision
  confirm : Option Nat
  clear : Option Nat
  deriving DecidableEq, Repr

/-- The Path Monitor. -/
structure Monitor where
  started : Bool
  inService : Bool
  rows : Map Bytes
  inputs : Map InputRec
  paths : Map PathRec
  deriving DecidableEq, Repr

/-! ### The Closure Sequencer -/

/-- A claim in a segment's set, listed under its source number (R99, R173). -/
structure Claim where
  urgent : Bool
  placed : Nat
  deriving DecidableEq, Repr

/-- A segment record (R98). -/
structure SegmentRec where
  state : ClosureState
  claims : Map Claim
  lead : Option Nat
  grace : Option Nat
  parameter : BitVec 16
  grade : Nat
  gateFault : Bool
  blocked : Bool
  unannounced : Bool
  deriving DecidableEq, Repr

/-- The section clock while it is set (R110). `next` is the running time of its next second. -/
structure Clock where
  day : Nat
  second : Nat
  next : Nat
  deriving DecidableEq, Repr

/-- The Closure Sequencer; `clock` none is UNSET. `gatesBuilt` says that the Gate Drive Units have handed it their
built states, `withheld` lists the gates whose order R113 withholds (log 28). -/
structure Sequencer where
  started : Bool
  inService : Bool
  scheduleIn : Bool
  gatesBuilt : Bool
  segmentRows : Map Bytes
  scheduleRows : Map Bytes
  gateRows : Map Bytes
  withheld : List Nat
  segments : Map SegmentRec
  clock : Option Clock
  deriving DecidableEq, Repr

/-! ### The Gate Drive Units -/

/-- A gate's state (R119). -/
inductive GateState
  | unconfigured | unhomed | raised | lowered | held | lowering | raising | stopping | stopped | fault
  deriving DecidableEq, Repr

/-- The phase of a travel (R118). -/
inductive Phase | start | run | settle | noPhase
  deriving DecidableEq, Repr

/-- A gate's fault cause (R118). -/
inductive FaultCause | noCause | stall | timeout | position | home | encoder | obstacle
  deriving DecidableEq, Repr

/-- A gate's standing with the Budget Allocator (R118). -/
inductive Admission | noAdmission | requested | held
  deriving DecidableEq, Repr

/-- A presence monitor (R132, R133). `since` is the running time of the latest loop edge or reset. -/
structure Presence where
  level : Bool
  since : Nat
  lastHigh : Nat
  lastLow : Nat
  loopFault : Bool
  deriving DecidableEq, Repr

/-- A gate record (R118). `begun` says that the travel under way began at START (R125, R137). -/
structure GateRec where
  state : GateState
  phase : Phase
  order : GateOrder
  count : Int
  homed : Bool
  encoderErrors : Nat
  retries : Nat
  obstacleRaise : Bool
  cause : FaultCause
  admission : Admission
  phaseTimer : Option Nat
  stallTimer : Option Nat
  travelTimer : Option Nat
  vehicleTimer : Option Nat
  presence : Option Presence
  travels : Nat
  begun : Bool
  deriving DecidableEq, Repr

/-- The four Gate Drive Units and the levels of their pins. -/
structure GateDrives where
  started : Bool
  rows : Map Bytes
  gates : Map GateRec
  pins : Map GatePins
  deriving DecidableEq, Repr

/-! ### The Budget Allocator -/

/-- An entry of the motion queue (R147). `joined` numbers the entries in the order they joined. -/
structure MotionEntry where
  gate : Nat
  direction : Direction
  draw : Nat
  urgent : Bool
  time : Nat
  joined : Nat
  deriving DecidableEq, Repr

/-- The figures of R143 and R144. -/
structure Figures where
  floor : Nat
  ceiling : Nat
  effective : Nat
  cap : Nat
  remaining : Nat
  deriving DecidableEq, Repr

/-- The Budget Allocator. `admitted` lists each admission now held with its draw; H is the sum of the draws.
`granted` is the granted level of each present sign, `lit` the lit set, `urgent` the urgent segments. -/
structure Allocator where
  started : Bool
  signsIn : Bool
  gatesIn : Bool
  signRows : Map Bytes
  gateRows : Map Bytes
  budget : Nat
  requested : Nat
  figures : Figures
  granted : Map Nat
  belowFloor : Bool
  admitted : List (Nat × Nat)
  queue : List MotionEntry
  lit : List Nat
  urgent : List Nat
  deriving DecidableEq, Repr

/-! ### The Sign Publisher -/

/-- The kind of a candidate (R155). -/
inductive WinnerKind | forced | closed | avalanche | notice | advisory | blank
  deriving DecidableEq, Repr

/-- A sign's winner (R153). -/
structure Winner where
  kind : WinnerKind
  face : Byte
  parameter : BitVec 16
  flash : Bool
  deriving DecidableEq, Repr

/-- What a sign displays or should display (R153, R157). -/
structure Display where
  face : Byte
  parameter : BitVec 16
  level : Nat
  flash : Bool
  deriving DecidableEq, Repr

/-- The phase of the publication cycle (R153). -/
inductive SignPhase | idle | held | awaiting
  deriving DecidableEq, Repr

/-- The outcome of a sign's latest cycle (R153). -/
inductive SignStatus | unconfirmed | confirmed | unreachable | fault
  deriving DecidableEq, Repr

/-- A sign's condition (R153). -/
inductive Condition | unknown | ok | lampFault | heaterFault | doorOpen
  deriving DecidableEq, Repr

/-- A sign record (R153). `forced` is the forced face with its timer's expiry. -/
structure SignRec where
  winner : Winner
  forced : Option (Byte × Nat)
  granted : Nat
  desired : Display
  published : Display
  token : Byte
  phase : SignPhase
  attempts : Nat
  mismatch : Bool
  nextPending : Bool
  status : SignStatus
  confirmed : Option (Byte × Nat)
  condition : Condition
  reply : Option Nat
  republish : Option Nat
  deriving DecidableEq, Repr

/-- The Publisher's view of a segment (R154). -/
structure SegmentView where
  state : ClosureState
  parameter : BitVec 16
  grade : Nat
  deriving DecidableEq, Repr

/-- The Publisher's view of a path (R154). -/
structure PathView where
  warning : Bool
  mask : Byte
  deriving DecidableEq, Repr

/-- The running sweep (R164, R165). `own` says that the sweep's own cycle is under way at its position, so that a
cycle end there is the sweep's. -/
structure Sweep where
  signs : List Nat
  position : Nat
  tag : Byte
  own : Bool
  deriving DecidableEq, Repr

/-- The Sign Publisher, with its view and the hold list of each port. -/
structure Publisher where
  started : Bool
  signsIn : Bool
  rows : Map Bytes
  segmentView : Map SegmentView
  pathView : Map PathView
  signs : Map SignRec
  holdV : List Nat
  holdS : List Nat
  sweep : Option Sweep
  deriving DecidableEq, Repr

/-! ### The Management Responder -/

/-- The Management Responder: the restart-pending flag (R174). `releasing` says that the RESTART reply has ended and
the restart has not yet been taken, so that port V makes no selection before it (R12; log 9). -/
structure Responder where
  restartPending : Bool
  releasing : Bool
  deriving DecidableEq, Repr

/-- A report a block has requested within the present step: its kind code and kind-specific data (R176). -/
structure ReportRequest where
  kind : Byte
  data : Bytes
  deriving DecidableEq, Repr

/-! ### The whole part -/

/-- The state of the block. `pending` is the queue of commands that wait. The model's own fields: `power` (supply is
applied; log 5), `handed` (events handed between blocks and not yet taken, oldest first; log 1), `waiting` (requests
that wait until their owner can take them, oldest first; R22, R169), `reports` (requested within the present step;
empty between steps) and `drawn` (free values drawn so far; log 13). -/
structure State where
  power : Bool
  time : Nat
  line : LineSwitch
  store : TableStore
  intake : Intake
  grader : Grader
  monitor : Monitor
  sequencer : Sequencer
  drives : GateDrives
  allocator : Allocator
  publisher : Publisher
  responder : Responder
  handed : List Instr
  waiting : List Instr
  reports : List ReportRequest
  drawn : Nat
  pending : List Instr
  deriving DecidableEq, Repr

/-! ### Reset -/

/-- A port that is DOWN, with nothing queued and every counter 0 (R1, R18). -/
def PortState.down : PortState :=
  { up := false, forwardQ := [], localQ := [], busy := none, streak := 0
    badFrames := 0, overflow := 0, reportLoss := 0, forwarded := 0 }

/-- The Line Switch at power-on (R18). -/
def LineSwitch.powerOn : LineSwitch :=
  { portV := .down, portS := .down, lineState := .isolated, silence := none, answer := none, outcomes := [] }

/-- An EMPTY region: n 0, check 0, every row blank (R21). -/
def RegionRecord.blank : RegionRecord :=
  { header := { state := .empty, count := 0, check := 0 }, rows := [] }

/-- Seven EMPTY regions. -/
def Regions.blank : Regions :=
  { channels := .blank, gradeRules := .blank, segments := .blank, paths := .blank
    schedule := .blank, signs := .blank, gates := .blank }

/-- The factory values of the site record (R37). -/
def SiteRecord.factory : SiteRecord :=
  { nodeAddress := 1022, sectionNumber := 0, silenceLimit := 60, baseDraw := 0
    defaultBudget := 1000, lightChannel := 0xFFFF, lightStep := 100, startupGrade := 2 }

/-- A gate channel that is UNCONFIGURED and has completed no travel (R138, R139). -/
def GateRec.unconfigured : GateRec :=
  { state := .unconfigured, phase := .noPhase, order := .noOrder, count := 0, homed := false
    encoderErrors := 0, retries := 0, obstacleRaise := false, cause := .noCause, admission := .noAdmission
    phaseTimer := none, stallTimer := none, travelTimer := none, vehicleTimer := none
    presence := none, travels := 0, begun := false }

/-- A local input with the given level that no path uses (R79). -/
def InputRec.unassigned (level : Bool) : InputRec :=
  { level := level, assignment := .unassigned, dead := none }

/-- The figures with nothing lit, no gate and base draw 0 (R151). -/
def Figures.factory : Figures :=
  { floor := 0, ceiling := 0, effective := 0, cap := 7, remaining := 0 }

/-- The machine right after reset: the factory part when its power-on, the start-up included, is over, with all pins
low (log 6). -/
def State.reset : State :=
  { power := true
    time := 0
    line := .powerOn
    store := { regions := .blank, site := .factory, startList := [], clearing := none }
    intake := { started := true, inService := false, rows := [], channels := [] }
    grader :=
      { started := true, rulesIn := false, segmentsIn := false, ruleRows := [], segmentRows := [], flags := []
        segments := [] }
    monitor :=
      { started := true, inService := false, rows := []
        inputs := (List.range 12).map fun i => (i, .unassigned false)
        paths := [] }
    sequencer :=
      { started := true, inService := false, scheduleIn := false, gatesBuilt := false, segmentRows := []
        scheduleRows := [], gateRows := [], withheld := [], segments := [], clock := none }
    drives :=
      { started := true, rows := []
        gates := (List.range 4).map fun k => (k, .unconfigured)
        pins := (List.range 4).map fun k => (k, .low) }
    allocator :=
      { started := true, signsIn := false, gatesIn := false, signRows := [], gateRows := []
        budget := 1000, requested := 7, figures := .factory, granted := [], belowFloor := false
        admitted := [], queue := [], lit := [], urgent := [] }
    publisher :=
      { started := true, signsIn := false, rows := [], segmentView := [], pathView := []
        signs := [], holdV := [], holdS := [], sweep := none }
    responder := { restartPending := false, releasing := false }
    handed := []
    waiting := []
    reports := []
    drawn := 0
    pending := [] }

end Sys2Proof.Machine
end

