-- ==== Sys2Proof/Machine/Ops.lean ====
section
/-!
DEFINITION. The named operations over the state: keyed tables, bytes in line order, the row store, the update of one
block, running time and timers, and the handing of events between blocks.
-/

namespace Sys2Proof.Machine

/-! ### Keyed tables -/

/-- The record listed under an index. -/
def mapGet {α : Type} : Map α → Nat → Option α
  | [], _ => none
  | (k, v) :: rest, i => if i = k then some v else mapGet rest i

/-- The table with `v` listed under `i`, its indices still rising. -/
def mapPut {α : Type} : Map α → Nat → α → Map α
  | [], i, v => [(i, v)]
  | (k, w) :: rest, i, v =>
    if i < k then (i, v) :: (k, w) :: rest
    else if i = k then (i, v) :: rest
    else (k, w) :: mapPut rest i v

/-- The table with nothing listed under `i`. -/
def mapDel {α : Type} (m : Map α) (i : Nat) : Map α :=
  m.filter fun e => e.1 ≠ i

/-- The listed indices, rising. -/
def mapKeys {α : Type} (m : Map α) : List Nat :=
  m.map Prod.fst

/-- The table with the record under `i`, if there is one, changed. -/
def mapUpdate {α : Type} (m : Map α) (i : Nat) (f : α → α) : Map α :=
  match mapGet m i with
  | none => m
  | some v => mapPut m i (f v)

/-- The canonical form of a table: indices strictly rising. -/
def mapSorted {α : Type} : Map α → Bool
  | [] => true
  | [_] => true
  | (k, _) :: (j, w) :: rest => decide (k < j) && mapSorted ((j, w) :: rest)

/-- A sorted list of numbers with `n` in it once. -/
def setInsert : List Nat → Nat → List Nat
  | [], n => [n]
  | k :: rest, n => if n < k then n :: k :: rest else if n = k then k :: rest else k :: setInsert rest n

/-- A list of numbers without `n`. -/
def setRemove (l : List Nat) (n : Nat) : List Nat :=
  l.filter fun k => k ≠ n

/-- Bit `i` of a byte-wide mask: segment masks and weekday masks (R63, R77, R111). -/
def maskHas (mask : Byte) (i : Nat) : Bool :=
  mask.getLsbD i

/-! ### Bytes, most significant first (R177) -/

/-- The number a string of bytes spells, most significant byte first. -/
def natOf (bs : Bytes) : Nat :=
  bs.foldl (fun acc b => acc * 256 + b.toNat) 0

/-- The lowest `n` bytes of a number, most significant first. -/
def be : Nat → Nat → Bytes
  | 0, _ => []
  | n + 1, v => be n (v / 256) ++ [BitVec.ofNat 8 v]

/-- A number of `8 * n` bits read as two's complement (R177). -/
def signedOf (n v : Nat) : Int :=
  if v < 2 ^ (8 * n - 1) then (v : Int) else (v : Int) - (2 : Int) ^ (8 * n)

/-- The lowest `n` bytes of a signed number in two's complement, most significant first. -/
def beInt (n : Nat) (v : Int) : Bytes :=
  be n (v % (2 : Int) ^ (8 * n)).toNat

/-- The field of `len` bytes at offset `at` of a row or payload, as an unsigned number. -/
def field (bs : Bytes) (offset len : Nat) : Nat :=
  natOf ((bs.drop offset).take len)

/-- The same field as a signed number. -/
def fieldInt (bs : Bytes) (offset len : Nat) : Int :=
  signedOf len (field bs offset len)

/-- The byte at an offset; 0 beyond the end. -/
def byteAt (bs : Bytes) (offset : Nat) : Byte :=
  bs.getD offset 0

/-! ### The row store (R20) -/

/-- Bytes of a row. -/
def rowSize : Nat := 32

/-- A blank row: 32 bytes of 0xFF (R20). What an unlisted row reads as. -/
def blankRow : Bytes := List.replicate rowSize 0xFF

/-- A string of bytes as one row of 32. A request carries exactly 32 for each row (BAD LENGTH otherwise, R168). -/
def asRow (bs : Bytes) : Bytes := (bs ++ blankRow).take rowSize

/-- The row stored at an index. -/
def readRow (rows : Map Bytes) (i : Nat) : Bytes :=
  (mapGet rows i).getD blankRow

/-- The rows with one row written. Writing a blank row leaves nothing listed there. -/
def writeRow (rows : Map Bytes) (i : Nat) (row : Bytes) : Map Bytes :=
  if asRow row = blankRow then mapDel rows i else mapPut rows i (asRow row)

/-- Whether the row stored at an index is blank (R20). -/
def rowBlank (rows : Map Bytes) (i : Nat) : Bool :=
  readRow rows i == blankRow

/-- The row of a present index: below the declared count and not blank (R20). -/
def presentIn (count : Nat) (rows : Map Bytes) (i : Nat) : Option Bytes :=
  if i < count then (if rowBlank rows i then none else some (readRow rows i)) else none

/-- The present rows of a region, in index order (R20). -/
def presentRows (count : Nat) (rows : Map Bytes) : Map Bytes :=
  (List.range count).filterMap fun i => (presentIn count rows i).map fun row => (i, row)

/-- The canonical form of a region's rows: indices strictly rising and below the capacity, every listed row 32 bytes
and not blank. -/
def rowsWf (capacity : Nat) (rows : Map Bytes) : Bool :=
  mapSorted rows && rows.all fun e => decide (e.1 < capacity) && decide (e.2.length = rowSize) && (e.2 != blankRow)

/-- Rows that a region holds (R20). -/
def Region.capacity : Region → Nat
  | .channels => 64
  | .gradeRules => 96
  | .segments => 8
  | .paths => 16
  | .schedule => 32
  | .signs => 24
  | .gates => 4

/-- A region's number (R20). -/
def Region.number : Region → Nat
  | .channels => 0
  | .gradeRules => 1
  | .segments => 2
  | .paths => 3
  | .schedule => 4
  | .signs => 5
  | .gates => 6

/-- The regions in region order (R20). -/
def regionOrder : List Region :=
  [.channels, .gradeRules, .segments, .paths, .schedule, .signs, .gates]

/-- The region a request's number names; none outside 0..6 (R22). -/
def regionOf (n : Byte) : Option Region :=
  regionOrder[n.toNat]?

/-- A region's record. -/
def Regions.get (rs : Regions) : Region → RegionRecord
  | .channels => rs.channels
  | .gradeRules => rs.gradeRules
  | .segments => rs.segments
  | .paths => rs.paths
  | .schedule => rs.schedule
  | .signs => rs.signs
  | .gates => rs.gates

/-- The regions with one record replaced. -/
def Regions.set (rs : Regions) (r : Region) (x : RegionRecord) : Regions :=
  match r with
  | .channels => { rs with channels := x }
  | .gradeRules => { rs with gradeRules := x }
  | .segments => { rs with segments := x }
  | .paths => { rs with paths := x }
  | .schedule => { rs with schedule := x }
  | .signs => { rs with signs := x }
  | .gates => { rs with gates := x }

/-- The canonical form of the whole table store. -/
def Memory.wf (rs : Regions) : Bool :=
  regionOrder.all fun r => rowsWf (Region.capacity r) (rs.get r).rows

/-! ### One block of the state replaced -/

def State.withTime (s : State) (x : Nat) : State := { s with time := x }
def State.withLine (s : State) (x : LineSwitch) : State := { s with line := x }
def State.withStore (s : State) (x : TableStore) : State := { s with store := x }
def State.withIntake (s : State) (x : Intake) : State := { s with intake := x }
def State.withGrader (s : State) (x : Grader) : State := { s with grader := x }
def State.withMonitor (s : State) (x : Monitor) : State := { s with monitor := x }
def State.withSequencer (s : State) (x : Sequencer) : State := { s with sequencer := x }
def State.withDrives (s : State) (x : GateDrives) : State := { s with drives := x }
def State.withAllocator (s : State) (x : Allocator) : State := { s with allocator := x }
def State.withPublisher (s : State) (x : Publisher) : State := { s with publisher := x }
def State.withResponder (s : State) (x : Responder) : State := { s with responder := x }
def State.withHanded (s : State) (x : List Instr) : State := { s with handed := x }
def State.withWaiting (s : State) (x : List Instr) : State := { s with waiting := x }
def State.withReports (s : State) (x : List ReportRequest) : State := { s with reports := x }
def State.withPending (s : State) (x : List Instr) : State := { s with pending := x }
def State.withDrawn (s : State) (x : Nat) : State := { s with drawn := x }

/-! ### Running time (conventions, Time; log 4) -/

/-- The running time, in 0.1 s. -/
def State.now (s : State) : Nat := s.time / 2

/-- Running time moved on to `t` tenths, if it is not there yet: an expiry happens at its timer's expiry (log 3). -/
def State.reach (s : State) (t : Nat) : State := s.withTime (max s.time (2 * t))

/-- The same for a time in steps of 50 ms. -/
def State.reachStep (s : State) (t : Nat) : State := s.withTime (max s.time t)

/-- Seconds as tenths. -/
def seconds (n : Nat) : Nat := 10 * n

/-- The remaining time of a timer, in tenths; none when it is stopped (chapter 10, Queries). -/
def State.remaining (s : State) (timer : Option Nat) : Option Nat :=
  timer.map fun e => e - s.now

/-! ### Handing on -/

/-- An event handed to another block: it waits to be taken behind those handed before (log 1). -/
def State.hand (s : State) (c : Instr) : State := s.withHanded (s.handed ++ [c])

/-- Several events handed in order. -/
def State.handAll (s : State) (cs : List Instr) : State := s.withHanded (s.handed ++ cs)

/-- An event that is taken before all others that wait (R12: the restart). -/
def State.handFirst (s : State) (c : Instr) : State := s.withHanded (c :: s.handed)

/-- A report requested of the Management Responder (R176). -/
def State.report (s : State) (kind : Byte) (data : Bytes) : State :=
  s.withReports (s.reports ++ [{ kind := kind, data := data }])

/-- A request that its owner cannot take yet waits behind those that wait already (R22, R169). -/
def State.deferred (s : State) (c : Instr) : State := s.withWaiting (s.waiting ++ [c])

/-- Apply an operation to each of a list of indices, in order. -/
def forEach (l : List Nat) (f : Nat → State → State) (s : State) : State :=
  l.foldl (fun t i => f i t) s

/-- A counter that stops at its greatest value (conventions, Saturating counts). -/
def saturate (limit n : Nat) : Nat := min limit n

/-! ### References into regions (R20, R35, R36) -/

/-- A region's record in the store. -/
def State.region (s : State) (r : Region) : RegionRecord := s.store.regions.get r

/-- Whether a region is ACTIVE. -/
def State.active (s : State) (r : Region) : Bool := (s.region r).header.state == .active

/-- The store with one region's record replaced. -/
def State.withRegion (s : State) (r : Region) (x : RegionRecord) : State :=
  s.withStore { s.store with regions := s.store.regions.set r x }

/-- Whether a job's records of a region still stand: the region is ACTIVE, and the job's notice of a clear does not
still wait. Once a clear is taken the job's records answer no event, also where the region has been activated again
before the notice (R32, R35; logs 7 and 42). -/
def State.serves (s : State) (r : Region) (out : Instr) : Bool := s.active r && !s.handed.contains out

/-- The record a request or a frame finds under an index: none once its region is cleared, whatever the job still
holds (R46, R82, R91 and their like). -/
def State.found {α : Type} (s : State) (r : Region) (out : Instr) (m : Map α) (i : Nat) : Option α :=
  if s.serves r out then mapGet m i else none

/-- A reference resolved at use: the row, when the region is ACTIVE and the row is present (R36). -/
def State.reference (s : State) (r : Region) (i : Nat) : Option Bytes :=
  if s.active r then presentIn (s.region r).header.count (s.region r).rows i else none

/-- The rows a job finds at a notice that its region is in service: the present rows while the region is ACTIVE, none
where it has been cleared in the meantime (R35; log 7). -/
def State.serviceRows (s : State) (r : Region) : Map Bytes :=
  if s.active r then presentRows (s.region r).header.count (s.region r).rows else []

end Sys2Proof.Machine
end

