-- ==== Sys2Proof/Machine/Operands.lean ====
section
/-!
DEFINITION. The operand forms: the fields of the seven row kinds and of the site record as chapter 11 lays them out,
their validity (R28, R179) and consistency (R29), and the rows and records a job finds under an index (R35, R36).
-/

namespace Sys2Proof.Machine

/-! ### CHANNELS (R44) -/

structure ChannelRow where
  station : Nat
  stationChannel : Nat
  kind : Byte
  rawLow : Nat
  rawHigh : Nat
  slope : Int
  offset : Int
  shift : Nat
  maxAge : Nat
  deriving DecidableEq, Repr

def channelRow (r : Bytes) : ChannelRow :=
  { station := field r 0 2, stationChannel := field r 2 1, kind := byteAt r 3, rawLow := field r 4 2
    rawHigh := field r 6 2, slope := fieldInt r 8 4, offset := fieldInt r 12 4, shift := field r 16 1
    maxAge := field r 17 2 }

/-! ### GRADE RULES (R63) -/

/-- A rule's stale treatment (R63, R66). -/
inductive StaleTreatment | ignore | assert | hold
  deriving DecidableEq, Repr

structure RuleRow where
  mask : Byte
  channel : Nat
  rise : Bool
  atOrBelow : Bool
  threshold : Int
  hysteresis : Nat
  grade : Nat
  stale : StaleTreatment
  deriving DecidableEq, Repr

def ruleRow (r : Bytes) : RuleRow :=
  { mask := byteAt r 0, channel := field r 1 1, rise := field r 2 1 == 1, atOrBelow := field r 3 1 == 1
    threshold := fieldInt r 4 2, hysteresis := field r 6 2, grade := field r 8 1
    stale := match field r 9 1 with | 0 => .ignore | 1 => .assert | _ => .hold }

/-! ### SEGMENTS (R97) -/

structure SegmentRow where
  normalLead : Nat
  urgentLead : Nat
  grace : Nat
  descentHold : Nat
  reopenLimit : Nat
  gradeCloses : Bool
  deriving DecidableEq, Repr

def segmentRow (r : Bytes) : SegmentRow :=
  { normalLead := field r 0 2, urgentLead := field r 2 1, grace := field r 3 2, descentHold := field r 5 2
    reopenLimit := field r 7 1, gradeCloses := field r 8 1 == 1 }

/-! ### PATHS (R77) -/

/-- A path's policy (R89). -/
inductive Policy | auto | confirm | warnOnly
  deriving DecidableEq, Repr

/-- Where a slot's events come from (R77). -/
inductive SlotSource
  | unused
  | local (input : Nat)
  | remote (station detector : Nat)
  deriving DecidableEq, Repr

structure Slot where
  source : SlotSource
  tripwire : Bool
  rising : Bool
  dead : Nat
  deriving DecidableEq, Repr

structure PathRow where
  mask : Byte
  watch : Nat
  alert : Nat
  window : Nat
  policy : Policy
  confirmLimit : Nat
  clearWait : Nat
  slots : List Slot
  deriving DecidableEq, Repr

/-- Slot `j` of a PATHS row: the source word's top two bits choose the source. -/
def slotOf (r : Bytes) (j : Nat) : Slot :=
  let word := field r (10 + 5 * j) 2
  let mode := field r (13 + 5 * j) 1
  { source :=
      match word / 16384 with
      | 1 => .local (word % 1024)
      | 2 => .remote (word % 1024) (field r (12 + 5 * j) 1)
      | _ => .unused
    tripwire := decide (2 ≤ mode)
    rising := mode % 2 == 0
    dead := field r (14 + 5 * j) 1 }

def pathRow (r : Bytes) : PathRow :=
  { mask := byteAt r 0, watch := field r 1 1, alert := field r 2 1, window := field r 3 2
    policy := match field r 5 1 with | 0 => .auto | 1 => .confirm | _ => .warnOnly
    confirmLimit := field r 6 2, clearWait := field r 8 2, slots := [0, 1, 2, 3].map (slotOf r) }

/-! ### SCHEDULE (R111) -/

structure ScheduleRow where
  mask : Byte
  weekdays : Byte
  start : Nat
  finish : Nat
  firstDay : Nat
  lastDay : Nat
  deriving DecidableEq, Repr

def scheduleRow (r : Bytes) : ScheduleRow :=
  { mask := byteAt r 0, weekdays := byteAt r 1, start := field r 2 3, finish := field r 5 3
    firstDay := field r 8 2, lastDay := field r 10 2 }

/-! ### SIGNS (R152) -/

structure SignRow where
  address : Nat
  port : Port
  segment : Nat
  approach : Bool
  advisory : List Byte
  avalanche : Byte
  notice : Byte
  closed : Byte
  d1 : Nat
  d7 : Nat
  republish : Nat
  deriving DecidableEq, Repr

def signRow (r : Bytes) : SignRow :=
  { address := field r 0 2, port := if field r 2 1 = 0 then .v else .s, segment := field r 3 1
    approach := field r 4 1 == 0, advisory := (r.drop 5).take 5, avalanche := byteAt r 10, notice := byteAt r 11
    closed := byteAt r 12, d1 := field r 13 2, d7 := field r 15 2, republish := field r 17 2 }

/-! ### GATES (R117) -/

structure GateRow where
  segment : Nat
  travelCount : Nat
  tolerance : Nat
  reversed : Bool
  draw : Nat
  startDelay : Nat
  settleTime : Nat
  dwell : Nat
  stallTime : Nat
  travelLimit : Nat
  clearInterval : Nat
  vehicleLimit : Nat
  presenceLimit : Nat
  loopFitted : Bool
  deriving DecidableEq, Repr

def gateRow (r : Bytes) : GateRow :=
  { segment := field r 0 1, travelCount := field r 1 2, tolerance := field r 3 2, reversed := field r 5 1 == 1
    draw := field r 6 2, startDelay := field r 8 1, settleTime := field r 9 1, dwell := field r 10 1
    stallTime := field r 11 1, travelLimit := field r 12 2, clearInterval := field r 14 1
    vehicleLimit := field r 15 2, presenceLimit := field r 17 2, loopFitted := field r 19 1 == 1 }

/-! ### Row validity (R28, R179) -/

/-- A number within a range, both ends included. -/
def within (n lo hi : Nat) : Bool := decide (lo ≤ n) && decide (n ≤ hi)

/-- One slot of a PATHS row: the word's form, the mode, and a dead time of 0 outside LOCAL COUNTING. -/
def slotValid (r : Bytes) (j : Nat) : Bool :=
  let word := field r (10 + 5 * j) 2
  let low := word % 1024
  let mode := field r (13 + 5 * j) 1
  let dead := field r (14 + 5 * j) 1
  (word / 1024 % 16 == 0) && within mode 0 3 &&
    match word / 16384 with
    | 0 => dead == 0
    | 1 => within low 0 11 && (decide (mode < 2) || dead == 0)
    | 2 => within low 1 1022 && dead == 0
    | _ => false

def channelValid (r : Bytes) : Bool :=
  within (field r 0 2) 1 1022 && within (field r 2 1) 0 15 && within (field r 3 1) 0 8 &&
    decide (field r 4 2 ≤ field r 6 2) && within (field r 16 1) 0 7 && within (field r 17 2) 1 3600

def ruleValid (r : Bytes) : Bool :=
  (byteAt r 0 != 0) && within (field r 1 1) 0 63 && within (field r 2 1) 0 1 && within (field r 3 1) 0 1 &&
    decide (-32000 ≤ fieldInt r 4 2) && decide (fieldInt r 4 2 ≤ 32000) && within (field r 6 2) 0 1000 &&
    within (field r 8 1) 1 5 && within (field r 9 1) 0 2

def segmentValid (r : Bytes) : Bool :=
  within (field r 0 2) 0 1800 && within (field r 2 1) 0 120 && within (field r 3 2) 0 600 &&
    within (field r 5 2) 60 7200 && within (field r 7 1) 1 5 && within (field r 8 1) 0 1

def pathValid (r : Bytes) : Bool :=
  within (field r 1 1) 1 16 && within (field r 2 1) (field r 1 1) 16 && within (field r 3 2) 10 3600 &&
    within (field r 5 1) 0 2 && within (field r 6 2) 30 900 && within (field r 8 2) 60 3600 &&
    [0, 1, 2, 3].all (slotValid r)

def scheduleValid (r : Bytes) : Bool :=
  within (field r 1 1) 0 127 && within (field r 2 3) 0 86399 && within (field r 5 3) 0 86399 &&
    decide (field r 8 2 ≤ field r 10 2)

def signValid (r : Bytes) : Bool :=
  within (field r 0 2) 1 1022 && within (field r 2 1) 0 1 && within (field r 3 1) 0 7 && within (field r 4 1) 0 1 &&
    decide (field r 13 2 ≤ field r 15 2) && within (field r 13 2) 0 4000 && within (field r 15 2) 0 4000 &&
    within (field r 17 2) 60 3600

def gateValid (r : Bytes) : Bool :=
  within (field r 0 1) 0 7 && within (field r 1 2) 100 60000 && within (field r 3 2) 1 2000 &&
    decide (2 * field r 3 2 < field r 1 2) && within (field r 5 1) 0 1 && within (field r 6 2) 0 4000 &&
    within (field r 8 1) 0 50 && within (field r 9 1) 0 50 && within (field r 10 1) 5 50 &&
    within (field r 11 1) 2 50 && within (field r 12 2) 5 300 && within (field r 14 1) 1 60 &&
    within (field r 15 2) 10 600 && within (field r 17 2) 60 3600 && within (field r 19 1) 0 1

/-- Whether a present row of a region is valid. -/
def rowValid : Region → Bytes → Bool
  | .channels => channelValid
  | .gradeRules => ruleValid
  | .segments => segmentValid
  | .paths => pathValid
  | .schedule => scheduleValid
  | .signs => signValid
  | .gates => gateValid

/-! ### Row consistency (R29) -/

/-- The local inputs a PATHS row names, with the configuration it names each with, in slot order. -/
def localSlots (r : Bytes) : List (Nat × (Bool × Bool × Nat)) :=
  (pathRow r).slots.filterMap fun sl =>
    match sl.source with
    | .local i => some (i, (sl.tripwire, sl.rising, sl.dead))
    | _ => none

/-- Whether the slots of one PATHS row conflict with the slots before them, those of earlier rows given. -/
def slotsConflict (earlier : List (Nat × (Bool × Bool × Nat))) : List (Nat × (Bool × Bool × Nat)) → Bool
  | [] => false
  | (i, c) :: rest =>
    (earlier.any fun e => e.1 == i && e.2 != c) || slotsConflict (earlier ++ [(i, c)]) rest

/-- Whether a present row conflicts with present rows before it (R29). -/
def rowConflict (reg : Region) (earlier : List Bytes) (r : Bytes) : Bool :=
  match reg with
  | .channels => earlier.any fun q => field q 0 2 == field r 0 2 && field q 2 1 == field r 2 1
  | .paths => slotsConflict (earlier.flatMap localSlots) (localSlots r)
  | .signs => earlier.any fun q => field q 0 2 == field r 0 2
  | _ => false

/-- The first row in index order that conflicts with a row before it. -/
def firstConflict (reg : Region) (earlier : List Bytes) : List (Nat × Bytes) → Option Nat
  | [] => none
  | (i, r) :: rest => if rowConflict reg earlier r then some i else firstConflict reg (earlier ++ [r]) rest

/-! ### The site record (R37, R38, R40) -/

/-- A field's code (chapter 11). -/
def SiteField.code : SiteField → Nat
  | .nodeAddress => 0
  | .sectionNumber => 1
  | .silenceLimit => 2
  | .baseDraw => 3
  | .defaultBudget => 4
  | .lightChannel => 5
  | .lightStep => 6
  | .startupGrade => 7

/-- The eight fields in code order. -/
def siteFields : List SiteField :=
  [.nodeAddress, .sectionNumber, .silenceLimit, .baseDraw, .defaultBudget, .lightChannel, .lightStep, .startupGrade]

/-- The field a code names; none for a code of no field (R38). -/
def siteFieldOf (n : Byte) : Option SiteField := siteFields[n.toNat]?

/-- A field's stored value. -/
def SiteRecord.get (r : SiteRecord) : SiteField → BitVec 16
  | .nodeAddress => r.nodeAddress
  | .sectionNumber => r.sectionNumber
  | .silenceLimit => r.silenceLimit
  | .baseDraw => r.baseDraw
  | .defaultBudget => r.defaultBudget
  | .lightChannel => r.lightChannel
  | .lightStep => r.lightStep
  | .startupGrade => r.startupGrade

/-- The record with one field replaced. -/
def SiteRecord.set (r : SiteRecord) (f : SiteField) (v : BitVec 16) : SiteRecord :=
  match f with
  | .nodeAddress => { r with nodeAddress := v }
  | .sectionNumber => { r with sectionNumber := v }
  | .silenceLimit => { r with silenceLimit := v }
  | .baseDraw => { r with baseDraw := v }
  | .defaultBudget => { r with defaultBudget := v }
  | .lightChannel => { r with lightChannel := v }
  | .lightStep => { r with lightStep := v }
  | .startupGrade => { r with startupGrade := v }

/-- The range of a field other than the light channel (R37). -/
def SiteField.range : SiteField → Nat × Nat
  | .nodeAddress => (1, 1022)
  | .sectionNumber => (0, 255)
  | .silenceLimit => (10, 600)
  | .baseDraw => (0, 4000)
  | .defaultBudget => (0, 4000)
  | .lightChannel => (0, 63)
  | .lightStep => (1, 32000)
  | .startupGrade => (0, 5)

/-- A written value clamped into its field's range; a light channel outside 0..63 is stored as none (R38). -/
def clampSite (f : SiteField) (v : BitVec 16) : BitVec 16 :=
  match f with
  | .lightChannel => if v.toNat ≤ 63 then v else 0xFFFF
  | f => BitVec.ofNat 16 (max (SiteField.range f).1 (min (SiteField.range f).2 v.toNat))

/-- A stored value as verification leaves it: the factory value where it lies outside the range (R40). -/
def repairSite (f : SiteField) (v : BitVec 16) : BitVec 16 :=
  if clampSite f v = v then v else SiteRecord.factory.get f

/-- The part's own node address (R5). -/
def State.ownAddress (s : State) : Addr := s.store.site.nodeAddress.setWidth 10

/-- The channel the site record names as light channel (R37). -/
def SiteRecord.light (r : SiteRecord) : Option Nat :=
  if r.lightChannel.toNat ≤ 63 then some r.lightChannel.toNat else none

/-! ### Rows as the jobs read them (R35; log 7) -/

/-- Sample Intake's row of a channel. -/
def State.channelRow (s : State) (c : Nat) : Option ChannelRow :=
  if s.intake.inService then (mapGet s.intake.rows c).map Machine.channelRow else none

/-- The Grade Evaluator's row of a rule. -/
def State.ruleRow (s : State) (i : Nat) : Option RuleRow :=
  if s.grader.rulesIn then (mapGet s.grader.ruleRows i).map Machine.ruleRow else none

/-- The Grade Evaluator's row of a segment. -/
def State.graderSegmentRow (s : State) (g : Nat) : Option SegmentRow :=
  if s.grader.segmentsIn then (mapGet s.grader.segmentRows g).map Machine.segmentRow else none

/-- The Grade Evaluator's record of a segment. Once SEGMENTS is cleared there is none that an event or another block
finds, also where SEGMENTS is ACTIVE again and the evaluator's notice of the clear still waits: a mask bit then raises
no grade, and the segment reads as not yet built (R63, R67, R74; logs 7 and 42). -/
def State.gradeRecord (s : State) (g : Nat) : Option GradeRec :=
  s.found .segments .graderSegmentsOutOfService s.grader.segments g

/-- The effective grade read from the Grade Evaluator: 0 for a segment it has not yet built, a record from before a
clear whose notice waits among them (R74; log 42). -/
def State.readGrade (s : State) (g : Nat) : Nat :=
  ((s.gradeRecord g).map GradeRec.effective).getD 0

/-- The Closure Sequencer's row of a segment. Once SEGMENTS is cleared there is none (R32). -/
def State.segmentRow (s : State) (g : Nat) : Option SegmentRow :=
  if s.sequencer.inService && s.serves .segments .segmentsOutOfService then
    (mapGet s.sequencer.segmentRows g).map Machine.segmentRow
  else none

/-- A segment's record: it has one while its row is present in the region in service. -/
def State.segment (s : State) (g : Nat) : Option SegmentRec :=
  if (s.segmentRow g).isSome then mapGet s.sequencer.segments g else none

/-- The segments a path's row exposes, whether or not PATHS is still ACTIVE (R93, R95). -/
def State.pathMask (s : State) (p : Nat) : Byte :=
  (((mapGet s.monitor.rows p).map Machine.pathRow).map PathRow.mask).getD 0

/-- The Path Monitor's row of a path. Once PATHS is cleared there is none (R82, R95). -/
def State.pathRow (s : State) (p : Nat) : Option PathRow :=
  if s.monitor.inService && s.serves .paths .pathsOutOfService then (mapGet s.monitor.rows p).map Machine.pathRow
  else none

/-- The Closure Sequencer's row of a schedule entry. -/
def State.scheduleRow (s : State) (e : Nat) : Option ScheduleRow :=
  if s.sequencer.scheduleIn then (mapGet s.sequencer.scheduleRows e).map Machine.scheduleRow else none

/-- The Sign Publisher's row of a sign. Once SIGNS is cleared there is none (R159, R166). -/
def State.signRow (s : State) (g : Nat) : Option SignRow :=
  if s.publisher.signsIn && s.serves .signs .signsOutOfService then (mapGet s.publisher.rows g).map Machine.signRow
  else none

/-- A sign's record (R153): it has one while its row is present in the region in service. Once SIGNS is cleared there is
none, for the Closure Sequencer's reading too: no sign has confirmation facts until SIGNS is built again (R162, R166;
logs 7 and 42). -/
def State.sign (s : State) (g : Nat) : Option SignRec :=
  if (s.signRow g).isSome then mapGet s.publisher.signs g else none

/-- The Budget Allocator's row of a sign. -/
def State.allocatorSignRow (s : State) (g : Nat) : Option SignRow :=
  if s.allocator.signsIn then (mapGet s.allocator.signRows g).map Machine.signRow else none

/-- The row a gate channel was built from; read only for a configured gate (R117). -/
def State.gateRow (s : State) (k : Nat) : Option GateRow :=
  (mapGet s.drives.rows k).map Machine.gateRow

/-- The Closure Sequencer's row of a gate, from the built gates handed to it (R113). -/
def State.sequencerGateRow (s : State) (k : Nat) : Option GateRow :=
  if s.sequencer.gatesBuilt then (mapGet s.sequencer.gateRows k).map Machine.gateRow else none

/-- The Budget Allocator's row of a gate (R150). -/
def State.allocatorGateRow (s : State) (k : Nat) : Option GateRow :=
  if s.allocator.gatesIn then (mapGet s.allocator.gateRows k).map Machine.gateRow else none

/-- The gate channels whose GATES row names a segment, as the Closure Sequencer resolves them (R97, R113). -/
def State.configuredGates (s : State) (g : Nat) : List Nat :=
  (List.range 4).filter fun k => (s.sequencerGateRow k).any fun r => r.segment == g

/-- The approach signs of a segment: present SIGNS rows that name it with role APPROACH, while SIGNS is ACTIVE
(R97). -/
def State.approachSigns (s : State) (g : Nat) : List (Nat × SignRow) :=
  (List.range 24).filterMap fun i =>
    match (s.reference .signs i).map Machine.signRow with
    | none => none
    | some r => if r.segment = g ∧ r.approach = true then some (i, r) else none

end Sys2Proof.Machine
end

