-- ==== Sys2Proof/Machine/Flags.lean ====
section
/-!
DEFINITION. The flags and two-valued conditions the spec derives from other state: blindness and warning of a path,
presence clearance and the clear way of a gate, the gate fault flag of a segment, urgency, the end and target tests.
-/

namespace Sys2Proof.Machine

/-! ### Paths -/

/-- Whether a slot is used (R77). -/
def Slot.used (sl : Slot) : Bool := sl.source != .unused

/-- The blind flag: at least one used slot, and every used slot faulted (R84). -/
def blindOf (slots : List Slot) (faults : List Bool) : Bool :=
  (slots.any Slot.used) && (List.zip slots faults).all fun p => !(Slot.used p.1) || p.2

/-- A path's warning is on in ALERT and RELEASE and while it is blind (R93). -/
def warningOf (state : PathState) (blind : Bool) : Bool :=
  state == .alert || state == .release || blind

/-- A tripwire's wire is broken while the level is the one its active edge leads to (R79). -/
def wireBroken (rising level : Bool) : Bool := rising == level

/-- The level of a local input (R79). -/
def State.inputLevel (s : State) (i : Nat) : Bool :=
  ((mapGet s.monitor.inputs i).map InputRec.level).getD false

/-- Whether a slot is a LOCAL TRIPWIRE slot whose wire is broken now (R81). -/
def State.slotBroken (s : State) (sl : Slot) : Bool :=
  match sl.source with
  | .local i => sl.tripwire && wireBroken sl.rising (s.inputLevel i)
  | _ => false

/-! ### Gates -/

/-- The levels of a gate channel's pins. -/
def State.gatePins (s : State) (k : Nat) : GatePins := (mapGet s.drives.pins k).getD .low

/-- The elapsed time of a presence monitor's current phase, saturating (R132). -/
def Presence.elapsed (p : Presence) (now : Nat) : Nat := min Config.presenceMax (now - p.since)

/-- Presence clearance (R133). -/
def clearanceOf (row : GateRow) (presence : Option Presence) (now : Nat) : Bool :=
  match presence with
  | none => true
  | some p => (!p.level && decide (seconds row.clearInterval ≤ now - p.since)) || p.loopFault

/-- The way beneath a gate is clear while presence clearance holds and the safety edge is inactive (R123). -/
def wayClear (row : GateRow) (presence : Option Presence) (safety : Bool) (now : Nat) : Bool :=
  clearanceOf row presence now && !safety

/-- A count within the position tolerance of an end (R121, R125). -/
def nearEnd (count target : Int) (tolerance : Nat) : Bool := decide ((count - target).natAbs ≤ tolerance)

/-- The home switch alone is active (R121). -/
def homeAlone (p : GatePins) : Bool := p.home && !p.closedEnd

/-- The closed-end switch alone is active (R121). -/
def closedAlone (p : GatePins) : Bool := p.closedEnd && !p.home

/-- The target test (R121). -/
def targetMet (row : GateRow) (g : GateRec) (p : GatePins) : Direction → Bool
  | .raising => homeAlone p || (g.homed && nearEnd g.count 0 row.tolerance)
  | .lowering => closedAlone p || (g.homed && nearEnd g.count row.travelCount row.tolerance)

/-- A gate is within a travel from entry to START or to SETTLE until the travel's end (R120). -/
def GateRec.inTravel (g : GateRec) : Bool := g.state == .lowering || g.state == .raising

/-- A gate is in START or RUN of a travel. -/
def GateRec.moving (g : GateRec) : Bool := g.inTravel && (g.phase == .start || g.phase == .run)

/-- The motor outputs: on toward the end of the travel in START and RUN, off in SETTLE and in every other state
(R119, R124, R125). -/
def GateRec.motor (g : GateRec) : Option Direction :=
  if g.moving then some (if g.state == .raising then .raising else .lowering) else none

/-- The brake output: released in START and RUN, applied in SETTLE and in every other state (R119, R124, R125). -/
def GateRec.brakeApplied (g : GateRec) : Bool := !g.moving

/-- The motor outputs of a gate channel, off where it has no record or the part no supply (R119, R139). -/
def State.gateMotor (s : State) (k : Nat) : Option Direction :=
  if s.power then (mapGet s.drives.gates k).bind GateRec.motor else none

/-- The brake output of a gate channel, applied where it has no record or the part no supply (R119, R139). -/
def State.gateBrakeApplied (s : State) (k : Nat) : Bool :=
  !s.power || ((mapGet s.drives.gates k).map GateRec.brakeApplied).getD true

/-- The state of a gate channel. -/
def State.gateState (s : State) (k : Nat) : GateState :=
  ((mapGet s.drives.gates k).map GateRec.state).getD .unconfigured

/-! ### Segments -/

/-- A segment holds an urgent claim (R99). -/
def SegmentRec.urgent (r : SegmentRec) : Bool := r.claims.any fun c => c.2.urgent

/-- The gate fault flag: a configured gate is in FAULT (R108). -/
def State.gateFaultOf (s : State) (g : Nat) : Bool :=
  (s.configuredGates g).any fun k => s.gateState k == .fault

/-- Every configured gate of a segment is in a state; true of a gateless segment (R105, R107). -/
def State.allGates (s : State) (g : Nat) (st : GateState) : Bool :=
  (s.configuredGates g).all fun k => s.gateState k == st

/-- The order a closure state gives the segment's gates (R102). -/
def orderOf : ClosureState → GateOrder
  | .opened => .raise
  | .notice => .raise
  | .closing => .lower
  | .closed => .lower
  | .reopening => .raise

/-! ### Channels -/

/-- A channel's rise: newest less oldest of a full ring; none while it is unavailable (R55). -/
def riseOf (ring : List Int) : Option Int :=
  if ring.length = Config.ringSize then
    match ring.head?, ring.getLast? with
    | some a, some b => some (b - a)
    | _, _ => none
  else none

/-- A channel is the light channel when the site record names it and the reference is present (R59). -/
def State.isLight (s : State) (c : Nat) : Bool :=
  s.store.site.light == some c && (s.reference .channels c).isSome

end Sys2Proof.Machine
end

