-- ==== Sys2Proof/Machine/Format.lean ====
section
/-!
DEFINITION. The byte forms: the frame header and line check (R2, R3, chapter 11), and the items of REPLY data and
REPORT data by type (R178). An enumerated item is numbered from 0 in the order its owning rule lists the values
(log 10); the widths of items the type table does not name are in log 11.
-/

namespace Sys2Proof.Machine

/-! ### The line check (R3) -/

/-- One shift of the remainder: a 1 that leaves the top brings in the generator. -/
def crcShift (r : BitVec 16) : BitVec 16 := if r.msb then (r <<< 1) ^^^ 0x1021 else r <<< 1

/-- One byte combined into the upper eight bits, and eight shifts. -/
def crcByte (r : BitVec 16) (b : Byte) : BitVec 16 :=
  Nat.repeat crcShift 8 (r ^^^ (b.setWidth 16 <<< 8))

/-- The line check over a string of bytes. -/
def lineCheck (bs : Bytes) : BitVec 16 := bs.foldl crcByte 0xFFFF

/-! ### Frames -/

/-- The five header bytes of a frame (chapter 11). -/
def headerBytes (dest : Addr) (hop : BitVec 4) (zeros : BitVec 2) (source : Addr) (kind : BitVec 6) (len : Nat) :
    Bytes :=
  let a := dest ++ hop ++ zeros
  let b := source ++ kind
  [a.extractLsb' 8 8, a.extractLsb' 0 8, b.extractLsb' 8 8, b.extractLsb' 0 8, BitVec.ofNat 8 len]

/-- A frame's header and payload: what its check covers. -/
def Frame.body (f : Frame) : Bytes :=
  headerBytes f.dest f.hop f.zeros f.source f.kind f.payload.length ++ f.payload

/-- A frame with its line check computed over its header and payload (R3). -/
def Frame.sealed (f : Frame) : Frame := { f with check := lineCheck f.body }

/-- The bytes of a frame on the line. -/
def Frame.bytes (f : Frame) : Bytes :=
  f.body ++ [f.check.extractLsb' 8 8, f.check.extractLsb' 0 8]

/-- The frame a received unit spells, when it is well formed (R4). -/
def parseUnit (u : Bytes) : Option Frame :=
  let len := (byteAt u 4).toNat
  let a := byteAt u 0 ++ byteAt u 1
  let b := byteAt u 2 ++ byteAt u 3
  let check := byteAt u (5 + len) ++ byteAt u (6 + len)
  if 7 ≤ u.length ∧ len ≤ Config.maxPayload ∧ u.length = 5 + len + 2 ∧ lineCheck (u.take (5 + len)) = check then
    some
      { dest := a.extractLsb' 6 10, hop := a.extractLsb' 2 4, zeros := a.extractLsb' 0 2
        source := b.extractLsb' 6 10, kind := b.extractLsb' 0 6, payload := (u.drop 5).take len, check := check }
  else none

/-! ### Codes -/

/-- The frame kinds the Line Switch gives a meaning (R2). -/
def kindSample : BitVec 6 := 0x01
def kindDetect : BitVec 6 := 0x02
def kindFaceSet : BitVec 6 := 0x08
def kindFaceReport : BitVec 6 := 0x09
def kindManage : BitVec 6 := 0x10
def kindReply : BitVec 6 := 0x11
def kindReport : BitVec 6 := 0x12

/-- The kind code of an offered frame. -/
def LocalKind.code : LocalKind → BitVec 6
  | .faceSet => kindFaceSet
  | .reply => kindReply
  | .report => kindReport

/-- Result codes (chapter 11). -/
def done : Byte := 0x00
def stoppedResult : Byte := 0x01
def unknownRequestResult : Byte := 0x10
def badLength : Byte := 0x11
def badArgument : Byte := 0x12
def wrongState : Byte := 0x13
def notBlank : Byte := 0x14
def checkMismatch : Byte := 0x15
def invalidRow : Byte := 0x16
def noTable : Byte := 0x17
def busyResult : Byte := 0x18

/-- Reasons of a stopped sweep beside NO TABLE (chapter 11). -/
def reasonUnreachable : Byte := 0x20
def reasonFault : Byte := 0x21

/-- Report kind codes (chapter 11). -/
def reportLineState : Byte := 0x01
def reportRegionState : Byte := 0x02
def reportChannelState : Byte := 0x03
def reportGrade : Byte := 0x04
def reportPath : Byte := 0x05
def reportSegment : Byte := 0x06
def reportGate : Byte := 0x07
def reportSign : Byte := 0x08
def reportBudget : Byte := 0x09

/-! ### Items (R178) -/

def byteOf (n : Nat) : Bytes := [BitVec.ofNat 8 n]
def flagByte (b : Bool) : Bytes := [if b then 1 else 0]

/-- An index that may be none: 0xFF for none. -/
def indexOrNone : Option Nat → Bytes
  | none => [0xFF]
  | some n => byteOf n

/-- An item preceded by a presence byte and carried as 0 when it is none. -/
def presenceItem (width : Nat) : Option Nat → Bytes
  | none => 0 :: be width 0
  | some n => 1 :: be width n

/-- A timer's remaining time, 3 bytes in tenths; 0xFFFFFF when it is stopped. -/
def timerItem : Option Nat → Bytes
  | none => [0xFF, 0xFF, 0xFF]
  | some n => be 3 n

/-- A budget figure in 2 bytes. For a figure above 65535 the spec states no bytes: a free value (log 12). -/
def figureItem (n : Nat) : Bytes :=
  if n ≤ 65535 then be 2 n else be 2 (Config.wideFigure n).toNat

/-- A position count in 4 bytes; a count that does not fit is a free value (log 14). -/
def countItem (n : Int) : Bytes :=
  if -2147483648 ≤ n ∧ n ≤ 2147483647 then beInt 4 n else be 4 (Config.widePosition n).toNat

/-- A running-time stamp, modulo 2^32. -/
def stampItem (t : Nat) : Bytes := be 4 t

/-- The section clock, or UNSET. -/
def clockItem : Option Clock → Bytes
  | none => [0xFF, 0xFF, 0xFF, 0xFF, 0xFF]
  | some c => be 2 c.day ++ be 3 c.second

/-! ### Enumerated values, in the order their owning rules list them -/

/-- R14 names ISOLATED first, and only the text outside the rules lists the two values: the model takes that text's
order, CONNECTED 0 and ISOLATED 1 (log 10). -/
def LineState.num : LineState → Nat
  | .connected => 0
  | .isolated => 1

/-- UP 0, DOWN 1 (R1). -/
def linkNum (up : Bool) : Nat := if up then 0 else 1

def RegionState.num : RegionState → Nat
  | .empty => 0
  | .opened => 1
  | .active => 2
  | .failed => 3
  | .invalid c => c.toNat

def statusNum : ChannelStatus → Nat
  | .never => 0
  | .live => 1
  | .stale => 2
  | .fault => 3

def PathState.num : PathState → Nat
  | .quiet => 0
  | .watch => 1
  | .alert => 2
  | .release => 3
  | .clearing => 4

def Decision.num : Decision → Nat
  | .noDecision => 0
  | .waiting => 1
  | .declined => 2
  | .claimed => 3

def closureNum : ClosureState → Nat
  | .opened => 0
  | .notice => 1
  | .closing => 2
  | .closed => 3
  | .reopening => 4

def GateState.num : GateState → Nat
  | .unconfigured => 0
  | .unhomed => 1
  | .raised => 2
  | .lowered => 3
  | .held => 4
  | .lowering => 5
  | .raising => 6
  | .stopping => 7
  | .stopped => 8
  | .fault => 9

def Phase.num : Phase → Nat
  | .start => 0
  | .run => 1
  | .settle => 2
  | .noPhase => 3

def orderNum : GateOrder → Nat
  | .noOrder => 0
  | .lower => 1
  | .raise => 2

def FaultCause.num : FaultCause → Nat
  | .noCause => 0
  | .stall => 1
  | .timeout => 2
  | .position => 3
  | .home => 4
  | .encoder => 5
  | .obstacle => 6

def Admission.num : Admission → Nat
  | .noAdmission => 0
  | .requested => 1
  | .held => 2

def directionNum : Direction → Nat
  | .lowering => 0
  | .raising => 1

/-- URGENT 0, NORMAL 1 (R147). -/
def classNum (urgent : Bool) : Nat := if urgent then 0 else 1

def WinnerKind.num : WinnerKind → Nat
  | .forced => 0
  | .closed => 1
  | .avalanche => 2
  | .notice => 3
  | .advisory => 4
  | .blank => 5

def SignPhase.num : SignPhase → Nat
  | .idle => 0
  | .held => 1
  | .awaiting => 2

def SignStatus.num : SignStatus → Nat
  | .unconfirmed => 0
  | .confirmed => 1
  | .unreachable => 2
  | .fault => 3

def Condition.num : Condition → Nat
  | .unknown => 0
  | .ok => 1
  | .lampFault => 2
  | .heaterFault => 3
  | .doorOpen => 4

/-- A claim source's number (R173). -/
def sourceNum : ClaimSource → Nat
  | .centre => 0
  | .restart => 1
  | .grade => 2
  | .path p => 3 + p.val
  | .schedule e => 19 + e.val

/-- A claim in one byte: its source number, and its urgent class in the top bit. -/
def claimItem (c : Nat × Claim) : Bytes := byteOf (c.1 + if c.2.urgent then 128 else 0)

/-! ### Causes of the reports, in the order R42, R72, R94, R115, R137, R149 and R163 list them -/

inductive RegionCause | activated | cleared | failedAtStartup
  deriving DecidableEq, Repr

def RegionCause.num : RegionCause → Nat
  | .activated => 0
  | .cleared => 1
  | .failedAtStartup => 2

inductive GradeCause | rise | holdExpiry | floor
  deriving DecidableEq, Repr

def GradeCause.num : GradeCause → Nat
  | .rise => 0
  | .holdExpiry => 1
  | .floor => 2

inductive PathCause
  | detector | ageOut | clearWaitExpiry | confirmWaitExpiry | lineIsolated | request | activation | restart
  deriving DecidableEq, Repr

def PathCause.num : PathCause → Nat
  | .detector => 0
  | .ageOut => 1
  | .clearWaitExpiry => 2
  | .confirmWaitExpiry => 3
  | .lineIsolated => 4
  | .request => 5
  | .activation => 6
  | .restart => 7

inductive SegmentCause
  | claim | leadExpiry | confirmed | unannounced | gates | grade | request | conversion | derivation
  deriving DecidableEq, Repr

def SegmentCause.num : SegmentCause → Nat
  | .claim => 0
  | .leadExpiry => 1
  | .confirmed => 2
  | .unannounced => 3
  | .gates => 4
  | .grade => 5
  | .request => 6
  | .conversion => 7
  | .derivation => 8

inductive GateCause
  | lowered | raised | stall | timeout | position | home | encoder | obstacleFault | stopped | obstacle
  | loopFault | loopClear | vehicleWait
  deriving DecidableEq, Repr

def GateCause.num : GateCause → Nat
  | .lowered => 0
  | .raised => 1
  | .stall => 2
  | .timeout => 3
  | .position => 4
  | .home => 5
  | .encoder => 6
  | .obstacleFault => 7
  | .stopped => 8
  | .obstacle => 9
  | .loopFault => 10
  | .loopClear => 11
  | .vehicleWait => 12

inductive BudgetCause | budget | signs | light | site | gates
  deriving DecidableEq, Repr

def BudgetCause.num : BudgetCause → Nat
  | .budget => 0
  | .signs => 1
  | .light => 2
  | .site => 3
  | .gates => 4

inductive SignCause | confirmed | noReply | mismatch | condition
  deriving DecidableEq, Repr

def SignCause.num : SignCause → Nat
  | .confirmed => 0
  | .noReply => 1
  | .mismatch => 2
  | .condition => 3

end Sys2Proof.Machine
end

