-- ==== Sys2Proof/Machine/Line.lean ====
section
/-!
DEFINITION. The Line Switch (chapter 1): link states, reception and disposal, forwarding, the service of a port's two
queues, offers and their outcomes, centre silence, and its part of a restart. Here too the Responder's forming of
REPLY and REPORT frames (R169, R176), and `taken`, the frame every command's meaning stands in.
-/

namespace Sys2Proof.Machine

/-! ### Ports -/

/-- A port's state. -/
def LineSwitch.port (l : LineSwitch) : Port → PortState
  | .v => l.portV
  | .s => l.portS

/-- The Line Switch with one port replaced. -/
def LineSwitch.setPort (l : LineSwitch) (p : Port) (q : PortState) : LineSwitch :=
  match p with
  | .v => { l with portV := q }
  | .s => { l with portS := q }

/-- The state with one port replaced. -/
def State.withPort (s : State) (p : Port) (q : PortState) : State := s.withLine (s.line.setPort p q)

/-- The port opposite to one (R9). -/
def opposite : Port → Port
  | .v => .s
  | .s => .v

/-- Outcomes given to the blocks that offered the frames (R10); nothing is recorded where none are given. -/
def State.give (s : State) (gs : List Given) : State :=
  if gs.isEmpty then s else s.withLine { s.line with outcomes := gs }

/-- The RESTART reply has ended: the restart is the next event taken, and port V waits for it (R12, R174). -/
def releaseRestart (s : State) : State :=
  (s.withResponder { s.responder with releasing := true }).handFirst .restartTakesEffect

/-! ### Service of a port (R11, R13) -/

/-- The frame R11 selects from a port's two queues, with the port's state after the selection; none with both empty. -/
def chooseFrame (q : PortState) : Option (Sending × PortState) :=
  match q.localQ, q.forwardQ with
  | [], [] => none
  | l :: ls, [] => some (.own l, { q with localQ := ls, busy := some (.own l), streak := 0 })
  | [], f :: fs => some (.passing f, { q with forwardQ := fs, busy := some (.passing f), streak := 0 })
  | l :: ls, f :: fs =>
    if q.streak < Config.streakLimit then
      some (.own l, { q with localQ := ls, busy := some (.own l), streak := q.streak + 1 })
    else some (.passing f, { q with forwardQ := fs, busy := some (.passing f), streak := 0 })

/-- Whether a port's transmitter makes a selection: UP and idle, and no restart to be taken first (R12). -/
def State.selects (s : State) (p : Port) : Bool :=
  (s.line.port p).up && (s.line.port p).busy.isNone && !(p == .v && s.responder.releasing)

/-- The selection of an idle transmitter. A local frame's place becomes free, and space is signalled (R13). -/
def select (p : Port) (s : State) : State :=
  if s.selects p then
    match chooseFrame (s.line.port p) with
    | none => s
    | some (.own _, q) => (s.withPort p q).hand (.spaceSignal p)
    | some (.passing _, q) => s.withPort p q
  else s

/-! ### Offers (R10) -/

/-- A frame the part originates: hop limit 15, zero bits 0, source the own node address, check computed (R2). -/
def State.compose (s : State) (kind : LocalKind) (dest : Addr) (payload : Bytes) : Frame :=
  Frame.sealed
    { dest := dest, hop := 15, zeros := 0, source := s.ownAddress, kind := LocalKind.code kind, payload := payload
      check := 0 }

/-- Whether a frame is a FACE SET, whose FULL answer counts no report loss (R10, R17). -/
def isFaceSet (f : Frame) : Bool := f.kind == kindFaceSet

/-- An offer of a local frame to a port, with its answer (R10). -/
def offer (p : Port) (l : LocalFrame) (s : State) : State × OfferAnswer :=
  let q := s.line.port p
  let noted := fun (t : State) (a : OfferAnswer) => t.withLine { t.line with answer := some (p, a) }
  if q.up = false then
    let t := (noted s .accepted).give [{ port := p, frame := l.frame, outcome := .lost }]
    (if l.restartReply then releaseRestart t else t, .accepted)
  else if q.localQ.length < Config.localPlaces then
    (select p (noted (s.withPort p { q with localQ := q.localQ ++ [l] }) .accepted), .accepted)
  else
    let q' := if isFaceSet l.frame then q
      else { q with reportLoss := saturate Config.counterMax (q.reportLoss + 1) }
    let t := noted (s.withPort p q') .full
    (if l.restartReply then releaseRestart t else t, .full)

/-- A REPLY composed and offered to port V: request code, tag, result and data (R169). -/
def State.reply (s : State) (code tag result : Byte) (data : Bytes) : State :=
  (offer .v
    { frame := s.compose .reply 0 ([code, tag, result] ++ data), restartReply := false } s).1

/-- The REPLY to a RESTART that is taken, whose end releases the restart (R174). -/
def State.restartReply (s : State) (code tag result : Byte) (data : Bytes) : State :=
  (offer .v
    { frame := s.compose .reply 0 ([code, tag, result] ++ data), restartReply := true } s).1

/-- A REPORT's payload: kind, running time, section clock and the kind-specific data (R176). -/
def State.reportPayload (s : State) (r : ReportRequest) : Bytes :=
  [r.kind] ++ stampItem s.now ++ clockItem s.sequencer.clock ++ r.data

/-- A requested report formatted and offered to port V (R176). -/
def sendReport (s : State) (r : ReportRequest) : State :=
  (offer .v { frame := s.compose .report 0 (s.reportPayload r), restartReply := false } s).1

/-- The reports requested within a step, formatted and offered in the order they were requested; the REPLY of a
request has been offered before them. -/
def flushReports (s : State) : State :=
  s.reports.foldl sendReport (s.withReports [])

/-- A command's meaning at a part that has supply: the command, where it was an event handed to a block, no longer
waits; then its effect; then the reports it requested go out. Without supply nothing happens (log 5). -/
def taken (c : Instr) (effect : State → State) (s : State) : Host.Outcome State Fault Refusal :=
  if s.power then .next (flushReports (effect (s.withHanded (s.handed.erase c)))) else .next s

/-- The requests that wait for one owner are taken, in the order they reached it (R169). `own` gives what each of the
owner's requests does; the reports asked for before go out first, as each request is an event of its own. -/
def takeWaiting (own : Instr → Option (State → State)) (s : State) : State :=
  (s.waiting.filter fun c => (own c).isSome).foldl
    (fun t c => match own c with | some f => flushReports (f t) | none => t)
    ((flushReports s).withWaiting (s.waiting.filter fun c => (own c).isNone))

/-! ### Centre silence and the line state (R14, R15) -/

/-- A change of the line state asks for a LINE STATE report with the new state. -/
def setLineState (st : LineState) (s : State) : State :=
  (s.withLine { s.line with lineState := st }).report reportLineState (byteOf (LineState.num st))

/-- A well-formed frame from the centre restarts the silence timer and makes the line CONNECTED (R14). -/
def centreHeard (s : State) : State :=
  let t := s.withLine
    { s.line with silence := some (s.now + seconds s.store.site.silenceLimit.toNat) }
  match s.line.lineState with
  | .connected => t
  | .isolated => (setLineState .connected t).hand .lineConnectedNotice

/-! ### Reception (R4 to R9) -/

/-- A frame placed in the opposite port's forward queue, or discarded, or counted as an overflow (R9). -/
def forwardFrame (p : Port) (f : Frame) (s : State) : State :=
  let o := opposite p
  let q := s.line.port o
  if f.hop = 0 then s
  else if q.up = false then s
  else if q.forwardQ.length < Config.forwardPlaces then
    select o (s.withPort o { q with forwardQ := q.forwardQ ++ [Frame.sealed { f with hop := f.hop - 1 }] })
  else s.withPort o { q with overflow := saturate Config.counterMax (q.overflow + 1) }

/-- What the Line Switch passes with a frame it hands over (R6). -/
def State.arrival (s : State) (p : Port) (f : Frame) : Arrival :=
  { source := f.source, dest := f.dest, port := p, time := s.now, payload := f.payload }

/-- The broadcast address. -/
def broadcast : Addr := 1023

/-- The disposal of a well-formed frame by the tests of R5, in their order. -/
def disposeFrame (p : Port) (f : Frame) (s : State) : State :=
  let a := s.arrival p f
  if f.source = s.ownAddress then s
  else if f.dest = s.ownAddress then
    if f.kind = kindFaceReport then s.hand (.faceReport a)
    else if f.kind = kindManage then s.hand (.manageFrame a)
    else s
  else if f.dest = broadcast then
    let t :=
      if f.kind = kindSample then s.hand (.sampleFrame a)
      else if f.kind = kindDetect then s.hand (.detectFrame a)
      else if f.kind = kindManage then s.hand (.manageFrame a)
      else s
    forwardFrame p f t
  else forwardFrame p f s

/-- A received unit at a port that is UP: counted as bad, or disposed of (R4, R5). A centre frame restarts the silence
timer and makes the line CONNECTED before the tests of R5, but the LINE STATE report it asks for is offered to port V
when the event is over: a frame from port S that is forwarded into an idle port V is sent ahead of it. R5 and R14 order
the restart and the tests, not the report and the forwarding; the order is the model's (log 46). -/
def receiveUnit (p : Port) (u : Bytes) (s : State) : State :=
  let q := s.line.port p
  if q.up = false then s
  else
    match parseUnit u with
    | none => s.withPort p { q with badFrames := saturate Config.counterMax (q.badFrames + 1) }
    | some f => disposeFrame p f (if f.source = 0 then centreHeard s else s)

/-! ### Link state (R1) -/

/-- A port with carrier found: UP, queues empty, transmitter idle, streak 0; space is signalled (R13). -/
def linkUp (p : Port) (s : State) : State :=
  let q := s.line.port p
  if q.up then s
  else
    (s.withPort p { q with up := true, forwardQ := [], localQ := [], busy := none, streak := 0 }).hand
      (.spaceSignal p)

/-- The local frame in transmission, if it is one. -/
def sendingLocal : Option Sending → List LocalFrame
  | some (.own l) => [l]
  | _ => []

/-- Outcomes LOST for a list of local frames, and the release of a restart whose reply is among them. -/
def loseFrames (p : Port) (ls : List LocalFrame) (s : State) : State :=
  let t := s.give (ls.map fun l => { port := p, frame := l.frame, outcome := .lost })
  if ls.any LocalFrame.restartReply then releaseRestart t else t

/-- A port that loses carrier: both queues emptied, the transmission stopped, the streak 0 (R1). The counters stay. -/
def linkDown (p : Port) (s : State) : State :=
  let q := s.line.port p
  if q.up then
    loseFrames p (sendingLocal q.busy ++ q.localQ)
      (s.withPort p { q with up := false, forwardQ := [], localQ := [], busy := none, streak := 0 })
  else s

/-! ### End of a transmission (R12) -/

/-- A transmission completes: SENT for a local frame, a count for a forwarded one, then the next selection. -/
def completeTransmission (p : Port) (s : State) : State :=
  let q := s.line.port p
  match q.busy with
  | none => s
  | some (.own l) =>
    let t := (s.withPort p { q with busy := none }).give [{ port := p, frame := l.frame, outcome := .sent }]
    select p (if l.restartReply then releaseRestart t else t)
  | some (.passing _) =>
    select p (s.withPort p
      { q with busy := none, forwarded := saturate Config.counterMax (q.forwarded + 1) })

/-! ### The Line Switch's restart (R19) -/

/-- A transmission that goes on through the restart releases no further one. -/
def unmarked : Option Sending → Option Sending
  | some (.own l) => some (.own { l with restartReply := false })
  | b => b

/-- A port at the restart: queues emptied, streak 0, counters 0; link and transmission kept. -/
def restartPort (q : PortState) : PortState :=
  { q with
    forwardQ := [], localQ := [], busy := unmarked q.busy, streak := 0
    badFrames := 0, overflow := 0, reportLoss := 0, forwarded := 0 }

/-- The queued local frames of a port, given LOST. -/
def lostAt (p : Port) (q : PortState) : List Given :=
  q.localQ.map fun l => { port := p, frame := l.frame, outcome := .lost }

/-- The Line Switch's restart: both ports emptied and zeroed, every queued local frame LOST, and space signalled on
each port that is UP. -/
def lineRestart (s : State) : State :=
  let v := s.line.portV
  let w := s.line.portS
  let t := (s.withLine { s.line with portV := restartPort v, portS := restartPort w }).give
    (lostAt .v v ++ lostAt .s w)
  t.handAll ((if v.up then [.spaceSignal .v] else []) ++ (if w.up then [.spaceSignal .s] else []))

/-! ### Meanings -/

/-- CARRIER_DETECTED (R1). -/
def execCarrierDetected (p : Port) (s : State) : Host.Outcome State Fault Refusal :=
  taken (.carrierDetected p) (linkUp p) s

/-- CARRIER_LOST (R1). -/
def execCarrierLost (p : Port) (s : State) : Host.Outcome State Fault Refusal :=
  taken (.carrierLost p) (linkDown p) s

/-- FRAME_RECEIVED (R4 to R9, R14). -/
def execFrameReceived (p : Port) (u : Bytes) (s : State) : Host.Outcome State Fault Refusal :=
  taken (.frameReceived p u) (receiveUnit p u) s

/-- The centre-silence timer runs out (R15). -/
def silenceExpired (s : State) : State :=
  match s.line.silence with
  | none => s
  | some e =>
    let t := s.reach e
    (setLineState .isolated (t.withLine { t.line with silence := none })).hand .lineIsolatedNotice

/-- SILENCE_TIMER_EXPIRY (R15). -/
def execSilenceTimerExpiry (s : State) : Host.Outcome State Fault Refusal :=
  taken .silenceTimerExpiry silenceExpired s

/-- FRAME_OFFERED (R10): a block's frame composed as R2 gives and offered to a port. -/
def execFrameOffered (p : Port) (kind : LocalKind) (dest : Addr) (payload : Bytes) (s : State) :
    Host.Outcome State Fault Refusal :=
  taken (.frameOffered p kind dest payload)
    (fun s => (offer p { frame := s.compose kind dest payload, restartReply := false } s).1) s

/-- TRANSMISSION_COMPLETE (R12). -/
def execTransmissionComplete (p : Port) (s : State) : Host.Outcome State Fault Refusal :=
  taken (.transmissionComplete p) (completeTransmission p) s

end Sys2Proof.Machine
end

