-- ==== Sys2Proof/Machine/Segments.lean ====
section
/-!
DEFINITION. The Closure Sequencer (chapter 6): claims, the ring of closure states, notice and grace, the reopen test,
the section clock, the schedule, the derivations, and the conversion of the claims of a cleared region (R34).
-/

namespace Sys2Proof.Machine

/-! ### Claim sources (R99) -/

def sourceCentre : Nat := sourceNum .centre
def sourceRestart : Nat := sourceNum .restart
def sourceGrade : Nat := sourceNum .grade

/-- The first PATH source and the first SCHEDULE source. -/
def sourcePath0 : Nat := 3
def sourceSchedule0 : Nat := 19

/-! ### Records -/

/-- A segment's record replaced. -/
def State.withSegment (s : State) (g : Nat) (r : SegmentRec) : State :=
  s.withSequencer { s.sequencer with segments := mapPut s.sequencer.segments g r }

/-- The time parameter outside NOTICE, or while the clock is UNSET (R109). -/
def noParameter : BitVec 16 := 0xFFFF

/-- A record as built (R98). -/
def SegmentRec.built (grade : Nat) : SegmentRec :=
  { state := .opened, claims := [], lead := none, grace := none, parameter := noParameter, grade := grade
    gateFault := false, blocked := false, unannounced := false }

/-! ### Windows (R111) -/

/-- The clock as seconds from second 0 of day 0. -/
def Clock.instant (c : Clock) : Int := 86400 * c.day + c.second

/-- Whether an entry has a window on a day. -/
def windowOn (row : ScheduleRow) (day : Int) : Bool :=
  decide (0 ≤ day) && decide (day ≤ 65535) && decide ((row.firstDay : Int) ≤ day) &&
    decide (day ≤ (row.lastDay : Int)) && maskHas row.weekdays (day % 7).toNat

/-- The start of a day's window. -/
def windowStart (row : ScheduleRow) (day : Int) : Int := 86400 * day + row.start

/-- The end of a day's window: on the next day when the end second is at or below the start second. -/
def windowEnd (row : ScheduleRow) (day : Int) : Int :=
  if row.finish ≤ row.start then 86400 * (day + 1) + row.finish else 86400 * day + row.finish

/-- Whether the clock lies at or after the start of a day's window less the lead, and before its end. -/
def windowHolds (row : ScheduleRow) (lead : Nat) (c : Clock) (day : Int) : Bool :=
  windowOn row day && decide (windowStart row day - lead ≤ c.instant) && decide (c.instant < windowEnd row day)

/-- The start of the earliest of an entry's windows that holds. A lead is at most 1800 s and a window at most a day
long, so only the windows of the day before, the day and the day after can hold. -/
def currentWindow (row : ScheduleRow) (lead : Nat) (c : Clock) : Option Int :=
  ([(c.day : Int) - 1, (c.day : Int), (c.day : Int) + 1].find? (windowHolds row lead c)).map (windowStart row)

/-- Whether an entry's claim is to be present on a segment with the given normal lead. -/
def claimDue (row : ScheduleRow) (lead : Nat) (clock : Option Clock) : Bool :=
  clock.any fun c => (currentWindow row lead c).isSome

/-! ### The time parameter (R109) -/

/-- The lesser of two times, one of which may be none. -/
def earlier (a : Option Int) (b : Option Int) : Option Int :=
  match a, b with
  | none, b => b
  | a, none => a
  | some x, some y => some (min x y)

/-- The earliest window start among the SCHEDULE claims of a set. -/
def State.earliestWindow (s : State) (lead : Nat) (c : Clock) (claims : Map Claim) : Option Int :=
  claims.foldl
    (fun acc e => earlier acc ((s.scheduleRow (e.1 - sourceSchedule0)).bind fun row => currentWindow row lead c)) none

/-- The minute of day of the clock plus a remaining lead in tenths. -/
def dueMinute (c : Clock) (remaining : Nat) : Nat := (10 * c.second + remaining) / 600 % 1440

/-- The time parameter of a segment in NOTICE. In the grace wait the remaining lead is 0 (log 26). -/
def State.parameterOf (s : State) (row : SegmentRow) (r : SegmentRec) : BitVec 16 :=
  match s.sequencer.clock with
  | none => noParameter
  | some c =>
    if r.claims.all fun e => decide (sourceSchedule0 ≤ e.1) then
      match s.earliestWindow row.normalLead c r.claims with
      | some w => BitVec.ofNat 16 (w % 86400 / 60).toNat
      | none => r.parameter
    else BitVec.ofNat 16 (dueMinute c ((s.remaining r.lead).getD 0))

/-- The parameter of a segment in NOTICE recomputed; a change is handed to the Sign Publisher. -/
def refreshParameter (g : Nat) (s : State) : State :=
  match s.segment g, s.segmentRow g with
  | some r, some row =>
    if r.state = .notice ∧ s.parameterOf row r ≠ r.parameter then
      (s.withSegment g { r with parameter := s.parameterOf row r }).hand
        (.segmentNotice g .notice (s.parameterOf row r))
    else s
  | _, _ => s

/-! ### Entering a state (R102, R105 to R107) -/

/-- The gates that an entry gives an order: all of the segment's where the order changes, and on leaving NOTICE those
whose order was withheld (R113). -/
def State.orderedGates (s : State) (g : Nat) (old new : ClosureState) : List Nat :=
  (s.configuredGates g).filter fun k =>
    decide (orderOf old ≠ orderOf new) || (old == .notice && s.sequencer.withheld.contains k)

/-- A segment enters a state, its record's other changes made: orders to its gates, and a notice to the Sign
Publisher. -/
def enterState (g : Nat) (r : SegmentRec) (st : ClosureState) (s : State) : State :=
  let t := (s.withSegment g { r with state := st }).handAll
    ((s.orderedGates g r.state st).map fun k => .orderEvent k (orderOf st))
  let u := if r.state = .notice then
      t.withSequencer
        { t.sequencer with
          withheld := t.sequencer.withheld.filter fun k => !(s.configuredGates g).contains k }
    else t
  u.hand (.segmentNotice g st r.parameter)

/-- A segment in REOPENING whose gates are all RAISED goes to OPEN (R107). -/
def raisedTest (g : Nat) (s : State) : State :=
  match s.segment g with
  | none => s
  | some r =>
    if r.state = .reopening ∧ s.allGates g .raised then
      enterState g { r with unannounced := false, parameter := noParameter } .opened s
    else s

/-- A segment goes to REOPENING. -/
def enterReopening (g : Nat) (r : SegmentRec) (s : State) : State :=
  raisedTest g (enterState g { r with blocked := false, parameter := noParameter } .reopening s)

/-- A segment in CLOSED tests whether it may reopen (R106). -/
def reopenTest (g : Nat) (s : State) : State :=
  match s.segment g, s.segmentRow g with
  | some r, some row =>
    if r.state = .closed then
      if r.claims.isEmpty && decide (r.grade < row.reopenLimit) then enterReopening g r s
      else s.withSegment g { r with blocked := r.claims.isEmpty }
    else s
  | _, _ => s

/-- A segment in CLOSING whose gates are all LOWERED goes to CLOSED and tests under R106 (R105). -/
def loweredTest (g : Nat) (s : State) : State :=
  match s.segment g with
  | none => s
  | some r =>
    if r.state = .closing ∧ s.allGates g .lowered then reopenTest g (enterState g r .closed s) else s

/-- A segment goes to CLOSING, its timers stopped. -/
def enterClosing (g : Nat) (r : SegmentRec) (s : State) : State :=
  loweredTest g
    (enterState g { r with lead := none, grace := none, parameter := noParameter, blocked := false } .closing s)

/-- A segment in OPEN goes to NOTICE with the lead of an arriving claim (R103). -/
def enterNotice (g : Nat) (row : SegmentRow) (urgent : Bool) (r : SegmentRec) (s : State) : State :=
  let r' :=
    { r with
      lead := some (s.now + seconds (if urgent then row.urgentLead else row.normalLead))
      grace := none
      unannounced := false }
  enterState g { r' with parameter := s.parameterOf row r' } .notice s

/-! ### Claims (R99, R103 to R107) -/

/-- The remaining lead shortened by an urgent claim (R103). -/
def shortenLead (now urgentLead : Nat) (lead : Option Nat) : Option Nat :=
  lead.map fun e => min e (now + seconds urgentLead)

/-- A segment acts on the arrival of a claim that its set already holds. -/
def claimArrives (g : Nat) (urgent : Bool) (s : State) : State :=
  match s.segment g, s.segmentRow g with
  | some r, some row =>
    match r.state with
    | .opened => enterNotice g row urgent r s
    | .notice =>
      if urgent && r.grace.isSome then enterClosing g r s
      else if urgent then
        refreshParameter g (s.withSegment g { r with lead := shortenLead s.now row.urgentLead r.lead })
      else refreshParameter g s
    | .closing => s
    | .closed => reopenTest g s
    | .reopening => enterClosing g r s
  | _, _ => s

/-- A segment acts on the loss of claims that its set no longer holds. -/
def claimDeparts (g : Nat) (s : State) : State :=
  match s.segment g with
  | none => s
  | some r =>
    match r.state with
    | .opened => s
    | .notice =>
      if r.claims.isEmpty then
        enterState g { r with lead := none, grace := none, parameter := noParameter } .opened s
      else refreshParameter g s
    | .closing => if r.claims.isEmpty then enterReopening g r s else s
    | .closed => reopenTest g s
    | .reopening => s

/-- The placement of a claim on one segment (R99): a source that already holds a claim keeps it, and takes the new
class where it is CENTRE. -/
def placeClaim (source : Nat) (urgent : Bool) (g : Nat) (s : State) : State :=
  match s.segment g with
  | none => s
  | some r =>
    match mapGet r.claims source with
    | none =>
      claimArrives g urgent
        (s.withSegment g { r with claims := mapPut r.claims source { urgent := urgent, placed := s.now } })
    | some c =>
      if source = sourceCentre ∧ c.urgent ≠ urgent then
        let t := s.withSegment g { r with claims := mapPut r.claims source { c with urgent := urgent } }
        if urgent then claimArrives g true t else refreshParameter g t
      else s

/-- The removal of the claims of several sources from one segment, as one event. -/
def removeClaims (sources : List Nat) (g : Nat) (s : State) : State :=
  match s.segment g with
  | none => s
  | some r =>
    if r.claims.any fun e => sources.contains e.1 then
      claimDeparts g
        (s.withSegment g { r with claims := r.claims.filter fun e => !sources.contains e.1 })
    else s

/-! ### Reports and urgency (R99, R115) -/

/-- SEGMENT data (R115). R99 gives the claim set no order and neither R115 nor R176 gives one to the report's claims:
they are sent in rising source number (log 51). -/
def segmentData (s : State) (g : Nat) (before : ClosureState) (r : SegmentRec) (cause : SegmentCause) : Bytes :=
  byteOf g ++ byteOf (closureNum before) ++ byteOf (closureNum r.state) ++ byteOf r.claims.length ++
    r.claims.flatMap claimItem ++ timerItem (s.remaining r.lead) ++ timerItem (s.remaining r.grace) ++
    be 2 r.parameter.toNat ++ byteOf r.grade ++ flagByte r.gateFault ++ flagByte r.blocked ++
    flagByte r.unannounced ++ byteOf (SegmentCause.num cause)

/-- Whether an event changed what a SEGMENT report tells of: the state, the claim set or a flag. -/
def segmentChanged (old new : SegmentRec) : Bool :=
  old.state != new.state || old.claims != new.claims || old.gateFault != new.gateFault ||
    old.blocked != new.blocked || old.unannounced != new.unannounced

/-- The urgency notice and the report of one segment, its records before and after an event given. -/
def segmentOutcome (cause : SegmentCause) (before : State) (g : Nat) (s : State) : State :=
  match before.segment g, s.segment g with
  | some old, some new =>
    let t := if old.urgent = new.urgent then s else s.hand (.urgencyNotice g new.urgent)
    if segmentChanged old new then t.report reportSegment (segmentData t g old.state new cause) else t
  | _, _ => s

/-- An operation as one event at the Closure Sequencer, with its urgency notices and its reports, those of several
segments in rising index (log 20). -/
def segmentEvent (cause : SegmentCause) (f : State → State) (s : State) : State :=
  forEach (List.range 8) (segmentOutcome cause s) (f s)

/-! ### Lead and grace (R103, R104) -/

/-- Whether a confirmed face counts for an approach sign: its notice or closed face, and not 0. -/
def faceCounts (row : SignRow) (face : Byte) : Bool :=
  (face == row.notice || face == row.closed) && face != 0

/-- Whether an approach sign is CONFIRMED with a face that counts. A record of the Sign Publisher from before a clear of
SIGNS does not count, also where SIGNS is ACTIVE again and the Publisher's notice of the clear still waits (R166;
log 42). -/
def State.signConfirmed (s : State) (e : Nat × SignRow) : Bool :=
  (s.sign e.1).any fun r =>
    r.status == .confirmed && r.confirmed.any fun f => faceCounts e.2 f.1

/-- What the expiry of a segment's lead timer decides (R104). -/
def leadDecision (g : Nat) (s : State) : State :=
  match s.segment g, s.segmentRow g with
  | some r, some row =>
    if r.state = .notice ∧ r.lead.isSome then
      let signs := s.approachSigns g
      if r.urgent || signs.isEmpty || signs.any s.signConfirmed then enterClosing g r s
      else s.withSegment g { r with lead := none, grace := some (s.now + seconds row.grace) }
    else s
  | _, _ => s

/-- What the expiry of a segment's grace timer does (R104). -/
def graceDecision (g : Nat) (s : State) : State :=
  match s.segment g with
  | none => s
  | some r =>
    if r.state = .notice ∧ r.grace.isSome then enterClosing g { r with unannounced := true } s else s

/-- The grace expiry as an event. -/
def graceStep (g : Nat) (s : State) : State := segmentEvent .unannounced (graceDecision g) s

/-- A grace timer that is at its expiry as soon as it starts. -/
def graceAtOnce (r : Option SegmentRec) (now : Nat) : Bool :=
  r.any fun r => r.grace.any fun e => decide (e ≤ now)

/-- The lead expiry as an event, and a grace of 0 expiring at the moment it starts. -/
def leadStep (g : Nat) (s : State) : State :=
  let t := segmentEvent .leadExpiry (leadDecision g) s
  if graceAtOnce (t.segment g) t.now then graceStep g t else t

/-- A lead timer that an event has set and that is at its expiry at once. -/
def leadAtOnce (old new : Option SegmentRec) (now : Nat) : Bool :=
  new.any fun r => r.lead.any fun e => decide (e ≤ now) && decide ((old.bind SegmentRec.lead) ≠ some e)

/-- Leads of 0 expire straight after the hand-offs of the event that set them (R103), those of several segments in
rising index (log 20). -/
def zeroLeads (before : State) (s : State) : State :=
  forEach (List.range 8)
    (fun g t => if leadAtOnce (before.segment g) (t.segment g) t.now then leadStep g t else t) s

/-- An event at the Closure Sequencer, its consequences included. -/
def sequencerEvent (cause : SegmentCause) (f : State → State) (s : State) : State :=
  zeroLeads s (segmentEvent cause f s)

/-! ### Claim events -/

/-- The segments a mask names, in rising index (log 20). -/
def maskSegments (mask : Byte) : List Nat := (List.range 8).filter fun g => maskHas mask g

/-- A placement event (R99). -/
def placement (source : ClaimSource) (urgent : Bool) (mask : Byte) (s : State) : State :=
  sequencerEvent .claim (forEach (maskSegments mask) (placeClaim (sourceNum source) urgent)) s

/-- A removal event (R99). -/
def removal (source : ClaimSource) (mask : Byte) (s : State) : State :=
  sequencerEvent .claim (forEach (maskSegments mask) (removeClaims [sourceNum source])) s

/-- CLAIM_PLACEMENT (R99, R102, R103). -/
def execClaimPlacement (source : ClaimSource) (urgent : Bool) (mask : Byte) (s : State) :
    Host.Outcome State Fault Refusal :=
  taken (.claimPlacement source urgent mask) (placement source urgent mask) s

/-- CLAIM_REMOVAL (R99, R103 to R107). -/
def execClaimRemoval (source : ClaimSource) (mask : Byte) (s : State) : Host.Outcome State Fault Refusal :=
  taken (.claimRemoval source mask) (removal source mask) s

/-! ### CLOSE SEGMENT and RELEASE SEGMENT (R100, R101) -/

/-- The reply data of both requests: index, state, number of claims, whether any is urgent. -/
def claimsData (g : Nat) (r : Option SegmentRec) : Bytes :=
  match r with
  | none => []
  | some r => byteOf g ++ byteOf (closureNum r.state) ++ byteOf r.claims.length ++ flagByte r.urgent

/-- A taken request: the event, the REPLY, then the expiry of a lead of 0. -/
def segmentRequest (code tag : Byte) (g : Nat) (f : State → State) (s : State) : State :=
  let t := segmentEvent .request f s
  zeroLeads s (t.reply code tag done (claimsData g (t.segment g)))

/-- CLOSE SEGMENT taken by the Closure Sequencer. -/
def closeSegment (tag segment urgent : Byte) (s : State) : State :=
  let g := segment.toNat
  if s.sequencer.started = false then s.deferred (.closeSegment tag segment urgent)
  else if 7 < g then s.reply 0x20 tag badArgument []
  else if 1 < urgent.toNat then s.reply 0x20 tag badArgument []
  else
    match s.segment g with
    | none => s.reply 0x20 tag noTable []
    | some _ => segmentRequest 0x20 tag g (placeClaim sourceCentre (urgent == 1) g) s

/-- CLOSE_SEGMENT (R100). -/
def execCloseSegment (tag segment urgent : Byte) (s : State) : Host.Outcome State Fault Refusal :=
  taken (.closeSegment tag segment urgent) (closeSegment tag segment urgent) s

/-- RELEASE SEGMENT taken by the Closure Sequencer. -/
def releaseSegment (tag segment : Byte) (s : State) : State :=
  let g := segment.toNat
  if s.sequencer.started = false then s.deferred (.releaseSegment tag segment)
  else if 7 < g then s.reply 0x21 tag badArgument []
  else
    match s.segment g with
    | none => s.reply 0x21 tag noTable []
    | some r =>
      if r.claims.any fun e => [sourceCentre, sourceRestart].contains e.1 then
        segmentRequest 0x21 tag g (removeClaims [sourceCentre, sourceRestart] g) s
      else s.reply 0x21 tag wrongState []

/-- RELEASE_SEGMENT (R101). -/
def execReleaseSegment (tag segment : Byte) (s : State) : Host.Outcome State Fault Refusal :=
  taken (.releaseSegment tag segment) (releaseSegment tag segment) s

/-! ### Timers and confirmations (R104) -/

/-- The expiry of a segment's lead timer. -/
def leadExpired (g : Nat) (s : State) : State :=
  match (s.segment g).bind SegmentRec.lead with
  | none => s
  | some e => leadStep g (s.reach e)

/-- LEAD_TIMER_EXPIRY (R104). -/
def execLeadTimerExpiry (g : Nat) (s : State) : Host.Outcome State Fault Refusal :=
  taken (.leadTimerExpiry g) (leadExpired g) s

/-- The expiry of a segment's grace timer. -/
def graceExpired (g : Nat) (s : State) : State :=
  match (s.segment g).bind SegmentRec.grace with
  | none => s
  | some e => graceStep g (s.reach e)

/-- GRACE_TIMER_EXPIRY (R104). -/
def execGraceTimerExpiry (g : Nat) (s : State) : Host.Outcome State Fault Refusal :=
  taken (.graceTimerExpiry g) (graceExpired g) s

/-- A confirmation at a segment that waits out its grace. -/
def confirmAt (face : Byte) (row : SignRow) (s : State) : State :=
  match s.segment row.segment with
  | none => s
  | some r =>
    if r.state = .notice ∧ r.grace.isSome ∧ row.approach = true ∧ faceCounts row face = true then
      enterClosing row.segment r s
    else s

/-- A sign's confirmation (R104). -/
def confirmation (sign : Nat) (face : Byte) (s : State) : State :=
  match (s.reference .signs sign).map Machine.signRow with
  | none => s
  | some row => sequencerEvent .confirmed (confirmAt face row) s

/-- CONFIRMATION_NOTICE (R104). -/
def execConfirmationNotice (sign : Nat) (face : Byte) (s : State) : Host.Outcome State Fault Refusal :=
  taken (.confirmationNotice sign face) (confirmation sign face) s

/-! ### Gates and grades (R105 to R108) -/

/-- The gate fault flag recomputed (R108). -/
def refreshGateFault (g : Nat) (s : State) : State :=
  match s.segment g with
  | none => s
  | some r => s.withSegment g { r with gateFault := s.gateFaultOf g }

/-- A notice of a configured gate's state: the flag, and the tests of CLOSING and REOPENING (R105, R107, R108).
Until the built states have been handed over the segments are gateless (R113). -/
def gateNotice (k : Nat) (s : State) : State :=
  match s.sequencerGateRow k with
  | none => s
  | some row =>
    sequencerEvent .gates
      (fun t => raisedTest row.segment (loweredTest row.segment (refreshGateFault row.segment t))) s

/-- GATE_STATE_NOTICE (R105 to R108). -/
def execGateStateNotice (k : Nat) (s : State) : Host.Outcome State Fault Refusal :=
  taken (.gateStateNotice k) (gateNotice k) s

/-- A grade event as one event: the new grade, the GRADE claim's action, and the reopen test (R71, R106). -/
def takeGrade (g grade : Nat) (action : Option ClaimAction) (s : State) : State :=
  match s.segment g with
  | none => s
  | some r =>
    let t := s.withSegment g { r with grade := grade }
    let u :=
      match action with
      | none => t
      | some .place => placeClaim sourceGrade true g t
      | some .remove => removeClaims [sourceGrade] g t
    reopenTest g u

/-- The cause of a grade event's report. -/
def gradeCause : Option ClaimAction → SegmentCause
  | none => .grade
  | some _ => .claim

/-- GRADE_EVENT (R71, R99, R106). -/
def execGradeEvent (g grade : Nat) (action : Option ClaimAction) (s : State) : Host.Outcome State Fault Refusal :=
  taken (.gradeEvent g grade action) (sequencerEvent (gradeCause action) (takeGrade g grade action)) s

/-! ### The clock and the schedule (R110, R111) -/

/-- One pair of an evaluation: the entry's claim made present or absent on the segment. -/
def evaluatePair (e g : Nat) (s : State) : State :=
  match s.scheduleRow e, s.segmentRow g, s.segment g with
  | some row, some seg, some r =>
    if maskHas row.mask g then
      if claimDue row seg.normalLead s.sequencer.clock then placeClaim (sourceSchedule0 + e) false g s
      else if (mapGet r.claims (sourceSchedule0 + e)).isSome then removeClaims [sourceSchedule0 + e] g s
      else s
    else s
  | _, _, _ => s

/-- One evaluation: every pair, in increasing entry order, then increasing segment order (R111). -/
def evaluateSchedule (s : State) : State :=
  forEach (List.range 32) (fun e => forEach (List.range 8) (evaluatePair e)) s

/-- The clock one second on (R110). -/
def Clock.tick (c : Clock) : Clock :=
  if c.second < 86399 then { c with second := c.second + 1, next := c.next + 10 }
  else { day := if c.day < 65535 then c.day + 1 else 0, second := 0, next := c.next + 10 }

/-- The clock replaced. -/
def State.withClock (s : State) (c : Option Clock) : State := s.withSequencer { s.sequencer with clock := c }

/-- A second of the clock: it advances and the schedule is evaluated. -/
def clockSecond (s : State) : State :=
  match s.sequencer.clock with
  | none => s
  | some c => sequencerEvent .claim evaluateSchedule ((s.reach c.next).withClock (some c.tick))

/-- CLOCK_SECOND (R110, R111). -/
def execClockSecond (s : State) : Host.Outcome State Fault Refusal := taken .clockSecond clockSecond s

/-- The schedule evaluated, and every segment in NOTICE recomputing its parameter (R110). -/
def evaluateAfterSet (s : State) : State := forEach (List.range 8) refreshParameter (evaluateSchedule s)

/-- SET TIME taken by the Closure Sequencer. One sent to broadcast is not answered. The REPLY is offered before the
SEGMENT reports of the evaluation it causes: R100 orders the two for CLOSE SEGMENT, no rule for SET TIME, and the order
here is the model's (log 46). -/
def setTime (tag : Byte) (broadcast : Bool) (day : BitVec 16) (second : BitVec 24) (s : State) : State :=
  if s.sequencer.started = false then s.deferred (.setTime tag broadcast day second)
  else if 86400 ≤ second.toNat then
    if broadcast then s else s.reply 0x22 tag badArgument []
  else
    let c : Clock := { day := day.toNat, second := second.toNat, next := s.now + 10 }
    let t := segmentEvent .claim evaluateAfterSet (s.withClock (some c))
    let u := if broadcast then t
      else t.reply 0x22 tag done (clockItem s.sequencer.clock ++ clockItem (some c))
    zeroLeads s u

/-- SET_TIME (R110, R111). -/
def execSetTime (tag : Byte) (broadcast : Bool) (day : BitVec 16) (second : BitVec 24) (s : State) :
    Host.Outcome State Fault Refusal :=
  taken (.setTime tag broadcast day second) (setTime tag broadcast day second) s

/-- SCHEDULE has become ACTIVE: its present rows are taken into use and evaluated at once (R114). A notice of a region
that has been cleared since changes nothing: no evaluation is made until a new activation (R111). -/
def scheduleEnters (s : State) : State :=
  if s.active .schedule then
    sequencerEvent .claim evaluateSchedule
      (s.withSequencer { s.sequencer with scheduleIn := true, scheduleRows := s.serviceRows .schedule })
  else s

/-- SCHEDULE_INTO_SERVICE (R111, R114). -/
def execScheduleIntoService (s : State) : Host.Outcome State Fault Refusal :=
  taken .scheduleIntoService scheduleEnters s

/-! ### Derivation (R112, R113) -/

/-- A configured gate of the segment is not RAISED. -/
def State.someGateDown (s : State) (g : Nat) : Bool :=
  (s.configuredGates g).any fun k => s.gateState k != .raised

/-- The order given to every configured gate of a segment. -/
def orderGates (g : Nat) (o : GateOrder) (s : State) : State :=
  s.handAll ((s.configuredGates g).map fun k => .orderEvent k o)

/-- An OPEN segment at a derivation: the RESTART claim and CLOSING where a gate is not RAISED, and RAISE otherwise. -/
def deriveOpen (g : Nat) (r : SegmentRec) (s : State) : State :=
  if s.someGateDown g then
    enterClosing g
      { r with claims := mapPut r.claims sourceRestart { urgent := true, placed := s.now } } s
  else orderGates g .raise s

/-- A segment's starting state (R112). -/
def deriveStart (g : Nat) (s : State) : State :=
  match s.segment g with
  | none => s
  | some r =>
    let r' := { r with gateFault := s.gateFaultOf g }
    deriveOpen g r' (s.withSegment g r')

/-- The paths whose decision is CLAIMED and whose exposed mask names the segment. -/
def State.claimingPaths (s : State) (g : Nat) : List Nat :=
  (mapKeys s.monitor.paths).filter fun p =>
    ((mapGet s.monitor.paths p).any fun r => r.decision == .claimed) &&
      (s.pathRow p).any fun row => maskHas row.mask g

/-- The standing GRADE and PATH claims placed on a segment as ordinary placements (R112). -/
def deriveClaims (g : Nat) (s : State) : State :=
  match s.segment g, s.segmentRow g with
  | some r, some row =>
    let t := if r.grade = 5 ∧ row.gradeCloses = true then placeClaim sourceGrade true g s else s
    forEach (t.claimingPaths g) (fun p => placeClaim (sourcePath0 + p) true g) t
  | _, _ => s

/-- The report and the urgency notice of one segment after the derivation. -/
def deriveOutcome (g : Nat) (s : State) : State :=
  match s.segment g with
  | none => s
  | some r =>
    let t := if r.urgent then s.hand (.urgencyNotice g true) else s
    if r.state = .opened then t else t.report reportSegment (segmentData t g .opened r .derivation)

/-- The present rows of SEGMENTS taken into use, a record built for each. -/
def makeSegments (s : State) : State :=
  let rows := s.serviceRows .segments
  s.withSequencer
    { s.sequencer with
      inService := true, segmentRows := rows, withheld := []
      segments := rows.map fun e => (e.1, .built (s.readGrade e.1)) }

/-- The records built for each present row and each segment's starting state derived (R112). -/
def buildSegments (s : State) : State :=
  let t := evaluateSchedule
    (forEach (List.range 8) deriveClaims (forEach (List.range 8) deriveStart (makeSegments s)))
  zeroLeads (s.withSequencer { s.sequencer with segments := [] }) (forEach (List.range 8) deriveOutcome t)

/-- SEGMENTS has become ACTIVE. A notice of a region that has been cleared since changes nothing (R35). -/
def segmentsEnter (s : State) : State := if s.active .segments then buildSegments s else s

/-- SEGMENTS_INTO_SERVICE (R112). -/
def execSegmentsIntoService (s : State) : Host.Outcome State Fault Refusal :=
  taken .segmentsIntoService segmentsEnter s

/-- SEGMENTS has left service: every record is discarded (R112). -/
def dropSegments (s : State) : State :=
  s.withSequencer { s.sequencer with inService := false, segmentRows := [], segments := [], withheld := [] }

/-- SEGMENTS_OUT_OF_SERVICE (R112). -/
def execSegmentsOutOfService (s : State) : Host.Outcome State Fault Refusal :=
  taken .segmentsOutOfService dropSegments s

/-- A segment in NOTICE at a re-derivation: RAISE to the gates that are RAISED, withheld from the others (R113). -/
def withholdOrders (g : Nat) (s : State) : State :=
  let gs := s.configuredGates g
  let t := s.handAll ((gs.filter fun k => s.gateState k == .raised).map fun k => .orderEvent k .raise)
  t.withSequencer
    { t.sequencer with
      withheld := (gs.filter fun k => s.gateState k != .raised).foldl setInsert t.sequencer.withheld }

/-- The re-derivation of one segment against the built gates (R113). -/
def rederive (g : Nat) (s : State) : State :=
  match s.segment g with
  | none => s
  | some r0 =>
    let r := { r0 with gateFault := s.gateFaultOf g }
    let t := s.withSegment g r
    match r.state with
    | .opened => deriveOpen g r t
    | .notice => withholdOrders g t
    | .closing => loweredTest g (orderGates g .lower t)
    | .reopening => raisedTest g (orderGates g .raise t)
    | .closed =>
      if t.allGates g .lowered then orderGates g .lower t
      else orderGates g .lower (enterState g { r with blocked := false } .closing t)

/-- The Gate Drive Units have handed over their built states: every segment re-derived, in order (R113). Built states
of a region that has been cleared since change nothing: the segments stay gateless. -/
def gatesBuilt (s : State) : State :=
  if s.active .gates then
    sequencerEvent .gates (forEach (List.range 8) rederive)
      (s.withSequencer { s.sequencer with gatesBuilt := true, gateRows := s.drives.rows, withheld := [] })
  else s

/-- GATES_BUILT_NOTICE (R113). -/
def execGatesBuiltNotice (s : State) : Host.Outcome State Fault Refusal :=
  taken .gatesBuiltNotice gatesBuilt s

/-- A segment that has become gateless (R113). -/
def becomeGateless (g : Nat) (s : State) : State := raisedTest g (loweredTest g (refreshGateFault g s))

/-- GATES has left service: every segment becomes gateless. -/
def gatesGone (s : State) : State :=
  sequencerEvent .gates (forEach (List.range 8) becomeGateless)
    (s.withSequencer { s.sequencer with gatesBuilt := false, gateRows := [], withheld := [] })

/-- SEQUENCER_GATES_OUT_OF_SERVICE (R113). -/
def execSequencerGatesOutOfService (s : State) : Host.Outcome State Fault Refusal :=
  taken .sequencerGatesOutOfService gatesGone s

/-- What the Closure Sequencer's own requests do. -/
def sequencerRequest : Instr → Option (State → State)
  | .closeSegment tag segment urgent => some (closeSegment tag segment urgent)
  | .releaseSegment tag segment => some (releaseSegment tag segment)
  | .setTime tag broadcast day second => some (setTime tag broadcast day second)
  | _ => none

/-- The Closure Sequencer at its start: the rows of SCHEDULE and the built gates it finds (R112). -/
def startedSequencer (s : State) : Sequencer :=
  let built := s.drives.started && s.active .gates
  { started := true, inService := false, scheduleIn := s.active .schedule, gatesBuilt := built
    segmentRows := [], scheduleRows := s.serviceRows .schedule, gateRows := if built then s.drives.rows else []
    withheld := [], segments := [], clock := s.sequencer.clock }

/-- The Closure Sequencer starts: its records built where SEGMENTS is ACTIVE (R112); then it takes the requests that
have waited for it (R169). -/
def sequencerStarts (s : State) : State :=
  takeWaiting sequencerRequest (segmentsEnter (s.withSequencer (startedSequencer s)))

/-- CLOSURE_SEQUENCER_START (R112). -/
def execClosureSequencerStart (s : State) : Host.Outcome State Fault Refusal :=
  taken .closureSequencerStart sequencerStarts s

/-! ### Conversion (R34) -/

/-- The lesser of two numbers, the first of which may be none. -/
def leastOf (acc : Option Nat) (n : Nat) : Option Nat := some ((acc.map fun a => min a n).getD n)

/-- The CENTRE claim that stands in place of converted claims. -/
def convertedClaim (centre : Option Claim) (converted : Map Claim) : Claim :=
  let urgent := converted.any fun e => e.2.urgent
  match centre with
  | some c => { c with urgent := c.urgent || urgent }
  | none =>
    { urgent := urgent
      placed := (converted.foldl (fun acc e => leastOf acc e.2.placed) none).getD 0 }

/-- A claim set with the claims of the sources `lo` to `hi` converted. -/
def convertClaims (lo hi : Nat) (claims : Map Claim) : Map Claim :=
  let converted := claims.filter fun e => within e.1 lo hi
  if converted.isEmpty then claims
  else mapPut (claims.filter fun e => !within e.1 lo hi) sourceCentre
    (convertedClaim (mapGet claims sourceCentre) converted)

/-- The conversion at one segment. Where its set changes, and only there, a NOTICE parameter is recomputed (R109). -/
def convertAt (lo hi g : Nat) (s : State) : State :=
  match s.segment g with
  | none => s
  | some r =>
    if r.claims.any fun e => within e.1 lo hi then
      refreshParameter g (s.withSegment g { r with claims := convertClaims lo hi r.claims })
    else s

/-- The conversion of the claims of a cleared region's sources, as one event. -/
def convertSources (lo hi : Nat) (s : State) : State :=
  segmentEvent .conversion (forEach (List.range 8) (convertAt lo hi)) s

/-- A claim event of a path. -/
def isPathClaim : Instr → Bool
  | .claimPlacement (.path _) _ _ => true
  | .claimRemoval (.path _) _ => true
  | _ => false

/-- A waiting claim event taken. -/
def takeClaimEvent (s : State) (c : Instr) : State :=
  match c with
  | .claimPlacement source urgent mask => placement source urgent mask s
  | .claimRemoval source mask => removal source mask s
  | _ => s

/-- The claim events that paths have made and that still wait are taken, in order, before a conversion of PATH claims,
so that no claim of a cleared path is left behind (log 30). -/
def takeWaitingClaims (s : State) : State :=
  (s.handed.filter isPathClaim).foldl takeClaimEvent (s.withHanded (s.handed.filter fun c => !isPathClaim c))

/-- PATHS is cleared: its sources' claims are converted. -/
def convertPaths (s : State) : State := convertSources sourcePath0 (sourcePath0 + 15) (takeWaitingClaims s)

/-- SCHEDULE is cleared: its sources' claims are converted and no further evaluation is made. -/
def convertSchedule (s : State) : State :=
  let t := convertSources sourceSchedule0 (sourceSchedule0 + 31) s
  t.withSequencer { t.sequencer with scheduleIn := false, scheduleRows := [] }

end Sys2Proof.Machine
end

