-- ==== Sys2Proof/Machine/Gates.lean ====
section
/-!
DEFINITION. The Gate Drive Units (chapter 7): orders, waiting to lower, travels and their ends, reversal and
obstacles, faults, the presence monitor, GATE STOP and GATE RESUME, and GATES in and out of service.

An operation of one event answers the state it leaves and the causes of the GATE reports it asks for; `gateEvent`
formats them when the event is over, so that a report shows the record after the event.
-/

namespace Sys2Proof.Machine

/-- A state with the causes of the reports asked for so far. -/
abbrev GateRun := State × List GateCause

/-! ### Records -/

/-- A configured gate's record and row. Once GATES is cleared there is none (R32, R117, R138). -/
def State.gateOf (s : State) (k : Nat) : Option (GateRec × GateRow) :=
  if s.serves .gates .gatesOutOfService then
    match mapGet s.drives.gates k, s.gateRow k with
    | some g, some row => if g.state = .unconfigured then none else some (g, row)
    | _, _ => none
  else none

/-- A gate's record stored. A change of state is handed to the Closure Sequencer (R119). -/
def putGate (k : Nat) (g : GateRec) (s : State) : State :=
  let t := s.withDrives { s.drives with gates := mapPut s.drives.gates k g }
  if s.gateState k = g.state then t else t.hand (.gateStateNotice k)

/-- Presence clearance of a gate at this moment (R133). -/
def State.clearance (s : State) (row : GateRow) (g : GateRec) : Bool := clearanceOf row g.presence s.now

/-- Whether the way beneath a gate is clear at this moment (R123). -/
def State.clearWay (s : State) (k : Nat) (row : GateRow) (g : GateRec) : Bool :=
  wayClear row g.presence (s.gatePins k).safety s.now

/-- A gate's segment, or none while the reference is absent. -/
def State.gateSegment (s : State) (k : Nat) : Option Nat :=
  ((s.gateRow k).map GateRow.segment).filter fun g => (s.reference .segments g).isSome

/-! ### Reports (R137) -/

/-- The presence items: fitted flag, level, elapsed time, last high, last low (log 23). R132 lists the level's values
and R178 gives them no numbers: the level is sent as a flag, high 1 and low 0 (log 10). -/
def presenceData (now : Nat) : Option Presence → Bytes
  | none => List.replicate 8 0
  | some p => 1 :: flagByte p.level ++ be 2 (p.elapsed now) ++ be 2 p.lastHigh ++ be 2 p.lastLow

/-- The loop fault of a monitor. -/
def loopFaultOf (p : Option Presence) : Bool := p.any Presence.loopFault

/-- GATE data (R137). -/
def gateData (s : State) (k : Nat) (before : GateState) (g : GateRec) (cause : GateCause) : Bytes :=
  byteOf k ++ indexOrNone (s.gateSegment k) ++ byteOf (GateState.num before) ++ byteOf (GateState.num g.state) ++
    byteOf (Phase.num g.phase) ++ byteOf (orderNum g.order) ++ countItem g.count ++ flagByte g.homed ++
    byteOf g.encoderErrors ++ byteOf g.retries ++ byteOf (FaultCause.num g.cause) ++
    byteOf (Admission.num g.admission) ++ presenceData s.now g.presence ++ flagByte (loopFaultOf g.presence) ++
    be 4 g.travels ++ byteOf (GateCause.num cause)

/-- One GATE report of a gate, its state before the event given. -/
def gateReport (k : Nat) (before : GateState) (s : State) (cause : GateCause) : State :=
  match mapGet s.drives.gates k with
  | none => s
  | some g => s.report reportGate (gateData s k before g cause)

/-- An event at a configured gate, with the reports it asks for. -/
def gateEvent (k : Nat) (f : GateRec → GateRow → State → GateRun) (s : State) : State :=
  match s.gateOf k with
  | none => s
  | some (g, row) =>
    let r := f g row s
    r.2.foldl (gateReport k g.state) r.1

/-! ### Readings (R121) -/

/-- The rest reading: the state it gives, with the count and the homed flag. -/
def restReading (row : GateRow) (p : GatePins) (g : GateRec) : GateRec :=
  if p.home && p.closedEnd then { g with state := .unhomed, homed := false }
  else if p.home then { g with state := .raised, count := 0, homed := true }
  else if p.closedEnd then { g with state := .lowered, count := row.travelCount, homed := true }
  else if g.homed && nearEnd g.count 0 row.tolerance then { g with state := .raised }
  else if g.homed && nearEnd g.count row.travelCount row.tolerance then { g with state := .lowered }
  else { g with state := .unhomed }

/-! ### Admission (R122, R123) -/

/-- A request withdrawn, or an admission handed back. -/
def giveUp (k : Nat) (g : GateRec) (s : State) : State :=
  match g.admission with
  | .noAdmission => s
  | .requested => s.hand (.requestWithdrawn k)
  | .held => s.hand (.handBack k)

/-- A gate at rest takes the given record and asks for a raise. -/
def requestRaise (k : Nat) (row : GateRow) (g : GateRec) (s : State) : State :=
  if g.admission = .noAdmission then
    (putGate k { g with admission := .requested } s).hand (.admissionRequest k .raising row.draw)
  else putGate k g s

/-- A HELD gate with a LOWER order whose way is clear, and which has no request, asks for a lowering (R123; log 15).
The vehicle wait timer stops (R134). -/
def askLowering (k : Nat) (row : GateRow) (g : GateRec) (s : State) : State :=
  if g.state = .held ∧ g.order = .lower ∧ g.admission = .noAdmission ∧ s.clearWay k row g = true then
    (putGate k { g with admission := .requested, vehicleTimer := none } s).hand
      (.admissionRequest k .lowering row.draw)
  else putGate k g s

/-- A gate enters HELD: the vehicle wait timer starts where presence clearance does not hold (R134), and the gate asks
for admission where the way is clear. -/
def enterHeld (k : Nat) (row : GateRow) (g : GateRec) (s : State) : State :=
  askLowering k row
    { g with
      state := .held
      phase := .noPhase
      vehicleTimer := if s.clearance row g then none else some (s.now + seconds row.vehicleLimit) } s

/-! ### Faults (R129) -/

/-- The report cause of a fault. -/
def faultReport : FaultCause → List GateCause
  | .noCause => []
  | .stall => [.stall]
  | .timeout => [.timeout]
  | .position => [.position]
  | .home => [.home]
  | .encoder => [.encoder]
  | .obstacle => [.obstacleFault]

/-- A gate's record in FAULT. -/
def faulted (cause : FaultCause) (g : GateRec) : GateRec :=
  { g with
    state := .fault, phase := .noPhase, cause := cause, admission := .noAdmission, obstacleRaise := false
    homed := g.homed && cause != .encoder
    phaseTimer := none, stallTimer := none, travelTimer := none, vehicleTimer := none, begun := false }

/-- A gate goes to FAULT. -/
def goFault (k : Nat) (cause : FaultCause) (g : GateRec) (s : State) : GateRun :=
  (putGate k (faulted cause g) (giveUp k g s), faultReport cause)

/-! ### Ends of travel (R125, R126, R131, R137) -/

/-- The completed travels after a settle: one more when the travel began at START. -/
def travelsAfter (g : GateRec) : Nat := if g.begun then (g.travels + 1) % 4294967296 else g.travels

/-- The end of the settle of a lowering: the end check. -/
def settleLowered (k : Nat) (row : GateRow) (g : GateRec) (s : State) : GateRun :=
  if (s.gatePins k).closedEnd || nearEnd g.count row.travelCount row.tolerance then
    let r := { g with state := .lowered, phase := .noPhase, phaseTimer := none, retries := 0
                      travels := travelsAfter g, begun := false }
    (if r.order = .raise then requestRaise k row r s else putGate k r s, [.lowered])
  else goFault k .position g s

/-- The end of the settle of a raising: an obstacle raise under a LOWER order goes on as R131 gives. -/
def settleRaised (k : Nat) (row : GateRow) (g : GateRec) (s : State) : GateRun :=
  let r := { g with phase := .noPhase, phaseTimer := none, obstacleRaise := false
                    travels := travelsAfter g, begun := false }
  if g.obstacleRaise ∧ g.order = .lower then
    let h := { r with retries := saturate Config.obstacleLimit (g.retries + 1) }
    if h.retries < Config.obstacleLimit then (enterHeld k row h s, []) else goFault k .obstacle h s
  else if g.order = .lower then
    (enterHeld k row { r with state := .raised } (putGate k { r with state := .raised } s), [.raised])
  else (putGate k { r with state := .raised } s, [.raised])

/-- The end of a settle. -/
def settleEnd (k : Nat) (row : GateRow) (g : GateRec) (s : State) : GateRun :=
  if g.state = .lowering then settleLowered k row g s else settleRaised k row g s

/-- The state of a travel in a direction. -/
def travelState : Direction → GateState
  | .lowering => .lowering
  | .raising => .raising

/-- A gate enters SETTLE of a direction: motor off, admission handed back. A settle time of 0 ends at once (log 34). -/
def enterSettle (k : Nat) (dir : Direction) (row : GateRow) (g : GateRec) (s : State) : GateRun :=
  let r := { g with state := travelState dir, phase := .settle, admission := .noAdmission
                    phaseTimer := some (s.now + row.settleTime), stallTimer := none, travelTimer := none }
  let t := putGate k r (giveUp k g s)
  if row.settleTime = 0 then settleEnd k row r t else (t, [])

/-! ### Travels (R124, R128, R130) -/

/-- A gate enters RUN: the stall and travel timers start. -/
def running (row : GateRow) (now : Nat) (g : GateRec) : GateRec :=
  { g with phase := .run, phaseTimer := none, stallTimer := some (now + row.stallTime)
           travelTimer := some (now + seconds row.travelLimit) }

/-- A gate enters STOPPING; its admission stays held (R130). -/
def stopping (row : GateRow) (now : Nat) (g : GateRec) : GateRec :=
  { g with state := .stopping, phase := .noPhase, stallTimer := none, travelTimer := none
           phaseTimer := some (now + row.dwell), begun := false }

/-- The reversal by the safety edge (R131). -/
def obstacleReversal (k : Nat) (row : GateRow) (g : GateRec) (s : State) : GateRun :=
  (putGate k (stopping row s.now { g with obstacleRaise := true }) s, [.obstacle])

/-- A gate's record at entry to START, with the admission it holds. -/
def starting (dir : Direction) (row : GateRow) (now : Nat) (g : GateRec) : GateRec :=
  { g with state := travelState dir, phase := .start, admission := .held, encoderErrors := 0, begun := true
           phaseTimer := some (now + row.startDelay), vehicleTimer := none }

/-- A travel begins (R124). A lowering with the safety edge active reverses at once (R131); a start delay of 0 enters
RUN at once. -/
def beginTravel (k : Nat) (dir : Direction) (row : GateRow) (g : GateRec) (s : State) : GateRun :=
  let r := starting dir row s.now g
  let t := putGate k r s
  if dir = .lowering ∧ (s.gatePins k).safety then obstacleReversal k row r t
  else if row.startDelay = 0 then (putGate k (running row s.now r) t, [])
  else (t, [])

/-- The direction a gate chooses at the end of a reversal dwell; none with order NONE. -/
def dwellDirection (g : GateRec) : Option Direction :=
  if g.obstacleRaise then some .raising
  else match g.order with
    | .lower => some .lowering
    | .raise => some .raising
    | .noOrder => none

/-- The end of the reversal dwell (R130). With order NONE the gate hands its admission back and rests as the rest
reading gives (log 16). -/
def dwellEnd (k : Nat) (g : GateRec) (row : GateRow) (s : State) : GateRun :=
  let r := { g with phaseTimer := none }
  match dwellDirection g with
  | none =>
    (putGate k (restReading row (s.gatePins k) { r with admission := .noAdmission }) (giveUp k g s), [])
  | some dir =>
    if targetMet row g (s.gatePins k) dir then enterSettle k dir row { r with begun := false } s
    else if dir = .lowering ∧ s.clearWay k row g = false then
      (enterHeld k row { r with admission := .noAdmission } (giveUp k g s), [])
    else beginTravel k dir row r s

/-! ### Orders (R122) -/

/-- A gate in LOWERED, UNHOMED, RAISED or HELD taking a LOWER order. -/
def lowerAtRest (k : Nat) (row : GateRow) (g : GateRec) (s : State) : State :=
  match g.state with
  | .unhomed => enterHeld k row { g with admission := .noAdmission } (giveUp k g s)
  | .raised => enterHeld k row g s
  | .lowered => putGate k { g with admission := .noAdmission } (giveUp k g s)
  | .held => askLowering k row g s
  | _ => putGate k g s

/-- A HELD gate taking a RAISE order: the rest reading, and a raise where it is not RAISED. -/
def raiseHeld (k : Nat) (row : GateRow) (g : GateRec) (s : State) : State :=
  let r := restReading row (s.gatePins k) { g with admission := .noAdmission, vehicleTimer := none }
  let t := giveUp k g s
  if r.state = .raised then putGate k r t else requestRaise k row r t

/-- An order for a gate whose record it now holds. -/
def actOnOrder (k : Nat) (g : GateRec) (row : GateRow) (s : State) : State :=
  match g.order with
  | .noOrder => putGate k { g with admission := if g.admission = .requested then .noAdmission else g.admission }
      (if g.admission = .requested then giveUp k g s else s)
  | .lower =>
    if g.state = .raising ∧ g.moving = true then putGate k (stopping row s.now g) s
    else lowerAtRest k row g s
  | .raise =>
    let r := { g with retries := 0 }
    match g.state with
    | .unhomed => requestRaise k row r s
    | .lowered => requestRaise k row r s
    | .held => raiseHeld k row r s
    | .lowering => if g.moving then putGate k (stopping row s.now r) s else putGate k r s
    | _ => putGate k r s

/-- An order event taken. An order equal to the one held changes nothing. -/
def takeOrder (o : GateOrder) (k : Nat) (g : GateRec) (row : GateRow) (s : State) : GateRun :=
  if g.order = o then (s, []) else (actOnOrder k { g with order := o } row s, [])

/-- ORDER_EVENT (R122). -/
def execOrderEvent (k : Nat) (o : GateOrder) (s : State) : Host.Outcome State Fault Refusal :=
  taken (.orderEvent k o) (gateEvent k (takeOrder o k)) s

/-- A gate whose segment reference is absent: its order becomes NONE and any request is withdrawn. -/
def loseSegment (k : Nat) (s : State) : State :=
  if (s.gateSegment k).isNone then gateEvent k (takeOrder .noOrder k) s else s

/-- SEGMENT_REFERENCE_ABSENT (R36, R122). The four gates lose their orders in one step, and their withdrawals are handed
in rising gate index, so that a later gate may be granted, and hand the grant back, before the Allocator takes that
gate's own withdrawal. The manual orders the gates nowhere: this is the model's choice (DESIGN CHOICE, log 51). -/
def execSegmentReferenceAbsent (s : State) : Host.Outcome State Fault Refusal :=
  taken .segmentReferenceAbsent (forEach (List.range 4) loseSegment) s

/-! ### Grants (R123) -/

/-- A gate that waits for a raising. -/
def wantsRaise (g : GateRec) : Bool :=
  g.state == .unhomed || g.state == .lowered || g.state == .raised

/-- A grant at a configured gate. A grant of a request no longer held is handed back at once. R123 does not say which
request a grant answers where the gate has withdrawn one and asked again in the same direction: it answers the one now
held. A raise that was asked for begins although the segment has meanwhile entered NOTICE with claims: R123 begins it
without a test, and R124's law of an empty claim set is not tested here (log 17). -/
def grantAt (dir : Direction) (k : Nat) (g : GateRec) (row : GateRow) (s : State) : GateRun :=
  if g.admission = .requested ∧ dir = .lowering ∧ g.state = .held then
    if s.clearWay k row g then beginTravel k .lowering row g s
    else (putGate k { g with admission := .noAdmission } (s.hand (.handBack k)), [])
  else if g.admission = .requested ∧ dir = .raising ∧ wantsRaise g = true then beginTravel k .raising row g s
  else (s.hand (.handBack k), [])

/-- A grant that reaches a gate channel. -/
def takeGrant (k : Nat) (dir : Direction) (s : State) : State :=
  if (s.gateOf k).isSome then gateEvent k (grantAt dir k) s else s.hand (.handBack k)

/-- GRANT (R123, R124). -/
def execGrant (k : Nat) (dir : Direction) (s : State) : Host.Outcome State Fault Refusal :=
  taken (.grant k dir) (takeGrant k dir) s

/-! ### The encoder (R120, R121, R125 to R128) -/

/-- The place of a pair of encoder levels in the cycle. -/
def quadrature (a b : Bool) : Nat :=
  match a, b with
  | false, false => 0
  | true, false => 1
  | true, true => 2
  | false, true => 3

/-- What a change of the pair is: places moved along the cycle, modulo 4. -/
def placesMoved (a b a' b' : Bool) : Nat := (quadrature a' b' + 4 - quadrature a b) % 4

/-- A counted edge: the count moved by one, then the switches (R120, R121). -/
def countEdge (row : GateRow) (forward : Bool) (p : GatePins) (g : GateRec) : GateRec :=
  let moved := g.count + (if forward != row.reversed then 1 else -1)
  if homeAlone p then { g with count := 0, homed := true }
  else if closedAlone p then { g with count := row.travelCount, homed := true }
  else { g with count := moved }

/-- The stall timer restarted in RUN by a counted edge (R128). -/
def restartStall (row : GateRow) (now : Nat) (g : GateRec) : GateRec :=
  if g.inTravel && g.phase == .run then { g with stallTimer := some (now + row.stallTime) } else g

/-- The end tests of a travel at a counted edge (R125 to R127). -/
def testEnd (k : Nat) (row : GateRow) (g : GateRec) (s : State) : GateRun :=
  if g.moving = false then (putGate k g s, [])
  else if g.state = .lowering then
    if g.homed = true ∧ (row.travelCount : Int) ≤ g.count then enterSettle k .lowering row g s
    else (putGate k g s, [])
  else if homeAlone (s.gatePins k) then enterSettle k .raising row g s
  else if g.homed = true ∧ g.count ≤ -(row.tolerance : Int) then goFault k .home g s
  else (putGate k g s, [])

/-- An illegal transition: counted within a travel, and a FAULT at the limit (R120). -/
def illegalEdge (k : Nat) (g : GateRec) (s : State) : GateRun :=
  if g.inTravel then
    let r := { g with encoderErrors := saturate Config.encoderErrorLimit (g.encoderErrors + 1) }
    if Config.encoderErrorLimit ≤ r.encoderErrors then goFault k .encoder r s else (putGate k r s, [])
  else (s, [])

/-- A change of the pair at a configured gate, the pins already read. -/
def edgeAt (moved : Nat) (k : Nat) (g : GateRec) (row : GateRow) (s : State) : GateRun :=
  match moved with
  | 0 => (s, [])
  | 2 => illegalEdge k g s
  | n => testEnd k row (restartStall row s.now (countEdge row (n == 1) (s.gatePins k) g)) s

/-- A gate channel's pins replaced. -/
def State.withPins (s : State) (k : Nat) (p : GatePins) : State :=
  s.withDrives { s.drives with pins := mapPut s.drives.pins k p }

/-- The encoder pair and the switches of a channel as they now stand; a pair that has not changed is no edge, and the
switches by their own changes change nothing (log 22). -/
def encoderEdge (k : Nat) (a b home closedEnd : Bool) (s : State) : State :=
  if 3 < k then s
  else
    let p := s.gatePins k
    gateEvent k (edgeAt (placesMoved p.encoderA p.encoderB a b) k)
      (s.withPins k { p with encoderA := a, encoderB := b, home := home, closedEnd := closedEnd })

/-- ENCODER_EDGE (R120, R121, R125 to R127). -/
def execEncoderEdge (k : Nat) (a b home closedEnd : Bool) (s : State) : Host.Outcome State Fault Refusal :=
  taken (.encoderEdge k a b home closedEnd) (encoderEdge k a b home closedEnd) s

/-! ### Timers of a travel (R124, R125, R128, R130) -/

/-- An expiry of a timer that a gate's record picks: running time moves to it, and the event follows. -/
def gateExpiry (k : Nat) (timer : GateRec → Option Nat) (f : GateRec → GateRow → State → GateRun) (s : State) :
    State :=
  match (s.gateOf k).bind fun e => timer e.1 with
  | none => s
  | some e => gateEvent k f (s.reach e)

/-- The phase timer while it measures a start delay. -/
def startTimer (g : GateRec) : Option Nat := if g.inTravel && g.phase == .start then g.phaseTimer else none

/-- The phase timer while it measures a settle. -/
def settleTimer (g : GateRec) : Option Nat := if g.inTravel && g.phase == .settle then g.phaseTimer else none

/-- The phase timer while it measures a reversal dwell. -/
def dwellTimer (g : GateRec) : Option Nat := if g.state = .stopping then g.phaseTimer else none

/-- START_DELAY_EXPIRY (R124). -/
def execStartDelayExpiry (k : Nat) (s : State) : Host.Outcome State Fault Refusal :=
  taken (.startDelayExpiry k)
    (gateExpiry k startTimer fun g row s => (putGate k (running row s.now g) s, [])) s

/-- SETTLE_EXPIRY (R125, R126, R131). -/
def execSettleExpiry (k : Nat) (s : State) : Host.Outcome State Fault Refusal :=
  taken (.settleExpiry k) (gateExpiry k settleTimer fun g row s => settleEnd k row g s) s

/-- REVERSAL_DWELL_EXPIRY (R130). -/
def execReversalDwellExpiry (k : Nat) (s : State) : Host.Outcome State Fault Refusal :=
  taken (.reversalDwellExpiry k) (gateExpiry k dwellTimer (dwellEnd k)) s

/-- STALL_TIMER_EXPIRY (R128). -/
def execStallTimerExpiry (k : Nat) (s : State) : Host.Outcome State Fault Refusal :=
  taken (.stallTimerExpiry k) (gateExpiry k GateRec.stallTimer fun g _ s => goFault k .stall g s) s

/-- TRAVEL_TIMER_EXPIRY (R128). -/
def execTravelTimerExpiry (k : Nat) (s : State) : Host.Outcome State Fault Refusal :=
  taken (.travelTimerExpiry k) (gateExpiry k GateRec.travelTimer fun g _ s => goFault k .timeout g s) s

/-! ### The safety edge and the presence loop (R131 to R134) -/

/-- The safety edge at a configured gate: a lowering reverses, a HELD gate looks again at its way. -/
def safetyAt (active : Bool) (k : Nat) (g : GateRec) (row : GateRow) (s : State) : GateRun :=
  if active = true ∧ g.state = .lowering ∧ g.moving = true then obstacleReversal k row g s
  else (askLowering k row g s, [])

/-- The level of a channel's safety edge. -/
def safetyEdge (k : Nat) (active : Bool) (s : State) : State :=
  if 3 < k then s
  else
    let p := s.gatePins k
    if p.safety = active then s
    else gateEvent k (safetyAt active k) (s.withPins k { p with safety := active })

/-- SAFETY_EDGE_CHANGE (R123, R131). -/
def execSafetyEdgeChange (k : Nat) (active : Bool) (s : State) : Host.Outcome State Fault Refusal :=
  taken (.safetyEdgeChange k active) (safetyEdge k active) s

/-- A presence monitor after a loop edge to a level (R132, R133). -/
def loopEdgeOf (level : Bool) (now : Nat) (p : Presence) : Presence :=
  if level then { p with level := true, lastLow := p.elapsed now, since := now }
  else { p with level := false, lastHigh := p.elapsed now, since := now, loopFault := false }

/-- A loop edge at a configured gate. -/
def loopAt (level : Bool) (k : Nat) (g : GateRec) (_ : GateRow) (s : State) : GateRun :=
  match g.presence with
  | none => (s, [])
  | some p =>
    if p.level = level then (s, [])
    else
      (putGate k { g with presence := some (loopEdgeOf level s.now p) } s,
        if p.loopFault && !level then [.loopClear] else [])

/-- The level of a channel's presence loop. -/
def loopEdge (k : Nat) (level : Bool) (s : State) : State :=
  if 3 < k then s
  else gateEvent k (loopAt level k) (s.withPins k { s.gatePins k with loop := level })

/-- LOOP_EDGE (R132, R133). -/
def execLoopEdge (k : Nat) (level : Bool) (s : State) : Host.Outcome State Fault Refusal :=
  taken (.loopEdge k level) (loopEdge k level) s

/-- When a monitor's loop fault is due: the loop high, the fault not yet set. -/
def faultDue (row : GateRow) (g : GateRec) : Option Nat :=
  match g.presence with
  | none => none
  | some p => if p.level && !p.loopFault then some (p.since + seconds row.presenceLimit) else none

/-- The loop has been high for the presence limit: the loop fault is set, and a HELD gate looks again at its way. -/
def setLoopFault (k : Nat) (s : State) : State :=
  match (s.gateOf k).bind fun e => faultDue e.2 e.1 with
  | none => s
  | some e =>
    gateEvent k
      (fun g row s =>
        (askLowering k row { g with presence := g.presence.map fun p => { p with loopFault := true } } s,
          [.loopFault]))
      (s.reach e)

/-- LOOP_FAULT_SET (R133). -/
def execLoopFaultSet (k : Nat) (s : State) : Host.Outcome State Fault Refusal :=
  taken (.loopFaultSet k) (setLoopFault k) s

/-- When clearance comes to hold at a HELD gate that waits for it: the loop low, no loop fault. -/
def clearanceDue (row : GateRow) (g : GateRec) : Option Nat :=
  match g.presence with
  | none => none
  | some p =>
    if g.state = .held ∧ p.level = false ∧ p.loopFault = false then some (p.since + seconds row.clearInterval)
    else none

/-- Clearance comes to hold: a HELD gate asks for admission. -/
def clearanceHolds (k : Nat) (s : State) : State :=
  match (s.gateOf k).bind fun e => clearanceDue e.2 e.1 with
  | none => s
  | some e => gateEvent k (fun g row s => (askLowering k row g s, [])) (s.reach e)

/-- PRESENCE_CLEARANCE (R123, R133). -/
def execPresenceClearance (k : Nat) (s : State) : Host.Outcome State Fault Refusal :=
  taken (.presenceClearance k) (clearanceHolds k) s

/-- VEHICLE_WAIT_EXPIRY (R134). -/
def execVehicleWaitExpiry (k : Nat) (s : State) : Host.Outcome State Fault Refusal :=
  taken (.vehicleWaitExpiry k)
    (gateExpiry k GateRec.vehicleTimer fun g _ s => (putGate k { g with vehicleTimer := none } s, [.vehicleWait])) s

/-! ### GATE STOP and GATE RESUME (R135, R136) -/

/-- A gate's record stopped by the centre. -/
def stoppedGate (g : GateRec) : GateRec :=
  { g with state := .stopped, phase := .noPhase, admission := .noAdmission, obstacleRaise := false
           phaseTimer := none, stallTimer := none, travelTimer := none, vehicleTimer := none, begun := false }

/-- GATE STOP's reply data: index, state before, position count, fault cause. -/
def stopData (k : Nat) (g : GateRec) : Bytes :=
  byteOf k ++ byteOf (GateState.num g.state) ++ countItem g.count ++ byteOf (FaultCause.num g.cause)

/-- GATE STOP taken by a Gate Drive Unit. A gate already STOPPED is answered and sends no report (log 24). -/
def gateStop (tag gate : Byte) (s : State) : State :=
  let k := gate.toNat
  if s.drives.started = false then s.deferred (.gateStop tag gate)
  else if 3 < k then s.reply 0x28 tag badArgument []
  else
    match s.gateOf k with
    | none => s.reply 0x28 tag noTable []
    | some (g, _) =>
      let t := putGate k (stoppedGate g) (giveUp k g s)
      let u := t.reply 0x28 tag done (stopData k g)
      if g.state = .stopped then u else gateReport k g.state u .stopped

/-- GATE_STOP (R135). -/
def execGateStop (tag gate : Byte) (s : State) : Host.Outcome State Fault Refusal :=
  taken (.gateStop tag gate) (gateStop tag gate) s

/-- The direction an order calls for. -/
def orderDirection : GateOrder → Option Direction
  | .noOrder => none
  | .lower => some .lowering
  | .raise => some .raising

/-- Whether a resumed travel would break a law of R124, read from the Closure Sequencer at this moment. -/
def State.breaksLaw (s : State) (row : GateRow) : Direction → Bool
  | .lowering => !((s.segment row.segment).any fun r => r.state == .closing)
  | .raising => (s.segment row.segment).any fun r => !r.claims.isEmpty

/-- What a resume does: none where it is refused. -/
def resumeAt (k : Nat) (g : GateRec) (row : GateRow) (s : State) : Option GateRun :=
  let r := { g with cause := .noCause, encoderErrors := 0, retries := 0 }
  match orderDirection g.order with
  | none => some (putGate k (restReading row (s.gatePins k) r) s, [])
  | some dir =>
    if targetMet row g (s.gatePins k) dir then some (enterSettle k dir row { r with begun := false } s)
    else if s.breaksLaw row dir then none
    else
      match dir with
      | .lowering => some (enterHeld k row r s, [])
      | .raising => some (requestRaise k row (restReading row (s.gatePins k) r) s, [])

/-- GATE RESUME's reply data: index, state after, position count, homed flag. -/
def resumeData (k : Nat) (g : Option GateRec) : Bytes :=
  match g with
  | none => []
  | some g => byteOf k ++ byteOf (GateState.num g.state) ++ countItem g.count ++ flagByte g.homed

/-- GATE RESUME taken by a Gate Drive Unit. Where a settle time of 0 ends the resume in a fault, the REPLY goes before
the GATE report: R135 orders the two for GATE STOP, no rule for a resume, and the order here is the model's (log 46). -/
def gateResume (tag gate : Byte) (s : State) : State :=
  let k := gate.toNat
  if s.drives.started = false then s.deferred (.gateResume tag gate)
  else if 3 < k then s.reply 0x29 tag badArgument []
  else
    match s.gateOf k with
    | none => s.reply 0x29 tag noTable []
    | some (g, row) =>
      if g.state = .stopped ∨ g.state = .fault then
        match resumeAt k g row s with
        | none => s.reply 0x29 tag wrongState []
        | some (t, causes) =>
          let u := t.reply 0x29 tag done (resumeData k (mapGet t.drives.gates k))
          causes.foldl (gateReport k g.state) u
      else s.reply 0x29 tag wrongState []

/-- GATE_RESUME (R136). -/
def execGateResume (tag gate : Byte) (s : State) : Host.Outcome State Fault Refusal :=
  taken (.gateResume tag gate) (gateResume tag gate) s

/-! ### GATES in and out of service, start (R138, R139) -/

/-- A presence monitor as reset (R132). -/
def presenceReset (level : Bool) (now : Nat) : Presence :=
  { level := level, since := now, lastHigh := if level then 65535 else 0, lastLow := if level then 0 else 65535
    loopFault := false }

/-- A record built for a configured gate, its completed travels kept. The count of a gate found UNHOMED is a free
value (log 13). -/
def State.builtGate (s : State) (k : Nat) (row : GateRow) (travels : Nat) : GateRec :=
  restReading row (s.gatePins k)
    { GateRec.unconfigured with
      count := Config.unhomedCount s.drawn
      presence := if row.loopFitted then some (presenceReset (s.gatePins k).loop s.now) else none
      travels := travels }

/-- A channel whose row is present builds its record; each building draws one free value. -/
def buildGate (k : Nat) (s : State) : State :=
  match mapGet s.drives.gates k, s.gateRow k with
  | some g, some row =>
    (s.withDrives { s.drives with gates := mapPut s.drives.gates k (s.builtGate k row g.travels) }).withDrawn
      (s.drawn + 1)
  | _, _ => s

/-- Every present row's channel builds its record. -/
def buildGates (s : State) : State := forEach (List.range 4) buildGate s

/-- The present rows of GATES taken into use, and the records built. -/
def useGates (s : State) : State := buildGates (s.withDrives { s.drives with rows := s.serviceRows .gates })

/-- GATES has become ACTIVE: the records built and the built states handed to the Closure Sequencer. A notice of a
region that has been cleared since changes nothing (R35). -/
def gatesEnter (s : State) : State := if s.active .gates then (useGates s).hand .gatesBuiltNotice else s

/-- GATES_INTO_SERVICE (R138). -/
def execGatesIntoService (s : State) : Host.Outcome State Fault Refusal :=
  taken .gatesIntoService gatesEnter s

/-- A configured channel becomes UNCONFIGURED; its completed travels are kept. -/
def releaseGate (k : Nat) (s : State) : State :=
  match mapGet s.drives.gates k with
  | none => s
  | some g => putGate k { GateRec.unconfigured with travels := g.travels } (giveUp k g s)

/-- GATES has left service: every channel released, no row in use. -/
def gatesLeave (s : State) : State :=
  let t := forEach (List.range 4) releaseGate s
  t.withDrives { t.drives with rows := [] }

/-- GATES_OUT_OF_SERVICE (R138). -/
def execGatesOutOfService (s : State) : Host.Outcome State Fault Refusal :=
  taken .gatesOutOfService gatesLeave s

/-- What the Gate Drive Units' own requests do. -/
def drivesRequest : Instr → Option (State → State)
  | .gateStop tag gate => some (gateStop tag gate)
  | .gateResume tag gate => some (gateResume tag gate)
  | _ => none

/-- A record built for each present row where GATES is ACTIVE, every other channel UNCONFIGURED. A Closure Sequencer
that has started before the units is handed the built states. -/
def buildDrives (s : State) : State :=
  let t := s.withDrives
    { s.drives with
      started := true
      rows := []
      gates := s.drives.gates.map fun e => (e.1, { GateRec.unconfigured with travels := e.2.travels }) }
  if t.sequencer.started then gatesEnter t else if t.active .gates then useGates t else t

/-- The Gate Drive Units start; then they take the requests that have waited for them (R169). -/
def drivesStart (s : State) : State := takeWaiting drivesRequest (buildDrives s)

/-- GATE_DRIVE_START (R139). -/
def execGateDriveStart (s : State) : Host.Outcome State Fault Refusal :=
  taken .gateDriveStart drivesStart s

end Sys2Proof.Machine
end

