-- ==== Sys2Proof/Machine/Intake.lean ====
section
/-!
DEFINITION. Sample Intake (chapter 3): the taking of SAMPLE entries, conversion and smoothing, the history ring,
channel status and ageing, and CHANNELS in and out of service.
-/

namespace Sys2Proof.Machine

/-- A channel record as built (R45). -/
def ChannelRec.built : ChannelRec :=
  { status := .never, lastRaw := none, value := 0, filtered := 0, saturated := false, ring := [], age := none
    faultRun := 0, lastSeq := none }

/-! ### Conversion and smoothing (R51 to R54) -/

/-- A sum scaled by 65536 rounded to the nearest integer, ties away from zero (R52). -/
def roundScaled (sum : Int) : Int :=
  if 0 ≤ sum then (sum + 32768) / 65536 else -((32768 - sum) / 65536)

/-- An integer clamped to the engineering range (R52). -/
def clampValue (v : Int) : Int := max (-32000) (min 32000 v)

/-- The conversion of a raw reading: the value, and whether the clamp changed it (R51, R52). -/
def convert (slope offset : Int) (raw : Nat) : Int × Bool :=
  let rounded := roundScaled ((raw : Int) * slope + offset)
  (clampValue rounded, clampValue rounded != rounded)

/-- The smoothing step for a distance `d` (R53). -/
def smoothStep (k : Nat) (d : Int) : Int :=
  if k = 0 then d
  else
    let m : Int := ((d.natAbs + 2 ^ (k - 1)) / 2 ^ k : Nat)
    if d < 0 then -m else m

/-- The filtered value moved toward a new value (R53). -/
def smooth (k : Nat) (filtered value : Int) : Int := filtered + smoothStep k (value - filtered)

/-- A value appended to the history ring as the newest, the oldest removed from a full one (R54). -/
def ringPush (ring : List Int) (v : Int) : List Int :=
  (if ring.length < Config.ringSize then ring else ring.drop 1) ++ [v]

/-! ### Entries (R47 to R50) -/

/-- An entry of a SAMPLE frame. -/
structure SampleEntry where
  stationChannel : Nat
  quality : Byte
  raw : Nat
  deriving DecidableEq, Repr

/-- Entry `i` of a SAMPLE payload (chapter 11). -/
def sampleEntry (payload : Bytes) (i : Nat) : SampleEntry :=
  { stationChannel := field payload (2 + 4 * i) 1, quality := byteAt payload (3 + 4 * i)
    raw := field payload (4 + 4 * i) 2 }

/-- The entries of a SAMPLE payload whose count and length agree (R46). -/
def sampleEntries (payload : Bytes) : Option (List SampleEntry) :=
  let n := field payload 1 1
  if 1 ≤ n ∧ n ≤ 8 ∧ payload.length = 2 + 4 * n then some ((List.range n).map (sampleEntry payload)) else none

/-- A bad entry (R49): its quality is not GOOD, or its reading lies outside the raw window. -/
def entryBad (row : ChannelRow) (e : SampleEntry) : Bool :=
  e.quality != 0 || decide (e.raw < row.rawLow) || decide (row.rawHigh < e.raw)

/-- A record after a bad entry (R49). -/
def takeBad (seq : Byte) (e : SampleEntry) (r : ChannelRec) : ChannelRec :=
  let run := saturate 255 (r.faultRun + 1)
  let r' := { r with lastSeq := some seq, lastRaw := some (BitVec.ofNat 16 e.raw), faultRun := run }
  if r.status ≠ .fault ∧ Config.faultRunLimit ≤ run then
    { r' with status := .fault, ring := [], age := none }
  else r'

/-- A record after a good entry taken at running time `now` (R50). -/
def takeGood (row : ChannelRow) (now : Nat) (seq : Byte) (e : SampleEntry) (r : ChannelRec) : ChannelRec :=
  let v := convert row.slope row.offset e.raw
  { status := .live
    lastRaw := some (BitVec.ofNat 16 e.raw)
    value := v.1
    filtered := if r.status = .live then smooth row.shift r.filtered v.1 else v.1
    saturated := v.2
    ring := ringPush r.ring v.1
    age := some (now + seconds row.maxAge)
    faultRun := 0
    lastSeq := some seq }

/-! ### Handing on (R57 to R59) -/

/-- The update a channel's record gives (R58). -/
def updateOf (c : Nat) (r : ChannelRec) : ChannelUpdate :=
  { channel := c, status := r.status, value := r.value, filtered := r.filtered, rise := riseOf r.ring }

/-- CHANNEL STATE data (R57). -/
def channelStateData (c : Nat) (kind : Byte) (before : ChannelStatus) (r : ChannelRec) : Bytes :=
  byteOf c ++ [kind] ++ byteOf (statusNum before) ++ byteOf (statusNum r.status) ++ beInt 2 r.value ++
    beInt 2 r.filtered ++ flagByte r.saturated ++ byteOf r.faultRun ++
    presenceItem 2 (r.lastRaw.map BitVec.toNat)

/-- A record stored after an entry or an expiry: the report of a status change, the update that a good entry or a
status change gives, and the notice of a light channel that changed. R58 and R59 give no order between the Grade
Evaluator's update and the Budget Allocator's notice of one entry or expiry: the update is handed first (log 51). -/
def storeChannel (c : Nat) (kind : Byte) (old new : ChannelRec) (good : Bool) (s : State) : State :=
  let s1 := s.withIntake { s.intake with channels := mapPut s.intake.channels c new }
  let s2 := if old.status ≠ new.status then s1.report reportChannelState (channelStateData c kind old.status new)
    else s1
  let s3 := if good ∨ old.status ≠ new.status then s2.hand (.channelUpdate (updateOf c new)) else s2
  if s.isLight c ∧ (old.status ≠ new.status ∨ old.filtered ≠ new.filtered) then
    s3.hand (.lightChannelChange c new.status new.filtered)
  else s3

/-- The channel whose row names a station and a station channel (R47). -/
def matchChannel (s : State) (source : Addr) (e : SampleEntry) : Option Nat :=
  (mapKeys s.intake.channels).find? fun c =>
    (s.channelRow c).any fun r => r.station == source.toNat && r.stationChannel == e.stationChannel

/-- One entry of a frame: unmatched, a duplicate, bad or good (R47 to R50). -/
def takeEntry (source : Addr) (seq : Byte) (s : State) (e : SampleEntry) : State :=
  match matchChannel s source e with
  | none => s
  | some c =>
    match mapGet s.intake.channels c, s.channelRow c with
    | some r, some row =>
      if r.lastSeq = some seq then s
      else if entryBad row e then storeChannel c row.kind r (takeBad seq e r) false s
      else storeChannel c row.kind r (takeGood row s.now seq e r) true s
    | _, _ => s

/-- A SAMPLE frame taken as one event, entry by entry (R46). -/
def takeSample (a : Arrival) (s : State) : State :=
  if s.intake.started && s.intake.inService && s.serves .channels .channelsOutOfService then
    match sampleEntries a.payload with
    | none => s
    | some es => es.foldl (takeEntry a.source (byteAt a.payload 0)) s
  else s

/-- SAMPLE_FRAME (R46 to R55, R57 to R59). -/
def execSampleFrame (a : Arrival) (s : State) : Host.Outcome State Fault Refusal :=
  taken (.sampleFrame a) (takeSample a) s

/-! ### Ageing (R56) -/

/-- A record whose age timer has run out. -/
def aged (r : ChannelRec) : ChannelRec := { r with status := .stale, ring := [], age := none }

/-- The expiry of a channel's age timer. -/
def ageExpired (c : Nat) (s : State) : State :=
  match mapGet s.intake.channels c with
  | none => s
  | some r =>
    match r.age with
    | none => s
    | some e =>
      storeChannel c (((s.channelRow c).map ChannelRow.kind).getD 0) r (aged r) false (s.reach e)

/-- AGE_TIMER_EXPIRY (R56). -/
def execAgeTimerExpiry (c : Nat) (s : State) : Host.Outcome State Fault Refusal :=
  taken (.ageTimerExpiry c) (ageExpired c) s

/-! ### CHANNELS in and out of service, start and restart (R60 to R62) -/

/-- A record as built for each of the rows found. -/
def builtChannels (rows : Map Bytes) : Map ChannelRec := rows.map fun e => (e.1, .built)

/-- What an unusable channel reads as: an update to NEVER (R61). -/
def neverUpdate (c : Nat) : ChannelUpdate :=
  { channel := c, status := .never, value := 0, filtered := 0, rise := none }

/-- The events that the loss of a set of records hands on: an update to NEVER for each channel that was not NEVER,
and the notice of a light channel that was one of them (R61). R61 gives no order among them: they are handed in rising
channel index, the light channel's notice right behind its channel's update (log 51). -/
def neverEvents (light : Option Nat) (m : Map ChannelRec) : List Instr :=
  m.flatMap fun e =>
    if e.2.status = .never then []
    else .channelUpdate (neverUpdate e.1) ::
      (if light = some e.1 then [.lightChannelChange e.1 .never 0] else [])

/-- The present rows of CHANNELS taken into use, a record built for each (R60). -/
def useChannels (s : State) : State :=
  let rows := s.serviceRows .channels
  s.withIntake { s.intake with inService := true, rows := rows, channels := builtChannels rows }

/-- CHANNELS has entered service (R60). A notice of a region that has been cleared since changes nothing (R35). -/
def intakeEnters (s : State) : State := if s.active .channels then useChannels s else s

/-- CHANNELS_INTO_SERVICE (R60). -/
def execChannelsIntoService (s : State) : Host.Outcome State Fault Refusal :=
  taken .channelsIntoService intakeEnters s

/-- CHANNELS has left service (R61). -/
def intakeLeaves (s : State) : State :=
  (s.withIntake { s.intake with inService := false, rows := [], channels := [] }).handAll
    (neverEvents s.store.site.light s.intake.channels)

/-- CHANNELS_OUT_OF_SERVICE (R61). -/
def execChannelsOutOfService (s : State) : Host.Outcome State Fault Refusal :=
  taken .channelsOutOfService intakeLeaves s

/-- Sample Intake starts: its records built, or its fallback (R62). -/
def intakeStarts (s : State) : State :=
  let t := s.withIntake { started := true, inService := false, rows := [], channels := [] }
  if t.active .channels then useChannels t else t

/-- SAMPLE_INTAKE_START (R62). -/
def execSampleIntakeStart (s : State) : Host.Outcome State Fault Refusal :=
  taken .sampleIntakeStart intakeStarts s

/-- Sample Intake's restart: every record built again (R62). -/
def intakeRestarts (s : State) : State :=
  (s.withIntake { s.intake with channels := s.intake.channels.map fun e => (e.1, .built) }).handAll
    (neverEvents s.store.site.light s.intake.channels)

/-- SAMPLE_INTAKE_RESTART (R62). -/
def execSampleIntakeRestart (s : State) : Host.Outcome State Fault Refusal :=
  taken .sampleIntakeRestart intakeRestarts s

end Sys2Proof.Machine
end

