-- ==== Sys2Proof/Machine/Grader.lean ====
section
/-!
DEFINITION. The Grade Evaluator (chapter 4): the assertion of grade rules, raw and effective grades, descent holds and
floors, what a grade change hands on, and its three regions in and out of service.
-/

namespace Sys2Proof.Machine

/-! ### Assertion (R65, R66) -/

/-- What a rule is evaluated against: a channel's status, filtered value and rise. -/
structure Measured where
  status : ChannelStatus
  filtered : Int
  rise : Option Int
  deriving DecidableEq, Repr

/-- A channel without a record reads as NEVER (R61). -/
def Measured.never : Measured := { status := .never, filtered := 0, rise := none }

/-- Sample Intake's record of a channel as it stands. -/
def State.measured (s : State) (c : Nat) : Measured :=
  match s.found .channels .channelsOutOfService s.intake.channels c with
  | none => .never
  | some r => { status := r.status, filtered := r.filtered, rise := riseOf r.ring }

/-- The measure of a rule, when it can be had: the reference present, the channel LIVE, the rise available where the
measure is RISE (R65). -/
def measureOf (row : RuleRow) (present : Bool) (m : Measured) : Option Int :=
  if present ∧ m.status = .live then (if row.rise then m.rise else some m.filtered) else none

/-- The flag after a comparison (R65). -/
def compareRule (row : RuleRow) (before : Bool) (v : Int) : Bool :=
  if row.atOrBelow then
    (if before then decide (v ≤ row.threshold + row.hysteresis) else decide (v ≤ row.threshold))
  else (if before then decide (row.threshold - row.hysteresis ≤ v) else decide (row.threshold ≤ v))

/-- The flag the stale treatment gives (R66). -/
def staleFlag (t : StaleTreatment) (before : Bool) : Bool :=
  match t with
  | .ignore => false
  | .assert => true
  | .hold => before

/-- A rule's flag decided afresh (R65, R66). -/
def evaluateRule (row : RuleRow) (present : Bool) (m : Measured) (before : Bool) : Bool :=
  match measureOf row present m with
  | some v => compareRule row before v
  | none => staleFlag row.stale before

/-- Whether a rule's channel reference is present, resolved as the rule is evaluated (R36). -/
def State.ruleChannelPresent (s : State) (c : Nat) : Bool := (s.reference .channels c).isSome

/-! ### Raw grades (R67) -/

/-- The grade a rule gives a segment: its grade while it is asserted and its mask covers the segment. -/
def ruleGrade (row : Option RuleRow) (flag : Bool) (g : Nat) : Nat :=
  match row with
  | some r => if flag && maskHas r.mask g then r.grade else 0
  | none => 0

/-- A segment's raw grade from the flags now held. -/
def State.rawGrade (s : State) (g : Nat) : Nat :=
  s.grader.flags.foldl (fun acc e => max acc (ruleGrade (s.ruleRow e.1) e.2 g)) 0

/-- The deciding rule: the lowest-indexed asserted rule covering the segment whose grade equals the raw grade (R72). -/
def State.decidingRule (s : State) (g raw : Nat) : Option Nat :=
  if raw = 0 then none
  else (s.grader.flags.find? fun e => ruleGrade (s.ruleRow e.1) e.2 g == raw).map Prod.fst

/-! ### Settling (R68) -/

/-- A segment's target: the greater of its raw grade and its floor. -/
def GradeRec.target (r : GradeRec) : Nat := max r.raw r.floor

/-- The record settled at running time `now`, with the row's descent hold in seconds. -/
def settle (now descent : Nat) (r : GradeRec) : GradeRec :=
  if r.effective < r.target then { r with effective := r.target, hold := none }
  else if r.target = r.effective then { r with hold := none }
  else
    match r.hold with
    | none => { r with hold := some (now + seconds descent) }
    | some _ => r

/-- The descent hold of a segment's row, in seconds. -/
def State.descentHold (s : State) (g : Nat) : Nat :=
  ((s.graderSegmentRow g).map SegmentRow.descentHold).getD 0

/-! ### What a grade change hands on (R71, R72) -/

/-- The claim action of a change of effective grade, for a segment whose grade-closes flag is set. -/
def gradeAction (closes : Bool) (old new : Nat) : Option ClaimAction :=
  if closes = false then none
  else if new = 5 ∧ old < 5 then some .place
  else if new < 5 ∧ old = 5 then some .remove
  else none

/-- The events of a change of effective grade: to the Closure Sequencer and to the Sign Publisher. -/
def gradeEvents (closes : Bool) (g old new : Nat) : List Instr :=
  [.gradeEvent g new (gradeAction closes old new), .gradeNotice g new]

/-- Whether a segment's row has the grade-closes flag set. -/
def State.gradeCloses (s : State) (g : Nat) : Bool :=
  (s.graderSegmentRow g).any SegmentRow.gradeCloses

/-- GRADE data (R72). -/
def gradeData (s : State) (g before : Nat) (r : GradeRec) (cause : GradeCause) : Bytes :=
  byteOf g ++ byteOf before ++ byteOf r.effective ++ byteOf r.raw ++ byteOf r.floor ++
    timerItem (s.remaining r.hold) ++ indexOrNone (s.decidingRule g r.raw) ++ byteOf (GradeCause.num cause)

/-- A record stored, with the hand-offs and the report of a change of effective grade. -/
def storeGrade (g : Nat) (cause : GradeCause) (old new : GradeRec) (s : State) : State :=
  let t := s.withGrader { s.grader with segments := mapPut s.grader.segments g new }
  if old.effective = new.effective then t
  else (t.handAll (gradeEvents (t.gradeCloses g) g old.effective new.effective)).report reportGrade
    (gradeData t g old.effective new cause)

/-- A segment's raw grade recomputed and its record settled. While SEGMENTS is not ACTIVE no grade is raised (R63), and
a record from before a clear whose notice waits stays as it is (log 42). -/
def regrade (g : Nat) (s : State) : State :=
  match s.gradeRecord g with
  | none => s
  | some r => storeGrade g .rise r (settle s.now (s.descentHold g) { r with raw := s.rawGrade g }) s

/-- Every segment recomputed and settled, in segment order. -/
def regradeAll (s : State) : State := forEach (List.range 8) regrade s

/-! ### Evaluation (R64, R75) -/

/-- The flags with every rule evaluated against Sample Intake's records as they stand. -/
def State.evaluatedFlags (s : State) (flags : Map Bool) : Map Bool :=
  flags.map fun e =>
    match s.ruleRow e.1 with
    | none => e
    | some row => (e.1, evaluateRule row (s.ruleChannelPresent row.channel) (s.measured row.channel) e.2)

/-- The flags with the rules of one channel evaluated against an update (R64). -/
def State.updatedFlags (s : State) (u : ChannelUpdate) : Map Bool :=
  s.grader.flags.map fun e =>
    match s.ruleRow e.1 with
    | none => e
    | some row =>
      if row.channel = u.channel then
        (e.1, evaluateRule row (s.ruleChannelPresent u.channel)
          { status := u.status, filtered := u.filtered, rise := u.rise } e.2)
      else e

/-- The segments covered by a rule whose flag differs between two sets of flags (R64: a rule evaluated to the flag it
held causes no recomputation). -/
def State.changedSegments (s : State) (old new : Map Bool) : List Nat :=
  (List.range 8).filter fun g =>
    (List.zip old new).any fun p =>
      p.1.2 != p.2.2 && (s.ruleRow p.1.1).any fun row => maskHas row.mask g

/-- New flags stored, and the segments their changes cover recomputed and settled in segment order. -/
def applyFlags (new : Map Bool) (s : State) : State :=
  forEach (s.changedSegments s.grader.flags new) regrade (s.withGrader { s.grader with flags := new })

/-- A channel update taken (R64). -/
def takeUpdate (u : ChannelUpdate) (s : State) : State := applyFlags (s.updatedFlags u) s

/-- CHANNEL_UPDATE (R64 to R68, R71, R72). -/
def execChannelUpdate (u : ChannelUpdate) (s : State) : Host.Outcome State Fault Refusal :=
  taken (.channelUpdate u) (takeUpdate u) s

/-- A notice that CHANNELS has entered or left service: references re-resolved, every rule evaluated once (R75). The
references are those of that moment (R36), so both notices do the same. -/
def graderChannels (s : State) : State := applyFlags (s.evaluatedFlags s.grader.flags) s

/-- GRADER_CHANNELS_NOTICE (R75). -/
def execGraderChannelsNotice (entered : Bool) (s : State) : Host.Outcome State Fault Refusal :=
  taken (.graderChannelsNotice entered) graderChannels s

/-! ### GRADE RULES in and out of service (R73) -/

/-- A de-asserted flag for each of the rows found. -/
def builtFlags (rows : Map Bytes) : Map Bool := rows.map fun e => (e.1, false)

/-- The present rows of GRADE RULES taken into use: the flags made de-asserted and every rule evaluated once. -/
def makeFlags (s : State) : State :=
  let rows := s.serviceRows .gradeRules
  let t := s.withGrader { s.grader with rulesIn := true, ruleRows := rows }
  t.withGrader { t.grader with flags := t.evaluatedFlags (builtFlags rows) }

/-- GRADE RULES has entered service. A notice of a region that has been cleared since changes nothing (R35). -/
def rulesEnter (s : State) : State := if s.active .gradeRules then regradeAll (makeFlags s) else s

/-- GRADE_RULES_INTO_SERVICE (R73). -/
def execGradeRulesIntoService (s : State) : Host.Outcome State Fault Refusal :=
  taken .gradeRulesIntoService rulesEnter s

/-- GRADE RULES has left service: no flags, so every raw grade becomes 0, and each segment is settled. -/
def rulesLeave (s : State) : State :=
  regradeAll (s.withGrader { s.grader with rulesIn := false, ruleRows := [], flags := [] })

/-- GRADE_RULES_OUT_OF_SERVICE (R73). -/
def execGradeRulesOutOfService (s : State) : Host.Outcome State Fault Refusal :=
  taken .gradeRulesOutOfService rulesLeave s

/-! ### SEGMENTS in and out of service (R74) -/

/-- A segment grade record as built: floor 0, effective the greater of the start-up grade and the raw grade, settled. -/
def State.builtGrade (s : State) (g : Nat) : GradeRec :=
  settle s.now (s.descentHold g)
    { raw := s.rawGrade g, effective := max s.store.site.startupGrade.toNat (s.rawGrade g), floor := 0, hold := none }

/-- The present rows of SEGMENTS taken into use: a record built for each, and each initial grade handed on as a change
from grade 0. R74 gives no order among several segments: their grades are handed on in rising segment index
(log 51). -/
def buildGrades (s : State) : State :=
  let rows := s.serviceRows .segments
  let t := s.withGrader { s.grader with segmentsIn := true, segmentRows := rows }
  let recs := rows.map fun e => (e.1, t.builtGrade e.1)
  (t.withGrader { t.grader with segments := recs }).handAll
    (recs.flatMap fun e => gradeEvents (t.gradeCloses e.1) e.1 0 e.2.effective)

/-- SEGMENTS has entered service. A notice of a region that has been cleared since changes nothing (R35). -/
def gradesEnter (s : State) : State := if s.active .segments then buildGrades s else s

/-- GRADER_SEGMENTS_INTO_SERVICE (R74). -/
def execGraderSegmentsIntoService (s : State) : Host.Outcome State Fault Refusal :=
  taken .graderSegmentsIntoService gradesEnter s

/-- SEGMENTS has left service: every record, hold and floor is forgotten; the flags are kept. -/
def dropGrades (s : State) : State :=
  s.withGrader { s.grader with segmentsIn := false, segmentRows := [], segments := [] }

/-- GRADER_SEGMENTS_OUT_OF_SERVICE (R74). -/
def execGraderSegmentsOutOfService (s : State) : Host.Outcome State Fault Refusal :=
  taken .graderSegmentsOutOfService dropGrades s

/-! ### Restart (R76) -/

/-- A segment's hold stopped, its raw grade recomputed and its record settled. -/
def restartGrade (g : Nat) (s : State) : State :=
  match s.gradeRecord g with
  | none => s
  | some r => storeGrade g .rise r (settle s.now (s.descentHold g) { r with raw := s.rawGrade g, hold := none }) s

/-- The restart: every flag de-asserted and evaluated once, every hold stopped, every segment settled; effective
grades and floors are kept. R76 gives no order among the segments: they are settled, their changes handed on and their
reports asked for, in rising segment index (log 51). R76 says that the state after this and the updates of Sample
Intake's restart is the same in either order, and by R66 it is not for a HOLD rule: compared first while its channel is
still LIVE it may be asserted, and the update to NEVER then leaves it so. The model follows R66 in each order, and
hands Sample Intake's notice first (log 52). -/
def graderRestarts (s : State) : State :=
  forEach (List.range 8) restartGrade
    (s.withGrader { s.grader with flags := s.evaluatedFlags (s.grader.flags.map fun e => (e.1, false)) })

/-- GRADE_EVALUATOR_RESTART (R76). -/
def execGradeEvaluatorRestart (s : State) : Host.Outcome State Fault Refusal :=
  taken .gradeEvaluatorRestart graderRestarts s

/-! ### The descent hold and the floor (R69, R70) -/

/-- The expiry of a segment's descent hold: the effective grade becomes the target of that moment. The hold of a record
from before a clear whose notice waits expires no more (R74; log 42). -/
def holdExpired (g : Nat) (s : State) : State :=
  match s.gradeRecord g with
  | none => s
  | some r =>
    match r.hold with
    | none => s
    | some e => storeGrade g .holdExpiry r { r with effective := r.target, hold := none } (s.reach e)

/-- DESCENT_HOLD_EXPIRY (R69). -/
def execDescentHoldExpiry (g : Nat) (s : State) : Host.Outcome State Fault Refusal :=
  taken (.descentHoldExpiry g) (holdExpired g) s

/-- HOLD GRADE's reply data: segment, floor, raw and effective grade, the hold's remaining time (R70). -/
def holdGradeData (s : State) (g : Nat) (r : GradeRec) : Bytes :=
  byteOf g ++ byteOf r.floor ++ byteOf r.raw ++ byteOf r.effective ++ timerItem (s.remaining r.hold)

/-- A HOLD GRADE taken by the Grade Evaluator. -/
def holdGrade (tag segment floor : Byte) (s : State) : State :=
  let g := segment.toNat
  if s.grader.started = false then s.deferred (.holdGrade tag segment floor)
  else if 7 < g then s.reply 0x10 tag badArgument []
  else if 5 < floor.toNat then s.reply 0x10 tag badArgument []
  else
    match s.gradeRecord g with
    | none => s.reply 0x10 tag noTable []
    | some r =>
      let new := if r.floor = floor.toNat then r
        else settle s.now (s.descentHold g) { r with floor := floor.toNat }
      let t := storeGrade g .floor r new s
      t.reply 0x10 tag done (holdGradeData t g new)

/-- HOLD_GRADE (R70). -/
def execHoldGrade (tag segment floor : Byte) (s : State) : Host.Outcome State Fault Refusal :=
  taken (.holdGrade tag segment floor) (holdGrade tag segment floor) s

/-! ### Start (R76) -/

/-- What the Grade Evaluator's own request does. -/
def graderRequest : Instr → Option (State → State)
  | .holdGrade tag segment floor => some (holdGrade tag segment floor)
  | _ => none

/-- The flags and the records of the regions that are ACTIVE, from nothing. -/
def buildGrader (s : State) : State :=
  let t := s.withGrader
    { started := true, rulesIn := false, segmentsIn := false, ruleRows := [], segmentRows := [], flags := []
      segments := [] }
  let u := if t.active .gradeRules then makeFlags t else t
  if u.active .segments then buildGrades u else u

/-- The Grade Evaluator starts: its flags made and evaluated, its records built; then it takes the requests that have
waited for it (R169). -/
def graderStarts (s : State) : State := takeWaiting graderRequest (buildGrader s)

/-- GRADE_EVALUATOR_START (R76). -/
def execGradeEvaluatorStart (s : State) : Host.Outcome State Fault Refusal :=
  taken .gradeEvaluatorStart graderStarts s

end Sys2Proof.Machine
end

