-- ==== Sys2Proof/Machine/Paths.lean ====
section
/-!
DEFINITION. The Path Monitor (chapter 5): local inputs and remote detectors, event queues, danger states, closure
decisions, warnings and claims, the three path requests, and PATHS in and out of service.
-/

namespace Sys2Proof.Machine

/-- A path record as built (R78). -/
def PathRec.built : PathRec :=
  { state := .quiet, queue := [], faults := [false, false, false, false], blind := false, warning := false
    decision := .noDecision, confirm := none, clear := none }

/-- The source of a path's claims (R77). -/
def pathSource (p : Nat) : ClaimSource := .path (Fin.ofNat 16 p)

/-! ### Queue and state (R85 to R89) -/

/-- Events added at the tail, the oldest removed from a full queue (R85). -/
def enqueue (n time : Nat) (queue : List Nat) : List Nat :=
  let q := queue ++ List.replicate (min n Config.pathQueuePlaces) time
  q.drop (q.length - Config.pathQueuePlaces)

/-- The evaluation of a path's state against its queue's length at running time `now` (R87). -/
def evaluatePath (row : PathRow) (now : Nat) (r : PathRec) : PathRec :=
  let n := r.queue.length
  match r.state with
  | .quiet =>
    if row.alert ≤ n then { r with state := .alert }
    else if row.watch ≤ n then { r with state := .watch } else r
  | .watch =>
    if row.alert ≤ n then { r with state := .alert }
    else if n < row.watch then { r with state := .quiet } else r
  | .alert =>
    if n < row.watch then { r with state := .clearing, clear := some (now + seconds row.clearWait) } else r
  | .clearing =>
    if row.alert ≤ n then { r with state := .alert, clear := none }
    else if row.watch ≤ n then { r with state := .watch, clear := none } else r
  | .release => r

/-- The closure decision by policy and line state (R89). -/
def decideClosure (row : PathRow) (line : LineState) (now : Nat) (r : PathRec) : PathRec :=
  match row.policy, line with
  | .auto, _ => { r with decision := .claimed, confirm := none }
  | .warnOnly, _ => { r with decision := .noDecision, confirm := none }
  | .confirm, .isolated => { r with decision := .claimed, confirm := none }
  | .confirm, .connected => { r with decision := .waiting, confirm := some (now + seconds row.confirmLimit) }

/-- A RELEASE event (R88, R89). In RELEASE only a DECLINED decision is made afresh. -/
def releasePath (row : PathRow) (line : LineState) (now : Nat) (r : PathRec) : PathRec :=
  if r.state = .release then
    if r.decision = .declined then decideClosure row line now r else r
  else decideClosure row line now { r with state := .release, clear := none }

/-- The blind flag and the warning made to agree with the state and the slot fault flags (R84, R93). -/
def settlePath (row : PathRow) (r : PathRec) : PathRec :=
  { r with
    blind := blindOf row.slots r.faults
    warning := warningOf r.state (blindOf row.slots r.faults) }

/-! ### What the Path Monitor hands on (R93, R94) -/

/-- The warning notice of a changed warning. -/
def warningEvents (p : Nat) (mask : Byte) (old new : PathRec) : List Instr :=
  if old.warning = new.warning then [] else [.warningNotice p new.warning mask]

/-- The placement or removal of the path's claim: it is placed exactly while the decision is CLAIMED. -/
def claimEvents (p : Nat) (mask : Byte) (old new : PathRec) : List Instr :=
  if old.decision ≠ .claimed ∧ new.decision = .claimed then [.claimPlacement (pathSource p) true mask]
  else if old.decision = .claimed ∧ new.decision ≠ .claimed then [.claimRemoval (pathSource p) mask]
  else []

/-- PATH data (R94). -/
def pathData (s : State) (p : Nat) (before : PathState) (r : PathRec) (cause : PathCause) : Bytes :=
  byteOf p ++ byteOf (PathState.num before) ++ byteOf (PathState.num r.state) ++ byteOf r.queue.length ++
    flagByte r.blind ++ byteOf (Decision.num r.decision) ++ timerItem (s.remaining r.confirm) ++
    flagByte r.warning ++ byteOf (PathCause.num cause)

/-- Whether an event changed what a PATH report tells of. -/
def pathChanged (old new : PathRec) : Bool :=
  old.state != new.state || old.blind != new.blind || old.decision != new.decision

/-- A record stored, with its hand-offs and its report. -/
def storePath (p : Nat) (mask : Byte) (cause : PathCause) (old new : PathRec) (s : State) : State :=
  let t := (s.withMonitor { s.monitor with paths := mapPut s.monitor.paths p new }).handAll
    (warningEvents p mask old new ++ claimEvents p mask old new)
  if pathChanged old new then t.report reportPath (pathData t p old.state new cause) else t

/-- A path's record, if it has one, changed by an operation of its row, with the consequences. -/
def changePath (p : Nat) (cause : PathCause) (f : PathRow → PathRec → PathRec) (s : State) : State :=
  match mapGet s.monitor.paths p, s.pathRow p with
  | some r, some row => storePath p row.mask cause r (settlePath row (f row r)) s
  | _, _ => s

/-- The line state as the Path Monitor finds it. -/
def State.lineState (s : State) : LineState := s.line.lineState

/-- A RELEASE event for a path. -/
def releaseAt (cause : PathCause) (p : Nat) (s : State) : State :=
  changePath p cause (fun row r => releasePath row s.lineState s.now r) s

/-! ### Local inputs (R79 to R81) -/

/-- Whether a slot is a LOCAL slot naming an input. -/
def Slot.names (sl : Slot) (i : Nat) : Bool :=
  match sl.source with
  | .local j => j == i
  | _ => false

/-- The paths with a slot naming an input, in increasing path index order. R80 and R81 let an edge act on every such
path and state no order among them: that the paths take it, and hand on and report, in rising index is the model's
choice (DESIGN CHOICE, log 51). -/
def State.pathsNaming (s : State) (i : Nat) : List Nat :=
  (mapKeys s.monitor.paths).filter fun p => (s.pathRow p).any fun row => row.slots.any fun sl => sl.names i

/-- The assignment the rows in use give an input (R79). -/
def State.assignmentOf (s : State) (i : Nat) : Assignment :=
  match (mapKeys s.monitor.rows).findSome? fun p =>
    (s.pathRow p).bind fun row => row.slots.find? fun sl => sl.names i with
  | none => .unassigned
  | some sl => if sl.tripwire then .tripwire sl.rising else .counting sl.rising sl.dead

/-- An input's record replaced. -/
def State.withInput (s : State) (i : Nat) (r : InputRec) : State :=
  s.withMonitor { s.monitor with inputs := mapPut s.monitor.inputs i r }

/-- One counted edge at a path: an event with the edge's time, then the evaluation. -/
def countAt (time : Nat) (p : Nat) (s : State) : State :=
  changePath p .detector
    (fun row r => evaluatePath row s.now { r with queue := enqueue 1 time r.queue }) s

/-- The slot fault flags after a wire is mended: those of LOCAL TRIPWIRE slots naming the input clear (R81). -/
def mendedFaults (i : Nat) (slots : List Slot) (faults : List Bool) : List Bool :=
  (List.zip slots faults).map fun e => if e.1.tripwire && e.1.names i then false else e.2

/-- A mended wire at a path. -/
def mendAt (i p : Nat) (s : State) : State :=
  changePath p .detector (fun row r => { r with faults := mendedFaults i row.slots r.faults }) s

/-- A level change of a COUNTING input whose level has been updated (R80). -/
def countingEdge (i : Nat) (rising : Bool) (dead : Nat) (r : InputRec) (level : Bool) (s : State) : State :=
  if level = rising ∧ r.dead = none then
    let t := s.withInput i
      { r with level := level, dead := if dead = 0 then none else some (s.time + dead) }
    forEach (t.pathsNaming i) (countAt s.now) t
  else s.withInput i { r with level := level }

/-- A level change of a TRIPWIRE input whose level is updated (R81). -/
def tripwireEdge (i : Nat) (rising : Bool) (r : InputRec) (level : Bool) (s : State) : State :=
  let t := s.withInput i { r with level := level }
  if wireBroken rising level then forEach (t.pathsNaming i) (releaseAt .detector) t
  else forEach (t.pathsNaming i) (mendAt i) t

/-- A level of a local input's pin: a change is taken by the assignment found (log 21); the same level is no
change. Once PATHS is cleared a level is followed and nothing further is done (R95). -/
def inputEdge (i : Nat) (level : Bool) (s : State) : State :=
  match mapGet s.monitor.inputs i with
  | none => s
  | some r =>
    if r.level = level then s
    else if s.serves .paths .pathsOutOfService = false then s.withInput i { r with level := level }
    else
      match r.assignment with
      | .unassigned => s.withInput i { r with level := level }
      | .counting rising dead => countingEdge i rising dead r level s
      | .tripwire rising => tripwireEdge i rising r level s

/-- COUNTING_INPUT_EDGE (R80). -/
def execCountingInputEdge (i : Nat) (level : Bool) (s : State) : Host.Outcome State Fault Refusal :=
  taken (.countingInputEdge i level) (inputEdge i level) s

/-- TRIPWIRE_INPUT_EDGE (R81). -/
def execTripwireInputEdge (i : Nat) (level : Bool) (s : State) : Host.Outcome State Fault Refusal :=
  taken (.tripwireInputEdge i level) (inputEdge i level) s

/-- UNASSIGNED_INPUT_EDGE (R79). -/
def execUnassignedInputEdge (i : Nat) (level : Bool) (s : State) : Host.Outcome State Fault Refusal :=
  taken (.unassignedInputEdge i level) (inputEdge i level) s

/-- The expiry of an input's dead timer (R80). -/
def deadExpired (i : Nat) (s : State) : State :=
  match mapGet s.monitor.inputs i with
  | none => s
  | some r =>
    match r.dead with
    | none => s
    | some e => (s.reachStep e).withInput i { r with dead := none }

/-- DEAD_TIMER_EXPIRY (R80). -/
def execDeadTimerExpiry (i : Nat) (s : State) : Host.Outcome State Fault Refusal :=
  taken (.deadTimerExpiry i) (deadExpired i) s

/-! ### Remote detectors (R82 to R84) -/

/-- The class of a DETECT frame (chapter 11). -/
inductive DetectClass | pulse | release | healthFault | healthOk
  deriving DecidableEq, Repr

/-- A DETECT payload that passes the tests of R82. -/
structure Detect where
  detector : Nat
  cls : DetectClass
  count : Nat
  deriving DecidableEq, Repr

/-- The class a byte names. -/
def detectClass (b : Byte) : Option DetectClass :=
  match b.toNat with
  | 1 => some .pulse
  | 2 => some .release
  | 3 => some .healthFault
  | 4 => some .healthOk
  | _ => none

/-- The tests of a DETECT payload: length 3, a class, a count of 1..255. -/
def parseDetect (payload : Bytes) : Option Detect :=
  match payload with
  | [d, c, n] =>
    if n = 0 then none
    else (detectClass c).map fun cls => { detector := d.toNat, cls := cls, count := n.toNat }
  | _ => none

/-- Whether a slot is the REMOTE slot of a station's detector. -/
def Slot.matches (sl : Slot) (station detector : Nat) : Bool :=
  match sl.source with
  | .remote st d => st == station && d == detector
  | _ => false

/-- The slot fault flags with the matching slots' flags made `v`. -/
def healthFaults (v : Bool) (station detector : Nat) (slots : List Slot) (faults : List Bool) : List Bool :=
  (List.zip slots faults).map fun e => if e.1.matches station detector then v else e.2

/-- What a matched DETECT frame does to a path's record (R83). -/
def detectEffect (d : Detect) (station time : Nat) (line : LineState) (now : Nat) (row : PathRow) (r : PathRec) :
    PathRec :=
  match d.cls with
  | .pulse =>
    if row.slots.any fun sl => sl.matches station d.detector && !sl.tripwire then
      evaluatePath row now { r with queue := enqueue d.count time r.queue }
    else r
  | .release => releasePath row line now r
  | .healthFault => { r with faults := healthFaults true station d.detector row.slots r.faults }
  | .healthOk => { r with faults := healthFaults false station d.detector row.slots r.faults }

/-- A DETECT frame at one path: it acts when a slot matches. -/
def detectAt (d : Detect) (station time : Nat) (p : Nat) (s : State) : State :=
  if (s.pathRow p).any fun row => row.slots.any fun sl => sl.matches station d.detector then
    changePath p .detector (detectEffect d station time s.lineState s.now) s
  else s

/-- A DETECT frame taken, on each matched path in increasing path index order (R82). -/
def takeDetect (a : Arrival) (s : State) : State :=
  if s.monitor.started && s.monitor.inService && s.serves .paths .pathsOutOfService then
    match parseDetect a.payload with
    | none => s
    | some d => forEach (mapKeys s.monitor.paths) (detectAt d a.source.toNat a.time) s
  else s

/-- DETECT_FRAME (R82 to R85, R87 to R89). -/
def execDetectFrame (a : Arrival) (s : State) : Host.Outcome State Fault Refusal :=
  taken (.detectFrame a) (takeDetect a) s

/-! ### Age-outs and waits (R86, R88, R90) -/

/-- The queue without the entries that hold the oldest time. -/
def dropOldest : List Nat → List Nat
  | [] => []
  | t :: rest => rest.dropWhile fun u => u == t

/-- The age-out of a path's oldest entries, at their own time plus the window. -/
def pathAgeOut (p : Nat) (s : State) : State :=
  match mapGet s.monitor.paths p, s.pathRow p with
  | some r, some row =>
    match r.queue with
    | [] => s
    | t :: _ =>
      let u := s.reach (t + seconds row.window)
      changePath p .ageOut (fun row r => evaluatePath row u.now { r with queue := dropOldest r.queue }) u
  | _, _ => s

/-- AGE_OUT (R86, R87). -/
def execAgeOut (p : Nat) (s : State) : Host.Outcome State Fault Refusal :=
  taken (.ageOut p) (pathAgeOut p) s

/-- The expiry of a path's clear timer (R88). -/
def clearExpired (p : Nat) (s : State) : State :=
  match (mapGet s.monitor.paths p).bind PathRec.clear with
  | none => s
  | some e =>
    changePath p .clearWaitExpiry (fun _ r => { r with state := .quiet, clear := none }) (s.reach e)

/-- CLEAR_WAIT_EXPIRY (R88). -/
def execClearWaitExpiry (p : Nat) (s : State) : Host.Outcome State Fault Refusal :=
  taken (.clearWaitExpiry p) (clearExpired p) s

/-- The expiry of a path's confirm timer (R90). -/
def confirmExpired (p : Nat) (s : State) : State :=
  match (mapGet s.monitor.paths p).bind PathRec.confirm with
  | none => s
  | some e =>
    changePath p .confirmWaitExpiry (fun _ r => { r with decision := .claimed, confirm := none }) (s.reach e)

/-- CONFIRM_WAIT_EXPIRY (R90). -/
def execConfirmWaitExpiry (p : Nat) (s : State) : Host.Outcome State Fault Refusal :=
  taken (.confirmWaitExpiry p) (confirmExpired p) s

/-- The line state has become ISOLATED: every waiting path claims, in increasing path index order (R90). -/
def lineIsolated (s : State) : State :=
  forEach (mapKeys s.monitor.paths)
    (fun p => changePath p .lineIsolated fun _ r =>
      if r.decision = .waiting then { r with decision := .claimed, confirm := none } else r) s

/-- LINE_ISOLATED_NOTICE (R90). -/
def execLineIsolatedNotice (s : State) : Host.Outcome State Fault Refusal :=
  taken .lineIsolatedNotice lineIsolated s

/-! ### CONFIRM PATH, DECLINE PATH, CLEAR PATH (R91, R92) -/

/-- The reply data of CONFIRM PATH and DECLINE PATH: index, state, decision. -/
def decisionData (p : Nat) (r : Option PathRec) : Bytes :=
  match r with
  | none => []
  | some r => byteOf p ++ byteOf (PathState.num r.state) ++ byteOf (Decision.num r.decision)

/-- CONFIRM PATH or DECLINE PATH taken by the Path Monitor, with the decision it makes. -/
def answerPath (code : Byte) (request : Instr) (tag path : Byte) (decision : Decision) (s : State) : State :=
  let p := path.toNat
  if s.monitor.started = false then s.deferred request
  else if 15 < p then s.reply code tag badArgument []
  else
    match s.found .paths .pathsOutOfService s.monitor.paths p with
    | none => s.reply code tag noTable []
    | some r =>
      if r.decision ≠ .waiting then s.reply code tag wrongState []
      else
        let t := changePath p .request (fun _ r => { r with decision := decision, confirm := none }) s
        t.reply code tag done (decisionData p (mapGet t.monitor.paths p))

/-- CONFIRM_PATH (R91). -/
def execConfirmPath (tag path : Byte) (s : State) : Host.Outcome State Fault Refusal :=
  taken (.confirmPath tag path) (answerPath 0x18 (.confirmPath tag path) tag path .claimed) s

/-- DECLINE_PATH (R91). -/
def execDeclinePath (tag path : Byte) (s : State) : Host.Outcome State Fault Refusal :=
  taken (.declinePath tag path) (answerPath 0x19 (.declinePath tag path) tag path .declined) s

/-- The slot fault flags after a clear: LOCAL TRIPWIRE slots whose wire is broken now are faulted (R92). -/
def State.clearedFaults (s : State) (slots : List Slot) (faults : List Bool) : List Bool :=
  (List.zip slots faults).map fun e => s.slotBroken e.1 || e.2

/-- A path's record cleared by the centre (R92). -/
def clearedPath (s : State) (row : PathRow) (r : PathRec) : PathRec :=
  { r with
    queue := []
    confirm := none
    decision := .noDecision
    state := if r.state = .quiet then .quiet else .clearing
    clear := if r.state = .quiet then r.clear else some (s.now + seconds row.clearWait)
    faults := s.clearedFaults row.slots r.faults }

/-- The reply data of CLEAR PATH: index, new state, blind flag. -/
def clearPathData (p : Nat) (r : Option PathRec) : Bytes :=
  match r with
  | none => []
  | some r => byteOf p ++ byteOf (PathState.num r.state) ++ flagByte r.blind

/-- CLEAR PATH taken by the Path Monitor. -/
def clearPathRequest (tag path : Byte) (s : State) : State :=
  let p := path.toNat
  if s.monitor.started = false then s.deferred (.clearPath tag path)
  else if 15 < p then s.reply 0x1A tag badArgument []
  else
    match s.found .paths .pathsOutOfService s.monitor.paths p with
    | none => s.reply 0x1A tag noTable []
    | some _ =>
      let t := changePath p .request (clearedPath s) s
      t.reply 0x1A tag done (clearPathData p (mapGet t.monitor.paths p))

/-- CLEAR_PATH (R92). -/
def execClearPath (tag path : Byte) (s : State) : Host.Outcome State Fault Refusal :=
  taken (.clearPath tag path) (clearPathRequest tag path) s

/-! ### PATHS in and out of service, start and restart (R95, R96) -/

/-- A path that names a tripwire whose wire is broken now. -/
def State.pathBroken (s : State) (p : Nat) : Bool :=
  (s.pathRow p).any fun row => row.slots.any s.slotBroken

/-- The inputs assigned from the present rows, every dead timer idle. -/
def State.assignedInputs (s : State) : Map InputRec :=
  s.monitor.inputs.map fun e => (e.1, { e.2 with assignment := s.assignmentOf e.1, dead := none })

/-- The present rows of PATHS taken into use, the records of R95 built. -/
def buildPaths (s : State) : State :=
  let rows := s.serviceRows .paths
  let t := s.withMonitor { s.monitor with inService := true, rows := rows }
  t.withMonitor { t.monitor with inputs := t.assignedInputs, paths := rows.map fun e => (e.1, .built) }

/-- The records built, and a RELEASE event for every path that names a broken tripwire, in increasing path index
order. -/
def usePaths (s : State) : State :=
  let t := buildPaths s
  forEach ((mapKeys t.monitor.paths).filter t.pathBroken) (releaseAt .activation) t

/-- PATHS has entered service. A notice of a region that has been cleared since changes nothing (R35). R96 says
nothing of a notice around the Path Monitor's start: one taken before the start builds the records at once and the
start builds them afresh, and one that still waits when the start has found PATHS ACTIVE builds them once more. A
record so replaced goes with no report, no warning-off and, where its decision was CLAIMED, no claim removal, so that
its PATH claim stays (log 54). -/
def pathsEnter (s : State) : State := if s.active .paths then usePaths s else s

/-- PATHS_INTO_SERVICE (R95). -/
def execPathsIntoService (s : State) : Host.Outcome State Fault Refusal :=
  taken .pathsIntoService pathsEnter s

/-- The warning-off notices of the paths whose warning is on. R95 gives no order among them: they are handed in rising
path index (log 51). -/
def warningsOff (s : State) : List Instr :=
  s.monitor.paths.filterMap fun e => if e.2.warning then some (.warningNotice e.1 false (s.pathMask e.1)) else none

/-- PATHS has left service: warnings off, every input UNASSIGNED with its level, every record discarded, no removal
events and no reports. -/
def pathsLeave (s : State) : State :=
  (s.withMonitor
    { s.monitor with
      inService := false
      rows := []
      inputs := s.monitor.inputs.map fun e => (e.1, .unassigned e.2.level)
      paths := [] }).handAll (warningsOff s)

/-- PATHS_OUT_OF_SERVICE (R95). -/
def execPathsOutOfService (s : State) : Host.Outcome State Fault Refusal :=
  taken .pathsOutOfService pathsLeave s

/-- What the Path Monitor's own requests do. -/
def monitorRequest : Instr → Option (State → State)
  | .confirmPath tag path => some (answerPath 0x18 (.confirmPath tag path) tag path .claimed)
  | .declinePath tag path => some (answerPath 0x19 (.declinePath tag path) tag path .declined)
  | .clearPath tag path => some (clearPathRequest tag path)
  | _ => none

/-- The Path Monitor's records from nothing, or its fallback. -/
def buildMonitor (s : State) : State :=
  pathsEnter (s.withMonitor
    { started := true, inService := false, rows := [], paths := []
      inputs := s.monitor.inputs.map fun e => (e.1, .unassigned e.2.level) })

/-- The Path Monitor starts; then it takes the requests that have waited for it (R169). -/
def monitorStarts (s : State) : State := takeWaiting monitorRequest (buildMonitor s)

/-- PATH_MONITOR_START (R96). -/
def execPathMonitorStart (s : State) : Host.Outcome State Fault Refusal :=
  taken .pathMonitorStart monitorStarts s

/-- A record at a restart: a path in RELEASE is kept whole, any other is made QUIET. -/
def restartedPath (r : PathRec) : PathRec :=
  if r.state = .release then r
  else { r with state := .quiet, queue := [], clear := none, decision := .noDecision }

/-- The Path Monitor's restart, path by path in increasing index order. R96 states no order among the paths: that the
warning-off notices and the PATH reports of cause RESTART go in rising index is the model's choice (DESIGN CHOICE,
log 51). -/
def monitorRestarts (s : State) : State :=
  forEach (mapKeys s.monitor.paths) (fun p => changePath p .restart fun _ r => restartedPath r) s

/-- PATH_MONITOR_RESTART (R96). -/
def execPathMonitorRestart (s : State) : Host.Outcome State Fault Refusal :=
  taken .pathMonitorRestart monitorRestarts s

end Sys2Proof.Machine
end

