-- ==== Sys2Proof/Machine/Budget.lean ====
section
/-!
DEFINITION. The Budget Allocator (chapter 8): the requested level, the chain of figures, granted levels, admission of
motors, the motion queue, SET BUDGET, and what its regions' notices do.
-/

namespace Sys2Proof.Machine

/-! ### What the signs ask for (R141, R142) -/

/-- The requested level of a LIVE light channel. -/
def requestedLevel (filtered : Int) (step : Nat) : Nat := min 7 (1 + filtered.toNat / step)

/-- The requested level for a light channel's status and filtered value. -/
def requestedFor (present : Bool) (m : ChannelStatus) (filtered : Int) (step : Nat) : Nat :=
  if present ∧ m = .live then requestedLevel filtered step else 7

/-- The requested level computed afresh from Sample Intake's record. -/
def State.freshRequested (s : State) : Nat :=
  match s.store.site.light with
  | none => 7
  | some c =>
    match s.found .channels .channelsOutOfService s.intake.channels c with
    | none => 7
    | some r =>
      requestedFor (s.reference .channels c).isSome r.status r.filtered s.store.site.lightStep.toNat

/-- A sign's draw at a level (R142). -/
def signDraw (row : SignRow) (level : Nat) : Nat := row.d1 + (row.d7 - row.d1) * (level - 1) / 6

/-! ### The figures (R143, R144) -/

/-- The rows of the lit set. -/
def State.litRows (s : State) : List SignRow := s.allocator.lit.filterMap s.allocatorSignRow

/-- The motor draws of the configured gates, as the Allocator holds them. -/
def State.motorDraws (s : State) : List Nat :=
  (mapKeys s.allocator.gateRows).filterMap fun k => (s.allocatorGateRow k).map GateRow.draw

/-- What a list of lit signs draws with each at its own level. -/
def signsDraw (rows : List SignRow) (level : Nat) : Nat := (rows.map fun r => signDraw r level).sum

/-- The largest of a list of draws; 0 for none. -/
def largest (l : List Nat) : Nat := l.foldl max 0

/-- The floor F (R143). -/
def floorOf (base : Nat) (lit : List SignRow) (motors : List Nat) : Nat :=
  base + signsDraw lit 1 + largest motors

/-- The ceiling C (R143). -/
def ceilingOf (base requested : Nat) (lit : List SignRow) (motors : List Nat) : Nat :=
  base + signsDraw lit requested + motors.sum

/-- The effective budget E: B limited to F..C (R143). -/
def effectiveOf (budget floor ceiling : Nat) : Nat :=
  if budget < floor then floor else if ceiling < budget then ceiling else budget

/-- The test of a brightness cap (R144). -/
def capFits (base requested : Nat) (lit : List SignRow) (motors : List Nat) (effective cap : Nat) : Bool :=
  decide (base + signsDraw lit (min requested cap) + largest motors ≤ effective)

/-- The brightness cap K: the largest value in 1..7 that passes its test (R144). -/
def capOf (base requested : Nat) (lit : List SignRow) (motors : List Nat) (effective : Nat) : Nat :=
  ([7, 6, 5, 4, 3, 2].find? (capFits base requested lit motors effective)).getD 1

/-- The whole chain. -/
def figuresOf (base budget requested : Nat) (lit : List SignRow) (motors : List Nat) : Figures :=
  let floor := floorOf base lit motors
  let ceiling := ceilingOf base requested lit motors
  let effective := effectiveOf budget floor ceiling
  let cap := capOf base requested lit motors effective
  { floor := floor, ceiling := ceiling, effective := effective, cap := cap
    remaining := effective - (base + signsDraw lit (min requested cap)) }

/-- The figures of the inputs as they now stand. -/
def State.freshFigures (s : State) : Figures :=
  figuresOf s.store.site.baseDraw.toNat s.allocator.budget s.allocator.requested s.litRows s.motorDraws

/-- The present signs as the Allocator holds them. -/
def State.presentSigns (s : State) : List Nat :=
  (mapKeys s.allocator.signRows).filter fun g => (s.allocatorSignRow g).isSome

/-! ### Motor current (R145 to R148) -/

/-- The committed motor draw H. -/
def Allocator.committed (a : Allocator) : Nat := (a.admitted.map Prod.snd).sum

/-- Whether a request for a draw fits (R146). -/
def Allocator.fits (a : Allocator) (draw : Nat) : Bool :=
  a.committed == 0 || decide (draw + a.committed ≤ a.figures.remaining)

/-- The examination of the head over a list of entries: fitting heads are granted in order, until one does not fit.
What is answered is the Allocator's state and the grants made (R148). -/
def examineEntries (a : Allocator) : List MotionEntry → Allocator × List Instr
  | [] => ({ a with queue := [] }, [])
  | e :: rest =>
    if a.fits e.draw then
      let r := examineEntries { a with admitted := a.admitted ++ [(e.gate, e.draw)] } rest
      (r.1, .grant e.gate e.direction :: r.2)
    else ({ a with queue := e :: rest }, [])

/-- The head of the motion queue examined. Once GATES is cleared its gates have left the queue, and no admission is
granted to them, although the Allocator has not yet taken the notice that withdraws their entries (R32). -/
def examineQueue (s : State) : State :=
  if s.serves .gates (.budgetRegionNotice .gates false) then
    let r := examineEntries s.allocator s.allocator.queue
    (s.withAllocator r.1).handAll r.2
  else s

/-- Whether an entry stands before another: by class, then request time, then joining (R147). -/
def entryBefore (a b : MotionEntry) : Bool :=
  (a.urgent && !b.urgent) ||
    (a.urgent == b.urgent && (decide (a.time < b.time) || (a.time == b.time && decide (a.joined < b.joined))))

/-- An entry placed in the queue. -/
def placeEntry (e : MotionEntry) : List MotionEntry → List MotionEntry
  | [] => [e]
  | x :: rest => if entryBefore e x then e :: x :: rest else x :: placeEntry e rest

/-- A queue with each of its entries placed again. -/
def placeAll (q : List MotionEntry) : List MotionEntry := q.foldl (fun acc e => placeEntry e acc) []

/-- Whether a lowering of a gate is URGENT (R147). -/
def State.gateUrgent (s : State) (k : Nat) : Bool :=
  (s.allocatorGateRow k).any fun row => s.allocator.urgent.contains row.segment

/-- The class of a request. -/
def State.requestUrgent (s : State) (k : Nat) : Direction → Bool
  | .lowering => s.gateUrgent k
  | .raising => false

/-- The next joining number of a queue. -/
def nextJoined (q : List MotionEntry) : Nat := (q.map fun e => e.joined + 1).foldl max 0

/-- The entry of a request: a new one, or the gate's old one with the new direction and class. -/
def State.entryFor (s : State) (k : Nat) (dir : Direction) (draw : Nat) : MotionEntry :=
  let urgent := s.requestUrgent k dir
  match s.allocator.queue.find? fun e => e.gate == k with
  | some e => { e with direction := dir, urgent := urgent }
  | none =>
    { gate := k, direction := dir, draw := draw, urgent := urgent, time := s.now
      joined := nextJoined s.allocator.queue }

/-- The queue without a gate's entry. -/
def withoutGate (k : Nat) (q : List MotionEntry) : List MotionEntry := q.filter fun e => e.gate != k

/-- The admissions without the first one of a gate. -/
def dropAdmission (k : Nat) : List (Nat × Nat) → List (Nat × Nat)
  | [] => []
  | e :: rest => if e.1 = k then rest else e :: dropAdmission k rest

/-- A new queue stored; a changed head is examined (R148). -/
def storeQueue (q : List MotionEntry) (s : State) : State :=
  let t := s.withAllocator { s.allocator with queue := q }
  if q.head? = s.allocator.queue.head? then t else examineQueue t

/-- Every queued lowering given the class its gate's segment now has (R147). -/
def State.reclassed (s : State) : List MotionEntry :=
  placeAll (s.allocator.queue.map fun e => { e with urgent := s.requestUrgent e.gate e.direction })

/-! ### Recomputation (R144, R149) -/

/-- An entry in a report: gate, direction, class. -/
def entryItem (e : MotionEntry) : Bytes :=
  byteOf e.gate ++ byteOf (directionNum e.direction) ++ byteOf (classNum e.urgent)

/-- BUDGET data (R149). The brightness cap K is one of the derived figures and also a level: it is sent as a level,
one byte (log 11). -/
def budgetData (a : Allocator) (cause : BudgetCause) : Bytes :=
  figureItem a.budget ++ figureItem a.figures.floor ++ figureItem a.figures.ceiling ++
    figureItem a.figures.effective ++ byteOf a.figures.cap ++ byteOf a.requested ++
    figureItem a.figures.remaining ++ figureItem a.committed ++ flagByte a.belowFloor ++
    byteOf a.queue.length ++ a.queue.flatMap entryItem ++ byteOf (BudgetCause.num cause)

/-- The grant notices of the signs whose granted level has changed. R144 states no order among the notices of one
recomputation: that they are handed in rising sign index, seen in the order of the FACE SET frames they cause, is the
model's choice (DESIGN CHOICE, log 51). -/
def grantNotices (old new : Map Nat) : List Instr :=
  new.filterMap fun e =>
    match mapGet old e.1 with
    | none => none
    | some l => if l = e.2 then none else some (.grantNotice e.1 e.2)

/-- The figures, the granted levels and the flag computed. -/
def computeFigures (s : State) : State :=
  let f := s.freshFigures
  s.withAllocator
    { s.allocator with
      figures := f
      granted := s.presentSigns.map fun g => (g, min s.allocator.requested f.cap)
      belowFloor := decide (s.allocator.budget < f.floor) }

/-- A recomputation: grant notices, the examination of the head where R has grown, and the report of a changed flag
(R144). Before the Allocator's first computation a change of the flag is not reported (R151). -/
def recompute (cause : BudgetCause) (s : State) : State :=
  let t := computeFigures s
  let u := t.handAll (grantNotices s.allocator.granted t.allocator.granted)
  let v := if s.allocator.figures.remaining < t.allocator.figures.remaining then examineQueue u else u
  if s.allocator.started = false ∨ s.allocator.belowFloor = t.allocator.belowFloor then v
  else v.report reportBudget (budgetData v.allocator cause)

/-! ### The notices of its regions (R150) -/

/-- The effect of a clear whose notice still waits, taken before that of an activation behind it; the notice then no
longer waits (R150; log 44). -/
def takeEarly (notice : Instr) (effect : State → State) (s : State) : State :=
  if s.handed.contains notice then effect (s.withHanded (s.handed.filter fun c => c != notice)) else s

/-- SIGNS has entered service, as far as the Allocator has not yet taken it. -/
def allocatorSigns (s : State) : State :=
  if s.allocator.signsIn then s
  else
    recompute .signs
      (s.withAllocator { s.allocator with signsIn := true, signRows := s.serviceRows .signs, lit := [], granted := [] })

/-- GATES has entered service, as far as the Allocator has not yet taken it. -/
def allocatorGates (s : State) : State :=
  if s.allocator.gatesIn then s
  else recompute .gates (s.withAllocator { s.allocator with gatesIn := true, gateRows := s.serviceRows .gates })

/-- The requested level replaced. -/
def State.withRequested (s : State) (n : Nat) : State := s.withAllocator { s.allocator with requested := n }

/-- The requested level computed afresh; a change recomputes the figures (R141). -/
def refreshRequested (n : Nat) (s : State) : State :=
  if n = s.allocator.requested then s else recompute .light (s.withRequested n)

/-- CHANNELS has entered or left service: the light channel re-resolved, the figures recomputed. -/
def allocatorChannels (s : State) : State := recompute .light (s.withRequested s.freshRequested)

/-- SIGNS has left service. -/
def allocatorSignsGone (s : State) : State :=
  recompute .signs (s.withAllocator { s.allocator with signsIn := false, signRows := [], lit := [], granted := [] })

/-- GATES has left service: every queued request is withdrawn. -/
def allocatorGatesGone (s : State) : State :=
  recompute .gates (s.withAllocator { s.allocator with gatesIn := false, gateRows := [], queue := [] })

/-- SEGMENTS has left service: the urgency of every segment is discarded. -/
def allocatorSegmentsGone (s : State) : State :=
  let t := s.withAllocator { s.allocator with urgent := [] }
  storeQueue t.reclassed t

/-- The effect of SIGNS' notice taken before a reading or a lit notice that comes ahead of it, and before it that of a
clear whose notice still waits (R150). -/
def ensureSigns (s : State) : State :=
  if s.active .signs then allocatorSigns (takeEarly (.budgetRegionNotice .signs false) allocatorSignsGone s) else s

/-- The effect of GATES' notice taken before a request that comes ahead of it, and before it that of a clear whose
notice still waits (R150). -/
def ensureGates (s : State) : State :=
  if s.active .gates then allocatorGates (takeEarly (.budgetRegionNotice .gates false) allocatorGatesGone s) else s

/-- While SEGMENTS is ACTIVE, the effect of a clear whose notice still waits, taken before an urgency notice of the
segments that are in service again, so that it is kept (R150). -/
def ensureSegments (s : State) : State :=
  if s.active .segments then takeEarly (.budgetRegionNotice .segments false) allocatorSegmentsGone s else s

/-- A region's notice at the Allocator. An entry notice of a region that has been cleared since changes nothing. -/
def budgetRegion (r : Region) (entered : Bool) (s : State) : State :=
  match r, entered with
  | .signs, true => ensureSigns s
  | .signs, false => allocatorSignsGone s
  | .gates, true => ensureGates s
  | .gates, false => allocatorGatesGone s
  | .channels, _ => allocatorChannels s
  | .segments, false => allocatorSegmentsGone s
  | .segments, true => ensureSegments s
  | _, _ => s

/-- BUDGET_REGION_NOTICE (R150). -/
def execBudgetRegionNotice (r : Region) (entered : Bool) (s : State) : Host.Outcome State Fault Refusal :=
  taken (.budgetRegionNotice r entered) (budgetRegion r entered) s

/-! ### Events -/

/-- A request for admission (R146, R147). A request for a gate of a region that is not ACTIVE is dropped (R32). -/
def requestAdmission (k : Nat) (dir : Direction) (draw : Nat) (s : State) : State :=
  let t := ensureGates s
  if t.active .gates && t.allocator.gatesIn then
    examineQueue
      (t.withAllocator
        { t.allocator with
          queue := placeEntry (t.entryFor k dir draw) (withoutGate k t.allocator.queue) })
  else t

/-- ADMISSION_REQUEST (R146 to R148). -/
def execAdmissionRequest (k : Nat) (dir : Direction) (draw : Nat) (s : State) : Host.Outcome State Fault Refusal :=
  taken (.admissionRequest k dir draw) (requestAdmission k dir draw) s

/-- A hand-back: the gate's draw leaves H and the head is examined (R146). -/
def takeBack (k : Nat) (s : State) : State :=
  examineQueue (s.withAllocator { s.allocator with admitted := dropAdmission k s.allocator.admitted })

/-- HAND_BACK (R146, R148). -/
def execHandBack (k : Nat) (s : State) : Host.Outcome State Fault Refusal := taken (.handBack k) (takeBack k) s

/-- A request withdrawn (R146). -/
def withdrawRequest (k : Nat) (s : State) : State := storeQueue (withoutGate k s.allocator.queue) s

/-- REQUEST_WITHDRAWN (R146, R148). -/
def execRequestWithdrawn (k : Nat) (s : State) : Host.Outcome State Fault Refusal :=
  taken (.requestWithdrawn k) (withdrawRequest k) s

/-- A segment's urgency changed: its gates' queued lowerings take the new class (R147). While SEGMENTS is not ACTIVE
no urgency is held (R150). -/
def segmentUrgency (g : Nat) (urgent : Bool) (s : State) : State :=
  if s.active .segments then
    let t := ensureSegments s
    let u := t.withAllocator
      { t.allocator with
        urgent := if urgent then setInsert t.allocator.urgent g else setRemove t.allocator.urgent g }
    storeQueue u.reclassed u
  else s

/-- URGENCY_NOTICE (R147). -/
def execUrgencyNotice (g : Nat) (urgent : Bool) (s : State) : Host.Outcome State Fault Refusal :=
  taken (.urgencyNotice g urgent) (segmentUrgency g urgent) s

/-- A change of a sign's lit state (R142). -/
def signLit (g : Nat) (lit : Bool) (s : State) : State :=
  let t := ensureSigns s
  if (t.allocatorSignRow g).isNone then t
  else
    let l := if lit then setInsert t.allocator.lit g else setRemove t.allocator.lit g
    if l = t.allocator.lit then t else recompute .signs (t.withAllocator { t.allocator with lit := l })

/-- LIT_NOTICE (R142, R144). -/
def execLitNotice (g : Nat) (lit : Bool) (s : State) : Host.Outcome State Fault Refusal :=
  taken (.litNotice g lit) (signLit g lit) s

/-- A change of the light channel's status or filtered value (R141). A channel the site record does not name is not
the light channel (log 27). -/
def lightChange (c : Nat) (status : ChannelStatus) (filtered : Int) (s : State) : State :=
  if s.store.site.light = some c then
    refreshRequested
      (requestedFor (s.reference .channels c).isSome status filtered s.store.site.lightStep.toNat) s
  else s

/-- LIGHT_CHANNEL_CHANGE (R141). -/
def execLightChannelChange (c : Nat) (status : ChannelStatus) (filtered : Int) (s : State) :
    Host.Outcome State Fault Refusal :=
  taken (.lightChannelChange c status filtered) (lightChange c status filtered) s

/-- What a SITE WRITE of a field does at the Allocator, once it has made its first computation (R38, R141, R144). -/
def siteChanged (f : SiteField) (s : State) : State :=
  if s.allocator.started = false then s
  else
  match f with
  | .baseDraw => recompute .site s
  | .lightChannel => refreshRequested s.freshRequested s
  | .lightStep => refreshRequested s.freshRequested s
  | .nodeAddress => s
  | .sectionNumber => s
  | .silenceLimit => s
  | .defaultBudget => s
  | .startupGrade => s

/-! ### SET BUDGET (R140) -/

/-- SET BUDGET's reply data: B, F, C, E and the below-floor flag. -/
def setBudgetData (a : Allocator) : Bytes :=
  figureItem a.budget ++ figureItem a.figures.floor ++ figureItem a.figures.ceiling ++
    figureItem a.figures.effective ++ flagByte a.belowFloor

/-- SET BUDGET taken by the Budget Allocator. -/
def setBudget (tag : Byte) (budget : BitVec 16) (s : State) : State :=
  if s.allocator.started = false then s.deferred (.setBudget tag budget)
  else
    let t := recompute .budget (s.withAllocator { s.allocator with budget := min 4000 budget.toNat })
    t.reply 0x30 tag done (setBudgetData t.allocator)

/-- SET_BUDGET (R140). -/
def execSetBudget (tag : Byte) (budget : BitVec 16) (s : State) : Host.Outcome State Fault Refusal :=
  taken (.setBudget tag budget) (setBudget tag budget) s

/-! ### Start (R151) -/

/-- The notices of the regions found ACTIVE at the start; their effects follow the first computation. -/
def startNotices (s : State) : List Instr :=
  ([Region.signs, Region.gates].filter s.active).map fun r => .budgetRegionNotice r true

/-- What the Budget Allocator's own request does. -/
def allocatorRequest : Instr → Option (State → State)
  | .setBudget tag budget => some (setBudget tag budget)
  | _ => none

/-- The first computation of the figures, which sets the flag without a report. The budget stands as the power-on set
it: a default budget written since takes effect at the next one (R38, R140). R151 speaks of a part at which nothing
has yet reached the Allocator. A lit notice, a request for admission or an urgency notice that it has taken before this
start is kept, with the regions' rows and the admissions it found for them: nothing is forgotten or asked for again
(log 53). -/
def firstFigures (s : State) : State :=
  let t := s.withAllocator { s.allocator with started := false }
  let u := recompute .site (t.withRequested t.freshRequested)
  u.withAllocator { u.allocator with started := true }

/-- The Budget Allocator starts: the figures, the notices of the regions found ACTIVE, and then the requests that have
waited for it (R169). -/
def allocatorStarts (s : State) : State :=
  takeWaiting allocatorRequest ((firstFigures s).handAll (startNotices s))

/-- BUDGET_ALLOCATOR_START (R151). -/
def execBudgetAllocatorStart (s : State) : Host.Outcome State Fault Refusal :=
  taken .budgetAllocatorStart allocatorStarts s

end Sys2Proof.Machine
end

