-- ==== Sys2Proof/Machine/Signs.lean ====
section
/-!
DEFINITION. The Sign Publisher (chapter 9): the view, candidates and winners, the publication cycle and its hold
lists, FACE REPORT, forced faces, the sign sweep, and SIGNS and SEGMENTS in and out of service.
-/

namespace Sys2Proof.Machine

/-! ### Records (R153) -/

/-- A sign's record replaced. -/
def State.withSign (s : State) (g : Nat) (r : SignRec) : State :=
  s.withPublisher { s.publisher with signs := mapPut s.publisher.signs g r }

/-- The BLANK candidate. -/
def Winner.blank : Winner := { kind := .blank, face := 0, parameter := 0xFFFF, flash := false }

/-- A display of face 0. -/
def Display.blank : Display := { face := 0, parameter := 0xFFFF, level := 0, flash := false }

/-- A record as built, its granted level read. -/
def SignRec.built (granted : Nat) : SignRec :=
  { winner := .blank, forced := none, granted := granted, desired := .blank, published := .blank, token := 0
    phase := .idle, attempts := 0, mismatch := false, nextPending := false, status := .unconfirmed
    confirmed := none, condition := .unknown, reply := none, republish := none }

/-! ### The view and the winner (R154, R155) -/

/-- What a candidate's face makes of it: skipped when the face is 0. -/
def candidate (kind : WinnerKind) (face : Byte) (parameter : BitVec 16) (flash : Bool) : Option Winner :=
  if face = 0 then none else some { kind := kind, face := face, parameter := parameter, flash := flash }

/-- The CLOSED candidate. -/
def closedCandidate (row : SignRow) (v : SegmentView) : Option Winner :=
  if row.approach ∧ (v.state = .closing ∨ v.state = .closed ∨ v.state = .reopening) then
    candidate .closed row.closed 0xFFFF false
  else none

/-- The AVALANCHE candidate. -/
def avalancheCandidate (row : SignRow) (warned : Bool) : Option Winner :=
  if warned then candidate .avalanche row.avalanche 0xFFFF true else none

/-- The NOTICE candidate. -/
def noticeCandidate (row : SignRow) (v : SegmentView) : Option Winner :=
  if row.approach ∧ v.state = .notice then candidate .notice row.notice v.parameter false else none

/-- The ADVISORY candidate. -/
def advisoryCandidate (row : SignRow) (v : SegmentView) : Option Winner :=
  if 1 ≤ v.grade then candidate .advisory (row.advisory.getD (v.grade - 1) 0) 0xFFFF false else none

/-- The winner among the candidates of a sign's segment. -/
def segmentWinner (row : SignRow) (warned : Bool) (v : SegmentView) : Winner :=
  ((closedCandidate row v).orElse fun _ => (avalancheCandidate row warned).orElse fun _ =>
    (noticeCandidate row v).orElse fun _ => advisoryCandidate row v).getD .blank

/-- A sign's winner: its forced face, or the winner of its segment when that is present. -/
def winnerOf (row : SignRow) (forced : Option (Byte × Nat)) (warned : Bool) (v : Option SegmentView) : Winner :=
  match forced, v with
  | some f, _ => { kind := .forced, face := f.1, parameter := 0xFFFF, flash := false }
  | none, none => .blank
  | none, some v => segmentWinner row warned v

/-- Whether a path whose mask names a segment has its warning on. -/
def State.warned (s : State) (g : Nat) : Bool :=
  s.publisher.pathView.any fun e => e.2.warning && maskHas e.2.mask g

/-- The view of a sign's segment, resolved as the sign is decided: none while SEGMENTS is not ACTIVE or the row is not
present (R36), and none while the notice of a clear of SEGMENTS waits, also where SEGMENTS has been activated again
meanwhile: no reference is kept across a clear (R36; logs 7 and 42). -/
def State.segmentSeen (s : State) (g : Nat) : Option SegmentView :=
  if (s.reference .segments g).isSome then
    s.found .segments (.signerSegmentsNotice false) s.publisher.segmentView g
  else none

/-- The winner of a sign as the view now stands. -/
def State.winner (s : State) (row : SignRow) (r : SignRec) : Winner :=
  winnerOf row r.forced (s.warned row.segment) (s.segmentSeen row.segment)

/-- A sign is lit while its winner's face is not 0. -/
def SignRec.lit (r : SignRec) : Bool := r.winner.face != 0

/-- The desired record of a winner and a granted level (R157). -/
def desiredOf (w : Winner) (granted : Nat) : Display :=
  { face := w.face, parameter := w.parameter, level := if w.face = 0 then 0 else granted, flash := w.flash }

/-! ### The publication cycle (R158, R160, R161) -/

/-- The hold list of a port. -/
def Publisher.hold (p : Publisher) : Port → List Nat
  | .v => p.holdV
  | .s => p.holdS

/-- A hold list replaced. -/
def Publisher.setHold (p : Publisher) (port : Port) (l : List Nat) : Publisher :=
  match port with
  | .v => { p with holdV := l }
  | .s => { p with holdS := l }

/-- A hold list of the state replaced. -/
def State.withHold (s : State) (port : Port) (l : List Nat) : State :=
  s.withPublisher (s.publisher.setHold port l)

/-- The payload of a FACE SET: token, face, parameter, level, flash (chapter 11). -/
def faceSetPayload (token : Byte) (d : Display) : Bytes :=
  [token, d.face] ++ be 2 d.parameter.toNat ++ byteOf d.level ++ flagByte d.flash

/-- A record after an ACCEPTED offer. -/
def acceptedSign (now : Nat) (r : SignRec) : SignRec :=
  { r with
    published := r.desired, token := r.token + 1, attempts := r.attempts + 1, nextPending := false
    phase := .awaiting, reply := some (now + Config.replyLimit) }

/-- One attempt: a FACE SET composed and offered. A sign answered FULL joins the tail of its port's hold list, or its
head when it came from there. The answer is given back. -/
def attempt (g : Nat) (front : Bool) (s : State) : State × OfferAnswer :=
  match s.sign g, s.signRow g with
  | some r, some row =>
    let frame := s.compose .faceSet (BitVec.ofNat 10 row.address) (faceSetPayload (r.token + 1) r.desired)
    match offer row.port { frame := frame, restartReply := false } s with
    | (t, .accepted) => (t.withSign g (acceptedSign s.now r), .accepted)
    | (t, .full) =>
      let l := (t.publisher.hold row.port).filter fun h => h != g
      ((t.withSign g { r with phase := .held, reply := none }).withHold row.port
        (if front then g :: l else l ++ [g]), .full)
  | _, _ => (s, .accepted)

/-- A cycle starts, with its first attempt. -/
def startCycle (g : Nat) (s : State) : State :=
  match s.sign g with
  | none => s
  | some r =>
    (attempt g false (s.withSign g { r with attempts := 0, mismatch := false, republish := none })).1

/-- The attempts of a port's held signs, from the head, until an offer is answered FULL (R158). -/
def serveHeld (p : Port) : List Nat → State → State
  | [], s => s
  | g :: rest, s =>
    match attempt g true (s.withHold p rest) with
    | (t, .accepted) => serveHeld p rest t
    | (t, .full) => t

/-- SPACE_SIGNAL (R13, R158). -/
def execSpaceSignal (p : Port) (s : State) : Host.Outcome State Fault Refusal :=
  taken (.spaceSignal p) (fun s => serveHeld p (s.publisher.hold p) s) s

/-! ### Changes of the desired record (R155, R157) -/

/-- The desired record made to agree with winner and granted level; a change acts by the sign's phase. While AWAITING
next pending says that the desired record differs from the published one: a change that is undone leaves no trace. -/
def refreshDesired (g : Nat) (s : State) : State :=
  match s.sign g with
  | none => s
  | some r =>
    let d := desiredOf r.winner r.granted
    if d = r.desired then s
    else
      match r.phase with
      | .idle =>
        let t := s.withSign g { r with desired := d }
        if d = r.published then t else startCycle g t
      | .held => s.withSign g { r with desired := d }
      | .awaiting => s.withSign g { r with desired := d, nextPending := decide (d ≠ r.published) }

/-- A sign's winner decided afresh, with the lit notice of a changed lit state. -/
def decideSign (g : Nat) (s : State) : State :=
  match s.sign g, s.signRow g with
  | some r, some row =>
    let r' := { r with winner := s.winner row r }
    let t := s.withSign g r'
    refreshDesired g (if r.lit = r'.lit then t else t.hand (.litNotice g r'.lit))
  | _, _ => s

/-- The signs whose row names one of some segments, in increasing index order. -/
def State.signsOf (s : State) (p : Nat → Bool) : List Nat :=
  (mapKeys s.publisher.signs).filter fun g => (s.signRow g).any fun row => p row.segment

/-! ### Notices (R154) -/

/-- The view's record of a segment changed, and the winners of its signs decided afresh. A notice for a segment with
no present row is dropped. -/
def viewSegment (g : Nat) (f : SegmentView → SegmentView) (s : State) : State :=
  match mapGet s.publisher.segmentView g with
  | none => s
  | some v =>
    let t := s.withPublisher { s.publisher with segmentView := mapPut s.publisher.segmentView g (f v) }
    forEach (t.signsOf fun n => n == g) decideSign t

/-- SEGMENT_NOTICE (R154). -/
def execSegmentNotice (g : Nat) (state : ClosureState) (parameter : BitVec 16) (s : State) :
    Host.Outcome State Fault Refusal :=
  taken (.segmentNotice g state parameter)
    (viewSegment g fun v => { v with state := state, parameter := parameter }) s

/-- GRADE_NOTICE (R154). -/
def execGradeNotice (g grade : Nat) (s : State) : Host.Outcome State Fault Refusal :=
  taken (.gradeNotice g grade) (viewSegment g fun v => { v with grade := grade }) s

/-- A warning notice taken. -/
def viewPath (p : Nat) (on : Bool) (mask : Byte) (s : State) : State :=
  let t := s.withPublisher
    { s.publisher with pathView := mapPut s.publisher.pathView p { warning := on, mask := mask } }
  forEach (t.signsOf fun n => maskHas mask n) decideSign t

/-- WARNING_NOTICE (R154). -/
def execWarningNotice (p : Nat) (on : Bool) (mask : Byte) (s : State) : Host.Outcome State Fault Refusal :=
  taken (.warningNotice p on mask) (viewPath p on mask) s

/-- A sign's granted level handed over (R157). -/
def takeGranted (g level : Nat) (s : State) : State :=
  match s.sign g with
  | none => s
  | some r => refreshDesired g (s.withSign g { r with granted := level })

/-- GRANT_NOTICE (R157). -/
def execGrantNotice (g level : Nat) (s : State) : Host.Outcome State Fault Refusal :=
  taken (.grantNotice g level) (takeGranted g level) s

/-! ### The sweep (R164, R165) -/

/-- The running sweep replaced. -/
def State.withSweep (s : State) (w : Option Sweep) : State := s.withPublisher { s.publisher with sweep := w }

/-- The sweep ends with every sign confirmed. -/
def sweepDone (w : Sweep) (s : State) : State :=
  (s.withSweep none).reply 0x39 w.tag done (byteOf w.signs.length)

/-- The sweep stops at its position: position, residual count, reason. At a cycle's end its REPLY is offered before the
SIGN report of the same event, which goes out when the event is over; no rule orders the two (log 46). -/
def sweepStop (w : Sweep) (reason : Byte) (s : State) : State :=
  (s.withSweep none).reply 0x39 w.tag stoppedResult
    (byteOf w.position ++ byteOf (w.signs.length - w.position) ++ [reason])

/-- The sweep takes the sign at its position. -/
def sweepTake (w : Sweep) (s : State) : State :=
  match w.signs[w.position]? with
  | none => sweepDone w s
  | some g =>
    match s.sign g with
    | none => sweepStop w noTable s
    | some r =>
      if r.phase = .idle then (startCycle g s).withSweep (some { w with own := true })
      else s.withSweep (some { w with own := false })

/-- The reason of a sweep that stops at a cycle's end. -/
def stopReason : SignStatus → Byte
  | .fault => reasonFault
  | _ => reasonUnreachable

/-- What the sweep does at the end of its own cycle. -/
def sweepOwnEnd (w : Sweep) (status : SignStatus) (s : State) : State :=
  if status = .confirmed then sweepTake { w with position := w.position + 1, own := false } s
  else sweepStop w (stopReason status) s

/-- The end of a cycle, its status already set (R161, R165): a sweep that waits for the sign starts its own cycle in
place of a pending one. Where the running sweep ends or stops here, its REPLY goes to port V before the SIGN report of
the event (log 46). Where the cycle was the sweep's own and a change is pending, the pending cycle starts first and the
sweep goes on, ends or stops after it: the pending FACE SET goes ahead of that of the sweep's next sign and of the
sweep's REPLY, and a sweep whose next position names the same sign waits for the pending cycle. R161 and R165 do not
order the two; the order is the model's (log 33). -/
def cycleEnd (g : Nat) (status : SignStatus) (s : State) : State :=
  match s.sign g, s.signRow g with
  | some r, some row =>
    let t := s.withSign g
      { r with
        phase := .idle, attempts := 0, nextPending := false, reply := none
        republish := some (s.now + seconds row.republish) }
    let next := if r.nextPending then startCycle g t else t
    match s.publisher.sweep with
    | none => next
    | some w =>
      if w.signs[w.position]? = some g then
        if w.own then sweepOwnEnd w status next
        else (startCycle g t).withSweep (some { w with own := true })
      else next
  | _, _ => s

/-! ### Attempts decided (R159, R160, R163) -/

/-- The published record in a report or a reply: face, parameter, level, flash, token. -/
def publishedItem (r : SignRec) : Bytes :=
  [r.published.face] ++ be 2 r.published.parameter.toNat ++ byteOf r.published.level ++
    flagByte r.published.flash ++ [r.token]

/-- The confirmed face and level, or none. -/
def confirmedItem : Option (Byte × Nat) → Bytes
  | none => [0, 0, 0]
  | some c => [1, c.1] ++ byteOf c.2

/-- SIGN data (R163). -/
def signData (g : Nat) (before : SignStatus) (mismatch : Bool) (r : SignRec) (cause : SignCause) : Bytes :=
  byteOf g ++ byteOf (SignStatus.num before) ++ byteOf (SignStatus.num r.status) ++
    byteOf (Condition.num r.condition) ++ byteOf (WinnerKind.num r.winner.kind) ++ publishedItem r ++
    confirmedItem r.confirmed ++ flagByte mismatch ++ byteOf (SignCause.num cause)

/-- The cause of a SIGN report. -/
def signCause (old new : SignStatus) : SignCause :=
  if old = new then .condition
  else
    match new with
    | .unreachable => .noReply
    | .fault => .mismatch
    | _ => .confirmed

/-- The one SIGN report of an event that has changed a sign's status or condition, the record before the event and
the mismatch flag of the cycle that ended given. -/
def signReport (g : Nat) (old : SignRec) (mismatch : Bool) (s : State) : State :=
  match s.sign g with
  | none => s
  | some r =>
    if old.status = r.status ∧ old.condition = r.condition then s
    else s.report reportSign (signData g old.status mismatch r (signCause old.status r.status))

/-- The outcome of a cycle whose third attempt has failed. -/
def failedStatus (mismatch : Bool) : SignStatus := if mismatch then .fault else .unreachable

/-- An attempt has failed: the next one, or the end of the cycle (R160). `old` is the record before the event, `r` the
record the failure leaves. -/
def failAttempt (g : Nat) (old r : SignRec) (s : State) : State :=
  if r.attempts < Config.attemptLimit then
    signReport g old r.mismatch (attempt g false (s.withSign g r)).1
  else
    signReport g old r.mismatch
      (cycleEnd g (failedStatus r.mismatch) (s.withSign g { r with status := failedStatus r.mismatch }))

/-- An attempt has been confirmed (R159, R162). -/
def confirmAttempt (g : Nat) (old r : SignRec) (face : Byte) (level : Nat) (s : State) : State :=
  let t := (s.withSign g { r with status := .confirmed, confirmed := some (face, level) }).hand
    (.confirmationNotice g face)
  signReport g old r.mismatch (cycleEnd g .confirmed t)

/-- A FACE REPORT payload that passes its tests. -/
structure FaceReport where
  token : Byte
  face : Byte
  level : Nat
  condition : Condition
  deriving DecidableEq, Repr

/-- The condition a byte names. -/
def conditionOf (b : Byte) : Option Condition :=
  match b.toNat with
  | 0 => some .ok
  | 1 => some .lampFault
  | 2 => some .heaterFault
  | 3 => some .doorOpen
  | _ => none

/-- The tests of a FACE REPORT payload: length 4, a level of 0..7, a condition. -/
def parseFaceReport (payload : Bytes) : Option FaceReport :=
  match payload with
  | [token, face, level, cond] =>
    if 7 < level.toNat then none
    else (conditionOf cond).map fun c =>
      { token := token, face := face, level := level.toNat, condition := c }
  | _ => none

/-- The present sign whose line address is a report's source. -/
def State.signAt (s : State) (source : Addr) : Option Nat :=
  (mapKeys s.publisher.signs).find? fun g => (s.signRow g).any fun row => row.address == source.toNat

/-- A report at a sign: ignored unless the sign is AWAITING and the token is the published one. -/
def reportAt (g : Nat) (f : FaceReport) (s : State) : State :=
  match s.sign g with
  | none => s
  | some old =>
    if old.phase = .awaiting ∧ f.token = old.token then
      let r := { old with reply := none, condition := f.condition }
      if f.face = old.published.face ∧ f.level = old.published.level then
        confirmAttempt g old r f.face f.level s
      else failAttempt g old { r with mismatch := true } s
    else s

/-- A FACE REPORT frame taken. -/
def takeReport (a : Arrival) (s : State) : State :=
  if s.publisher.started then
    match parseFaceReport a.payload, s.signAt a.source with
    | some f, some g => reportAt g f s
    | _, _ => s
  else s

/-- FACE_REPORT (R159 to R163). -/
def execFaceReport (a : Arrival) (s : State) : Host.Outcome State Fault Refusal :=
  taken (.faceReport a) (takeReport a) s

/-- The expiry of a sign's reply timer. -/
def replyExpired (g : Nat) (s : State) : State :=
  match s.sign g with
  | none => s
  | some r =>
    match r.reply with
    | none => s
    | some e => failAttempt g r { r with reply := none } (s.reach e)

/-- REPLY_TIMER_EXPIRY (R160). -/
def execReplyTimerExpiry (g : Nat) (s : State) : Host.Outcome State Fault Refusal :=
  taken (.replyTimerExpiry g) (replyExpired g) s

/-- The expiry of a sign's republish timer. -/
def republishExpired (g : Nat) (s : State) : State :=
  match (s.sign g).bind SignRec.republish with
  | none => s
  | some e => startCycle g (s.reach e)

/-- REPUBLISH_TIMER_EXPIRY (R161). -/
def execRepublishTimerExpiry (g : Nat) (s : State) : Host.Outcome State Fault Refusal :=
  taken (.republishTimerExpiry g) (republishExpired g) s

/-! ### Forced faces (R156) -/

/-- A sign's forced face replaced, and its winner decided afresh. -/
def setForced (g : Nat) (f : Option (Byte × Nat)) (s : State) : State :=
  match s.sign g with
  | none => s
  | some r => decideSign g (s.withSign g { r with forced := f })

/-- FORCE FACE's reply data: sign, the winner's kind and face, the forced timer's remaining time. -/
def forceData (g : Nat) (s : State) : Bytes :=
  match s.sign g with
  | none => []
  | some r =>
    byteOf g ++ byteOf (WinnerKind.num r.winner.kind) ++ [r.winner.face] ++
      timerItem (s.remaining (r.forced.map Prod.snd))

/-- FORCE FACE taken by the Sign Publisher. A duration of 0 where no face is forced changes nothing. -/
def forceFace (tag sign face : Byte) (duration : BitVec 16) (s : State) : State :=
  let g := sign.toNat
  if s.publisher.started = false then s.deferred (.forceFace tag sign face duration)
  else if 23 < g then s.reply 0x38 tag badArgument []
  else
    match s.sign g with
    | none => s.reply 0x38 tag noTable []
    | some r =>
      let t := if duration = 0 ∧ r.forced = none then s
        else setForced g (if duration = 0 then none else some (face, s.now + seconds duration.toNat)) s
      t.reply 0x38 tag done (forceData g t)

/-- FORCE_FACE (R156). -/
def execForceFace (tag sign face : Byte) (duration : BitVec 16) (s : State) : Host.Outcome State Fault Refusal :=
  taken (.forceFace tag sign face duration) (forceFace tag sign face duration) s

/-- The expiry of a sign's forced timer. -/
def forcedExpired (g : Nat) (s : State) : State :=
  match (s.sign g).bind SignRec.forced with
  | none => s
  | some f => setForced g none (s.reach f.2)

/-- FORCED_TIMER_EXPIRY (R156). -/
def execForcedTimerExpiry (g : Nat) (s : State) : Host.Outcome State Fault Refusal :=
  taken (.forcedTimerExpiry g) (forcedExpired g) s

/-! ### SIGN SWEEP (R164) -/

/-- SIGN SWEEP taken by the Sign Publisher: its tests in their order, then the sweep takes its first sign. Where SIGNS
is ACTIVE and the Publisher has not yet taken its in-service notice, the sweep passes R164's test of the region and,
with no sign in use yet (R35), stops at position 0 with NO TABLE, with the data of a stopped sweep. That it is taken and
not refused is the model's choice (DESIGN CHOICE, log 57). -/
def signSweep (tag : Byte) (signs : List Byte) (s : State) : State :=
  if s.publisher.started = false then s.deferred (.signSweep tag signs)
  else if signs.length = 0 ∨ 24 < signs.length then s.reply 0x39 tag badArgument []
  else if signs.any fun b => decide (23 < b.toNat) then s.reply 0x39 tag badArgument []
  else if s.serves .signs .signsOutOfService = false then s.reply 0x39 tag noTable []
  else if s.publisher.sweep.isSome then s.reply 0x39 tag busyResult []
  else
    sweepTake { signs := signs.map fun b => b.toNat, position := 0, tag := tag, own := false } s

/-- SIGN_SWEEP (R164, R165). -/
def execSignSweep (tag : Byte) (signs : List Byte) (s : State) : Host.Outcome State Fault Refusal :=
  taken (.signSweep tag signs) (signSweep tag signs) s

/-! ### SIGNS and SEGMENTS in and out of service (R154, R166) -/

/-- A sign's granted level as read from the Budget Allocator (R150). -/
def State.grantedLevel (s : State) (g : Nat) : Nat := (mapGet s.allocator.granted g).getD s.allocator.requested

/-- One sign of a building: the winner decided, a lit notice where its lit state differs from the one before, and a
cycle started, a blank winner's included. -/
def publishSign (wasLit : Nat → Bool) (g : Nat) (s : State) : State :=
  match s.sign g, s.signRow g with
  | some r, some row =>
    let w := s.winner row r
    let r' := { r with winner := w, desired := desiredOf w r.granted }
    let t := s.withSign g r'
    startCycle g (if r'.lit = wasLit g then t else t.hand (.litNotice g r'.lit))
  | _, _ => s

/-- The present rows of SIGNS taken into use, the records built and published in increasing index order. -/
def buildSigns (wasLit : Nat → Bool) (s : State) : State :=
  let rows := s.serviceRows .signs
  let t := ensureSigns (s.withPublisher { s.publisher with signsIn := true, rows := rows, holdV := [], holdS := [] })
  forEach (mapKeys rows) (publishSign wasLit)
    (t.withPublisher { t.publisher with signs := rows.map fun e => (e.1, .built (t.grantedLevel e.1)) })

/-- SIGNS has become ACTIVE: no sign was lit before. A notice of a region that has been cleared since changes nothing
(R35). One that still waits when the start has built from the ACTIVE SIGNS builds the signs again, with no lit notice
for a sign that goes dark so: a sign lit in between stays in the Allocator's lit set (R142). That is the model's choice
(DESIGN CHOICE, log 54). -/
def signsEnter (s : State) : State := if s.active .signs then buildSigns (fun _ => false) s else s

/-- SIGNS_INTO_SERVICE (R166). -/
def execSignsIntoService (s : State) : Host.Outcome State Fault Refusal :=
  taken .signsIntoService signsEnter s

/-- SIGNS has left service: a running sweep stops, every record and hold list is discarded. -/
def signsLeave (s : State) : State :=
  let t := s.withPublisher { s.publisher with signsIn := false, rows := [], signs := [], holdV := [], holdS := [] }
  match t.publisher.sweep with
  | none => t
  | some w => sweepStop w noTable t

/-- SIGNS_OUT_OF_SERVICE (R165, R166). -/
def execSignsOutOfService (s : State) : Host.Outcome State Fault Refusal :=
  taken .signsOutOfService signsLeave s

/-- A segment as read from its owners; one they have not built reads as OPEN with grade 0 (R154). An owner that still
holds the record of the cleared region, SEGMENTS being ACTIVE again and the owner's notice of the clear waiting, has not
yet built the segment of the new region (log 42). -/
def State.readSegment (s : State) (g : Nat) : SegmentView :=
  let r := s.segment g
  { state := (r.map SegmentRec.state).getD .opened
    parameter := (r.map SegmentRec.parameter).getD 0xFFFF
    grade := s.readGrade g }

/-- The segment part of the view read afresh. -/
def readView (entered : Bool) (s : State) : State :=
  s.withPublisher
    { s.publisher with
      segmentView :=
        if entered then (s.serviceRows .segments).map fun e => (e.1, s.readSegment e.1) else [] }

/-- SEGMENTS has entered or left service: the view read afresh, every winner decided afresh. -/
def signerSegments (entered : Bool) (s : State) : State :=
  let t := readView entered s
  forEach (mapKeys t.publisher.signs) decideSign t

/-- SIGNER_SEGMENTS_NOTICE (R154, R166). -/
def execSignerSegmentsNotice (entered : Bool) (s : State) : Host.Outcome State Fault Refusal :=
  taken (.signerSegmentsNotice entered) (signerSegments entered) s

/-! ### Start and restart (R167) -/

/-- The warnings and masks of the paths, read from the Path Monitor. -/
def State.readPaths (s : State) : Map PathView :=
  s.monitor.paths.map fun e =>
    (e.1, { warning := e.2.warning, mask := s.pathMask e.1 })

/-- The view read from the owners, and the signs built where SIGNS is ACTIVE. `started` says whether the Publisher
counts as started from here on. -/
def rebuildSigns (started : Bool) (wasLit : Nat → Bool) (s : State) : State :=
  let t := s.withPublisher
    { started := started, signsIn := false, rows := [], segmentView := [], pathView := s.readPaths
      signs := [], holdV := [], holdS := [], sweep := none }
  let u := readView (t.active .segments) t
  if u.active .signs then buildSigns wasLit u else u

/-- What the Sign Publisher's own requests do. -/
def publisherRequest : Instr → Option (State → State)
  | .forceFace tag sign face duration => some (forceFace tag sign face duration)
  | .signSweep tag signs => some (signSweep tag signs)
  | _ => none

/-- The Sign Publisher starts; then it takes the requests that have waited for it (R169). -/
def publisherStarts (s : State) : State := takeWaiting publisherRequest (rebuildSigns true (fun _ => false) s)

/-- SIGN_PUBLISHER_START (R167). -/
def execSignPublisherStart (s : State) : Host.Outcome State Fault Refusal :=
  taken .signPublisherStart publisherStarts s

/-- Whether a sign is lit, as its record now stands. -/
def State.signIsLit (s : State) (g : Nat) : Bool := (s.sign g).any SignRec.lit

/-- The Sign Publisher's restart. R167 and R175 say nothing of a restart notice that is taken before the Publisher has
started after a power-on: it has its effect, the view read and the signs built and published, and the Publisher stays
not started, so that the requests that wait for its start go on waiting, and later ones behind them (R169; log 55). -/
def publisherRestarts (s : State) : State := rebuildSigns s.publisher.started s.signIsLit s

/-- SIGN_PUBLISHER_RESTART (R167). -/
def execSignPublisherRestart (s : State) : Host.Outcome State Fault Refusal :=
  taken .signPublisherRestart publisherRestarts s

end Sys2Proof.Machine
end

