-- ==== Sys2Proof/Machine/Store.lean ====
section
/-!
DEFINITION. The Table Store (chapter 2): the nine table requests, the notices of a region that enters or leaves
service, the interlocks, the site record, the start-up list, power-on verification, and what a loss of supply leaves.
-/

namespace Sys2Proof.Machine

/-! ### Notices (R20, R30, R31) -/

/-- The notices of a region that has entered service. -/
def entryNotices : Region → List Instr
  | .channels => [.channelsIntoService, .graderChannelsNotice true, .budgetRegionNotice .channels true]
  | .gradeRules => [.gradeRulesIntoService]
  | .segments =>
    [.graderSegmentsIntoService, .segmentsIntoService, .signerSegmentsNotice true,
      .budgetRegionNotice .segments true]
  | .paths => [.pathsIntoService]
  | .schedule => [.scheduleIntoService]
  | .signs => [.signsIntoService, .budgetRegionNotice .signs true]
  | .gates => [.gatesIntoService, .budgetRegionNotice .gates true]

/-- The notices of a region that has left service. SCHEDULE's job is told by the conversion of its claims. -/
def exitNotices : Region → List Instr
  | .channels => [.channelsOutOfService, .graderChannelsNotice false, .budgetRegionNotice .channels false]
  | .gradeRules => [.gradeRulesOutOfService]
  | .segments =>
    [.graderSegmentsOutOfService, .segmentsOutOfService, .segmentReferenceAbsent, .signerSegmentsNotice false,
      .budgetRegionNotice .segments false]
  | .paths => [.pathsOutOfService]
  | .schedule => []
  | .signs => [.signsOutOfService, .budgetRegionNotice .signs false]
  | .gates => [.gatesOutOfService, .sequencerGatesOutOfService, .budgetRegionNotice .gates false]

/-- REGION STATE data (R42). -/
def regionData (r : Region) (h : Header) (cause : RegionCause) : Bytes :=
  byteOf (Region.number r) ++ byteOf (RegionState.num h.state) ++ byteOf h.count ++ be 2 h.check.toNat ++
    byteOf (RegionCause.num cause)

/-- A REGION STATE report requested. -/
def regionReport (cause : RegionCause) (s : State) (r : Region) : State :=
  s.report reportRegionState (regionData r (s.region r).header cause)

/-! ### OPEN REGION (R23) -/

/-- A request that names a region: the region number is tested first (R22). -/
def onRegion (code tag region : Byte) (f : Region → State → State) (s : State) : State :=
  match regionOf region with
  | none => s.reply code tag badArgument []
  | some r => f r s

/-- A table request is taken when the one before it has been taken whole: while a CLEAR ALL is under way it waits
(R22, R33). -/
def whenFree (c : Instr) (f : State → State) (s : State) : State :=
  if s.store.clearing.isSome then s.deferred c else f s

/-- A region's header replaced. -/
def State.withHeader (s : State) (r : Region) (h : Header) : State :=
  s.withRegion r { s.region r with header := h }

/-- OPEN REGION taken by the Table Store. -/
def openRegion (tag count : Byte) (r : Region) (s : State) : State :=
  if (s.region r).header.state ≠ .empty then s.reply 0x01 tag wrongState []
  else if within count.toNat 1 (Region.capacity r) = false then s.reply 0x01 tag badArgument []
  else (s.withHeader r { state := .opened, count := count.toNat, check := 0 }).reply 0x01 tag done []

/-- OPEN REGION at the Table Store. -/
def takeOpen (tag region count : Byte) : State → State :=
  whenFree (.openRegion tag region count) (onRegion 0x01 tag region (openRegion tag count))

/-- OPEN_REGION (R22, R23). -/
def execOpenRegion (tag region count : Byte) (s : State) : Host.Outcome State Fault Refusal :=
  taken (.openRegion tag region count) (takeOpen tag region count) s

/-! ### WRITE ROWS (R24) -/

/-- A row of a region written. -/
def State.withRow (s : State) (r : Region) (i : Nat) (row : Bytes) : State :=
  s.withRegion r { s.region r with rows := writeRow (s.region r).rows i row }

/-- The tests before a row is written, in their order. -/
def rowRefusal (x : RegionRecord) (i : Nat) : Option Byte :=
  if x.header.count ≤ i then some badArgument
  else if rowBlank x.rows i then none
  else some notBlank

/-- The rows of a request written in order until one fails: the state, and the failing test with its row index and the
residual count. -/
def writeRows (r : Region) : Nat → List Bytes → State → State × Option (Byte × Nat × Nat)
  | _, [], s => (s, none)
  | i, row :: rest, s =>
    match rowRefusal (s.region r) i with
    | some reason => (s, some (reason, i, rest.length + 1))
    | none => writeRows r (i + 1) rest (s.withRow r i row)

/-- WRITE ROWS taken by the Table Store. -/
def writeRequest (tag first count : Byte) (rows : List Bytes) (r : Region) (s : State) : State :=
  if (s.region r).header.state ≠ .opened then s.reply 0x02 tag wrongState []
  else if within count.toNat 1 3 = false then s.reply 0x02 tag badArgument []
  else
    match writeRows r first.toNat (rows.take count.toNat) s with
    | (t, none) => t.reply 0x02 tag done (byteOf 0)
    | (t, some (reason, i, residual)) => t.reply 0x02 tag reason (byteOf i ++ byteOf residual)

/-- WRITE ROWS at the Table Store. -/
def takeWrite (tag region first count : Byte) (rows : List Bytes) : State → State :=
  whenFree (.writeRows tag region first count rows) (onRegion 0x02 tag region (writeRequest tag first count rows))

/-- WRITE_ROWS (R22, R24). -/
def execWriteRows (tag region first count : Byte) (rows : List Bytes) (s : State) :
    Host.Outcome State Fault Refusal :=
  taken (.writeRows tag region first count rows) (takeWrite tag region first count rows) s

/-! ### READ ROWS and BLANK CHECK (R25, R26) -/

/-- READ ROWS taken by the Table Store. The rows are read as a list of varying length, which R178 precedes by a one-byte
count: the region's declared row count, the item before them, is not the list's (log 23). -/
def readRequest (tag first count : Byte) (r : Region) (s : State) : State :=
  if within count.toNat 1 3 = false ∨ Region.capacity r < first.toNat + count.toNat then
    s.reply 0x03 tag badArgument []
  else
    let x := s.region r
    s.reply 0x03 tag done
      (byteOf (RegionState.num x.header.state) ++ byteOf x.header.count ++ [count] ++
        (List.range count.toNat).flatMap fun i => readRow x.rows (first.toNat + i))

/-- READ ROWS at the Table Store. -/
def takeRead (tag region first count : Byte) : State → State :=
  whenFree (.readRows tag region first count) (onRegion 0x03 tag region (readRequest tag first count))

/-- READ_ROWS (R22, R25). -/
def execReadRows (tag region first count : Byte) (s : State) : Host.Outcome State Fault Refusal :=
  taken (.readRows tag region first count) (takeRead tag region first count) s

/-- The lowest row of a region that is not blank. -/
def firstWritten (r : Region) (rows : Map Bytes) : Option Nat :=
  (List.range (Region.capacity r)).find? fun i => !rowBlank rows i

/-- BLANK CHECK taken by the Table Store. -/
def blankRequest (tag : Byte) (r : Region) (s : State) : State :=
  match firstWritten r (s.region r).rows with
  | none => s.reply 0x04 tag done []
  | some i => s.reply 0x04 tag notBlank (byteOf i)

/-- BLANK CHECK at the Table Store. -/
def takeBlank (tag region : Byte) : State → State :=
  whenFree (.blankCheck tag region) (onRegion 0x04 tag region (blankRequest tag))

/-- BLANK_CHECK (R22, R26). -/
def execBlankCheck (tag region : Byte) (s : State) : Host.Outcome State Fault Refusal :=
  taken (.blankCheck tag region) (takeBlank tag region) s

/-! ### ACTIVATE REGION (R27 to R30) -/

/-- The sum of a row's bytes. -/
def rowSum (row : Bytes) : Nat := (row.map fun b => b.toNat).sum

/-- A region's check: the sum of every byte of rows 0 to n−1, modulo 65536 (R27). -/
def regionCheck (count : Nat) (rows : Map Bytes) : BitVec 16 :=
  BitVec.ofNat 16 ((List.range count).map fun i => rowSum (readRow rows i)).sum

/-- The first present row that is not valid (R28). -/
def firstInvalid (r : Region) (rows : List (Nat × Bytes)) : Option Nat :=
  (rows.find? fun e => !rowValid r e.2).map Prod.fst

/-- What an activation is refused with: the result and its data; none when its three stages pass. -/
def activationRefusal (r : Region) (check : BitVec 16) (x : RegionRecord) : Option (Byte × Bytes) :=
  let computed := regionCheck x.header.count x.rows
  let rows := presentRows x.header.count x.rows
  if x.header.state ≠ .opened then some (wrongState, [])
  else if computed ≠ check then some (checkMismatch, be 2 computed.toNat)
  else
    match firstInvalid r rows with
    | some i => some (invalidRow, byteOf i)
    | none =>
      match firstConflict r [] rows with
      | some i => some (invalidRow, byteOf i)
      | none => none

/-- A region put into service. -/
def activated (check : BitVec 16) (x : RegionRecord) : RegionRecord :=
  { x with header := { x.header with state := .active, check := check } }

/-- ACTIVATE REGION taken by the Table Store. -/
def activateRequest (tag : Byte) (check : BitVec 16) (r : Region) (s : State) : State :=
  match activationRefusal r check (s.region r) with
  | some (result, data) => s.reply 0x05 tag result data
  | none =>
    let t := (s.withRegion r (activated check (s.region r))).handAll (entryNotices r)
    regionReport .activated (t.reply 0x05 tag done []) r

/-- ACTIVATE REGION at the Table Store. -/
def takeActivate (tag region : Byte) (check : BitVec 16) : State → State :=
  whenFree (.activateRegion tag region check) (onRegion 0x05 tag region (activateRequest tag check))

/-- ACTIVATE_REGION (R22, R27 to R30). -/
def execActivateRegion (tag region : Byte) (check : BitVec 16) (s : State) : Host.Outcome State Fault Refusal :=
  taken (.activateRegion tag region check) (takeActivate tag region check) s

/-! ### CLEAR REGION and CLEAR ALL (R31 to R34) -/

/-- The interlocks: SEGMENTS while a segment is not OPEN, GATES while a gate holds an admission, each while its region
is ACTIVE (R32). -/
def State.interlocked (s : State) (r : Region) : Bool :=
  match r with
  | .segments => s.active .segments && s.sequencer.segments.any fun e => e.2.state != .opened
  | .gates => s.active .gates && s.drives.gates.any fun e => e.2.admission == .held
  | _ => false

/-- An EMPTY header. -/
def Header.empty : Header := { state := .empty, count := 0, check := 0 }

/-- A region's record cleared. -/
def cleared : RegionRecord := { header := .empty, rows := [] }

/-- The claims converted at the clear of an ACTIVE region (R34). -/
def convertRegion (r : Region) (s : State) : State :=
  match r with
  | .paths => convertPaths s
  | .schedule => convertSchedule s
  | _ => s

/-- The clear of one region: header, rows, start-up list, and where it was ACTIVE the conversion and the notices. The
conversion is an event of its own before the REPLY: its SEGMENT reports go out first (R34, R176). -/
def clearOne (r : Region) (s : State) : State :=
  let t := s.withRegion r cleared
  let u := t.withStore { t.store with startList := t.store.startList.filter fun x => x != r }
  if s.active r then (flushReports (convertRegion r u)).handAll (exitNotices r) else u

/-- CLEAR REGION taken by the Table Store. -/
def clearRequest (tag : Byte) (r : Region) (s : State) : State :=
  if s.interlocked r then s.reply 0x06 tag wrongState (byteOf (Region.number r))
  else regionReport .cleared ((clearOne r s).reply 0x06 tag done []) r

/-- CLEAR REGION at the Table Store. -/
def takeClear (tag region : Byte) : State → State :=
  whenFree (.clearRegion tag region) (onRegion 0x06 tag region (clearRequest tag))

/-- CLEAR_REGION (R22, R31, R32, R34). -/
def execClearRegion (tag region : Byte) (s : State) : Host.Outcome State Fault Refusal :=
  taken (.clearRegion tag region) (takeClear tag region) s

/-- The CLEAR ALL under way replaced. -/
def State.withClearing (s : State) (x : Option ClearRun) : State := s.withStore { s.store with clearing := x }

/-- One clear of a CLEAR ALL, the next one left to a later step: events at other blocks come between (R33; log 29). -/
def clearAndGoOn (run : ClearRun) (r : Region) (s : State) : State :=
  (clearOne r s).withClearing (some { run with cleared := run.cleared + 1 })

/-- CLEAR ALL begun: the interlocks of the whole request, then the clear of the first region. -/
def beginClearAll (tag : Byte) (s : State) : State :=
  match regionOrder.find? s.interlocked with
  | some r => s.reply 0x07 tag wrongState (byteOf (Region.number r))
  | none => clearAndGoOn { tag := tag, cleared := 0 } .channels s

/-- CLEAR ALL at the Table Store: one request in its turn, whatever its tag; its further clears are steps of their own
(`clearGoesOn`). -/
def takeClearAll (tag : Byte) : State → State := whenFree (.clearAll tag) (beginClearAll tag)

/-- CLEAR_ALL (R33). -/
def execClearAll (tag : Byte) (s : State) : Host.Outcome State Fault Refusal :=
  taken (.clearAll tag) (takeClearAll tag) s

/-! ### The site record (R38, R39) -/

/-- A field stored. -/
def State.withField (s : State) (f : SiteField) (v : BitVec 16) : State :=
  s.withStore { s.store with site := s.store.site.set f v }

/-- SITE WRITE taken by the Table Store. The REPLY leaves before the new node address takes effect. The effect of a
new base draw, light channel or light step at the Allocator comes after the REPLY too, and so does its BUDGET report:
R38 and R149 do not order the two, and the order is the model's (log 46). -/
def siteWrite (tag field : Byte) (value : BitVec 16) (s : State) : State :=
  match siteFieldOf field with
  | none => s.reply 0x08 tag badArgument []
  | some f =>
    let v := clampSite f value
    siteChanged f ((s.reply 0x08 tag done ([field] ++ be 2 v.toNat)).withField f v)

/-- SITE WRITE at the Table Store. -/
def takeSiteWrite (tag field : Byte) (value : BitVec 16) : State → State :=
  whenFree (.siteWrite tag field value) (siteWrite tag field value)

/-- SITE_WRITE (R38). -/
def execSiteWrite (tag field : Byte) (value : BitVec 16) (s : State) : Host.Outcome State Fault Refusal :=
  taken (.siteWrite tag field value) (takeSiteWrite tag field value) s

/-- The eight values in code order. -/
def siteData (r : SiteRecord) : Bytes := siteFields.flatMap fun f => be 2 (r.get f).toNat

/-- SITE READ at the Table Store. -/
def takeSiteRead (tag : Byte) : State → State :=
  whenFree (.siteRead tag) fun s => s.reply 0x09 tag done (siteData s.store.site)

/-- SITE_READ (R39). -/
def execSiteRead (tag : Byte) (s : State) : Host.Outcome State Fault Refusal :=
  taken (.siteRead tag) (takeSiteRead tag) s

/-! ### CLEAR ALL to its end (R33) -/

/-- What each table request does when it has waited for the end of a CLEAR ALL. Another CLEAR ALL then begins, and
those behind it wait on. -/
def tableRequest : Instr → Option (State → State)
  | .openRegion tag region count => some (takeOpen tag region count)
  | .writeRows tag region first count rows => some (takeWrite tag region first count rows)
  | .readRows tag region first count => some (takeRead tag region first count)
  | .blankCheck tag region => some (takeBlank tag region)
  | .activateRegion tag region check => some (takeActivate tag region check)
  | .clearRegion tag region => some (takeClear tag region)
  | .clearAll tag => some (takeClearAll tag)
  | .siteWrite tag field value => some (takeSiteWrite tag field value)
  | .siteRead tag => some (takeSiteRead tag)
  | _ => none

/-- The end of a CLEAR ALL that has cleared the first `n` regions: its REPLY, a report for each of them in region order,
and then the table requests that have waited. -/
def endClearAll (tag result : Byte) (data : Bytes) (n : Nat) (s : State) : State :=
  takeWaiting tableRequest
    ((regionOrder.take n).foldl (regionReport .cleared) ((s.withClearing none).reply 0x07 tag result data))

/-- The next clear of a CLEAR ALL, its interlock applied again: the clearing stops at a region found blocked. -/
def clearNext (run : ClearRun) (s : State) : State :=
  match regionOrder[run.cleared]? with
  | none => endClearAll run.tag done [] run.cleared s
  | some r =>
    if s.interlocked r then endClearAll run.tag wrongState (byteOf (Region.number r)) run.cleared s
    else if run.cleared + 1 < regionOrder.length then clearAndGoOn run r s
    else endClearAll run.tag done [] (run.cleared + 1) (clearOne r s)

/-- The Table Store goes on with the CLEAR ALL under way: its next clear, as a step of its own, with the reports it asks
for. With none under way nothing happens. -/
def clearGoesOn (s : State) : State :=
  match s.store.clearing with
  | none => s
  | some run => flushReports (clearNext run s)

/-! ### The start-up list (R41) -/

/-- A report for each region on the list, in list order; the list is emptied. -/
def lineConnected (s : State) : State :=
  (s.store.startList.foldl (regionReport .failedAtStartup) s).withStore { s.store with startList := [] }

/-- LINE_CONNECTED_NOTICE (R14, R41). -/
def execLineConnectedNotice (s : State) : Host.Outcome State Fault Refusal :=
  taken .lineConnectedNotice lineConnected s

/-! ### Power-on verification (R40) -/

/-- A record found FAILED with n and check 0. -/
def failedBlank (x : RegionRecord) : RegionRecord := { x with header := { state := .failed, count := 0, check := 0 } }

/-- A region as verification leaves it. -/
def verified (r : Region) (x : RegionRecord) : RegionRecord :=
  match x.header.state with
  | .invalid _ => failedBlank x
  | .empty => if (firstWritten r x.rows).isSome ∨ Region.capacity r < x.header.count then failedBlank x else x
  | .active =>
    if Region.capacity r < x.header.count then failedBlank x
    else if regionCheck x.header.count x.rows ≠ x.header.check then
      { x with header := { x.header with state := .failed } }
    else x
  | .opened => if Region.capacity r < x.header.count then failedBlank x else x
  | .failed => if Region.capacity r < x.header.count then failedBlank x else x

/-- The seven regions verified, in region order. -/
def verifiedRegions (rs : Regions) : Regions :=
  regionOrder.foldl (fun acc r => acc.set r (verified r (rs.get r))) rs

/-- The regions that became FAILED in the verification, in region order. -/
def newlyFailed (rs : Regions) : List Region :=
  regionOrder.filter fun r =>
    (verified r (rs.get r)).header.state == .failed && (rs.get r).header.state != .failed

/-- The site record with every value out of range replaced by its factory value. -/
def repaired (site : SiteRecord) : SiteRecord :=
  siteFields.foldl (fun acc f => acc.set f (repairSite f (acc.get f))) site

/-- The Table Store after verification. -/
def verifiedStore (st : TableStore) : TableStore :=
  { regions := verifiedRegions st.regions, site := repaired st.site, startList := newlyFailed st.regions
    clearing := none }

/-! ### Loss of supply (R43) -/

/-- A row cut short in its writing: the bytes the mask marks are new. -/
def mixRow (mask : BitVec 32) (old new : Bytes) : Bytes :=
  (List.range rowSize).map fun i => if mask.getLsbD i then new.getD i 0xFF else old.getD i 0xFF

/-- The rows of a clear cut short: those below `blanked` are blank, the next is mixed. -/
def cutClear (blanked : Nat) (mask : BitVec 32) (x : RegionRecord) : RegionRecord :=
  { x with
    header := .empty
    rows := writeRow (x.rows.filter fun e => decide (blanked ≤ e.1)) blanked
      (mixRow mask (readRow x.rows blanked) blankRow) }

/-- A WRITE ROWS cut short: the earlier rows written, the row under way mixed. -/
def cutWrite (r : Region) (first : Nat) (rows : List Bytes) (written : Nat) (mask : BitVec 32) (s : State) : State :=
  match writeRows r first (rows.take written) s, rows[written]? with
  | (t, none), some row =>
    if rowRefusal (t.region r) (first + written) = none then
      t.withRow r (first + written) (mixRow mask (readRow (t.region r).rows (first + written)) (asRow row))
    else t
  | (t, _), _ => t

/-- Whether a request can be under way: between the clears of a CLEAR ALL only its next clear (R22). -/
def cutPossible (c : Cut) (s : State) : Bool :=
  match s.store.clearing with
  | none => true
  | some run =>
    match c with
    | .clear r _ _ => regionOrder[run.cleared]? == some r
    | _ => false

/-- What the request under way at the loss of supply leaves in non-volatile memory. A cut is of a request that would
have been taken; of any other there is nothing to cut (log 25). -/
def cutShort (c : Cut) (s : State) : State :=
  match c with
  | .quiet => s
  | .openRegion r n written =>
    if written = true ∧ (s.region r).header.state = .empty ∧ within n 1 (Region.capacity r) = true then
      s.withHeader r { state := .opened, count := n, check := 0 }
    else s
  | .writeRows r first rows n mask =>
    if (s.region r).header.state = .opened ∧ within rows.length 1 3 = true then cutWrite r first rows n mask s else s
  | .activate r check written =>
    if written = true ∧ activationRefusal r check (s.region r) = none then
      s.withRegion r (activated check (s.region r))
    else s
  | .clear r blanked mask =>
    if s.interlocked r = false ∧ blanked < Region.capacity r then
      s.withRegion r (cutClear blanked mask (s.region r))
    else s
  | .siteWrite f v written => if written then s.withField f (clampSite f v) else s

/-- Supply is lost: what was under way is cut short, and every event and request that waited is gone (log 45). A CLEAR
ALL goes no further. -/
def supplyLost (c : Cut) (s : State) : State :=
  if s.power then
    let t := if cutPossible c s then cutShort c s else s
    { ((t.withClearing none).withHanded []).withWaiting [] with power := false }
  else s

/-- SUPPLY_LOST (R43). -/
def execSupplyLost (c : Cut) (s : State) : Host.Outcome State Fault Refusal := .next (supplyLost c s)

end Sys2Proof.Machine
end

