-- ==== Sys2Proof/Machine/Manage.lean ====
section
/-!
DEFINITION. The Management Responder (chapter 10): the acceptance of MANAGE frames, the queries, RESTART and its
taking effect; and power-on.
-/

namespace Sys2Proof.Machine

/-! ### Acceptance (R168) -/

/-- The parameter length of a request code; for WRITE ROWS and SIGN SWEEP computed from the count the parameters
carry. None for a code of no request. -/
def requestLength (code : Byte) (ps : Bytes) : Option Nat :=
  match code.toNat with
  | 0x01 => some 2
  | 0x02 => some (3 + 32 * (byteAt ps 2).toNat)
  | 0x03 => some 3
  | 0x04 => some 1
  | 0x05 => some 3
  | 0x06 => some 1
  | 0x07 => some 0
  | 0x08 => some 3
  | 0x09 => some 0
  | 0x10 => some 2
  | 0x18 => some 1
  | 0x19 => some 1
  | 0x1A => some 1
  | 0x20 => some 2
  | 0x21 => some 1
  | 0x22 => some 5
  | 0x28 => some 1
  | 0x29 => some 1
  | 0x30 => some 2
  | 0x38 => some 4
  | 0x39 => some (1 + (byteAt ps 0).toNat)
  | 0x40 => some 0
  | 0x41 => some 1
  | 0x42 => some 2
  | 0x43 => some 1
  | 0x44 => some 1
  | 0x45 => some 1
  | 0x4F => some 0
  | _ => none

/-- The rows that the parameters of a WRITE ROWS carry. -/
def carriedRows (ps : Bytes) : List Bytes :=
  (List.range (byteAt ps 2).toNat).map fun i => (ps.drop (3 + 32 * i)).take 32

/-- The 16-bit parameter at an offset. -/
def word16 (ps : Bytes) (offset : Nat) : BitVec 16 := BitVec.ofNat 16 (field ps offset 2)

/-- The request of a code, with parameters of the right length. -/
def requestOf (code tag : Byte) (ps : Bytes) : Option Instr :=
  match code.toNat with
  | 0x01 => some (.openRegion tag (byteAt ps 0) (byteAt ps 1))
  | 0x02 => some (.writeRows tag (byteAt ps 0) (byteAt ps 1) (byteAt ps 2) (carriedRows ps))
  | 0x03 => some (.readRows tag (byteAt ps 0) (byteAt ps 1) (byteAt ps 2))
  | 0x04 => some (.blankCheck tag (byteAt ps 0))
  | 0x05 => some (.activateRegion tag (byteAt ps 0) (word16 ps 1))
  | 0x06 => some (.clearRegion tag (byteAt ps 0))
  | 0x07 => some (.clearAll tag)
  | 0x08 => some (.siteWrite tag (byteAt ps 0) (word16 ps 1))
  | 0x09 => some (.siteRead tag)
  | 0x10 => some (.holdGrade tag (byteAt ps 0) (byteAt ps 1))
  | 0x18 => some (.confirmPath tag (byteAt ps 0))
  | 0x19 => some (.declinePath tag (byteAt ps 0))
  | 0x1A => some (.clearPath tag (byteAt ps 0))
  | 0x20 => some (.closeSegment tag (byteAt ps 0) (byteAt ps 1))
  | 0x21 => some (.releaseSegment tag (byteAt ps 0))
  | 0x22 => some (.setTime tag false (word16 ps 0) (BitVec.ofNat 24 (field ps 2 3)))
  | 0x28 => some (.gateStop tag (byteAt ps 0))
  | 0x29 => some (.gateResume tag (byteAt ps 0))
  | 0x30 => some (.setBudget tag (word16 ps 0))
  | 0x38 => some (.forceFace tag (byteAt ps 0) (byteAt ps 1) (word16 ps 2))
  | 0x39 => some (.signSweep tag (ps.drop 1))
  | 0x40 => some (.sectionStatus tag)
  | 0x41 => some (.channelQuery tag (byteAt ps 0))
  | 0x42 => some (.segmentQuery tag (byteAt ps 0) (byteAt ps 1))
  | 0x43 => some (.pathQuery tag (byteAt ps 0))
  | 0x44 => some (.gateQuery tag (byteAt ps 0))
  | 0x45 => some (.signQuery tag (byteAt ps 0))
  | 0x4F => some (.restart tag)
  | _ => none

/-- A MANAGE frame for the own address, its request code, tag and parameters taken apart: refused, or handed to its
owner (R168, R169). -/
def acceptRequest (code tag : Byte) (ps : Bytes) (s : State) : State :=
  match requestLength code ps with
  | none => s.reply code tag unknownRequestResult []
  | some n =>
    if ps.length = n then
      match requestOf code tag ps with
      | none => s
      | some c => s.hand c
    else s.reply code tag badLength []

/-- A MANAGE frame sent to broadcast: only a SET TIME of the right length is handed on. -/
def acceptBroadcast (code tag : Byte) (ps : Bytes) (s : State) : State :=
  if code = 0x22 ∧ ps.length = 5 then
    s.hand (.setTime tag true (word16 ps 0) (BitVec.ofNat 24 (field ps 2 3)))
  else s

/-- A MANAGE frame that reaches the Responder. -/
def takeManage (a : Arrival) (s : State) : State :=
  if a.source ≠ 0 then s
  else
    match a.payload with
    | code :: tag :: ps =>
      if a.dest = broadcast then acceptBroadcast code tag ps s else acceptRequest code tag ps s
    | _ => s

/-- MANAGE_FRAME (R168, R169). -/
def execManageFrame (a : Arrival) (s : State) : Host.Outcome State Fault Refusal :=
  taken (.manageFrame a) (takeManage a) s

/-- A request code that no request has (log 19). -/
def refuseUnknown (code tag : Byte) (s : State) : State :=
  if (requestLength code []).isNone then s.reply code tag unknownRequestResult [] else s

/-- UNKNOWN_REQUEST (R168, R170). -/
def execUnknownRequest (code tag : Byte) (s : State) : Host.Outcome State Fault Refusal :=
  taken (.unknownRequest code tag) (refuseUnknown code tag) s

/-! ### SECTION STATUS (R171) -/

/-- A port's four counters, in the order of R17. -/
def counterData (q : PortState) : Bytes :=
  be 2 q.badFrames ++ be 2 q.overflow ++ be 2 q.reportLoss ++ be 2 q.forwarded

/-- A region's header. -/
def headerData (h : Header) : Bytes := byteOf (RegionState.num h.state) ++ byteOf h.count ++ be 2 h.check.toNat

/-- The Budget Allocator's part; K is sent as a level, one byte (log 11). -/
def allocatorData (a : Allocator) : Bytes :=
  figureItem a.budget ++ figureItem a.figures.floor ++ figureItem a.figures.ceiling ++
    figureItem a.figures.effective ++ byteOf a.figures.cap ++ byteOf a.requested ++
    figureItem a.figures.remaining ++ figureItem a.committed ++ flagByte a.belowFloor ++
    byteOf a.queue.length ++ a.queue.flatMap entryItem

/-- A segment's closure state, or absent. -/
def segmentStateByte (s : State) (g : Nat) : Bytes :=
  match s.found .segments .segmentsOutOfService s.sequencer.segments g with
  | none => [0xFF]
  | some r => byteOf (closureNum r.state)

/-- SECTION STATUS data. Between a clear of GATES and the Gate Drive Units' notice of it the gate states shown are those
of the records that still stand: R117 has every channel UNCONFIGURED while GATES is not ACTIVE, R138 makes it so at the
notice, and neither says what is read in between. This is the model's choice (DESIGN CHOICE, log 57). -/
def statusData (s : State) : Bytes :=
  be 2 s.store.site.sectionNumber.toNat ++ be 2 s.store.site.nodeAddress.toNat ++ stampItem s.now ++
    clockItem s.sequencer.clock ++ byteOf (LineState.num s.line.lineState) ++
    byteOf (linkNum s.line.portV.up) ++ byteOf (linkNum s.line.portS.up) ++
    counterData s.line.portV ++ counterData s.line.portS ++
    regionOrder.flatMap (fun r => headerData (s.region r).header) ++ allocatorData s.allocator ++
    (List.range 8).flatMap (segmentStateByte s) ++
    (List.range 4).flatMap (fun k => byteOf (GateState.num (s.gateState k))) ++
    flagByte s.publisher.sweep.isSome

/-- SECTION_STATUS (R171). -/
def execSectionStatus (tag : Byte) (s : State) : Host.Outcome State Fault Refusal :=
  taken (.sectionStatus tag) (fun s => s.reply 0x40 tag done (statusData s)) s

/-! ### Queries of one index (R172) -/

/-- A query of one index: beyond the range, without a record, or answered. -/
def answerQuery {α : Type} (code tag : Byte) (i last : Nat) (r : Option α) (data : α → Bytes) (s : State) : State :=
  if last < i then s.reply code tag badArgument []
  else
    match r with
    | none => s.reply code tag noTable []
    | some r => s.reply code tag done (data r)

/-- CHANNEL QUERY data. -/
def channelData (kind : Byte) (s : State) (r : ChannelRec) : Bytes :=
  [kind] ++ byteOf (statusNum r.status) ++ presenceItem 2 (r.lastRaw.map BitVec.toNat) ++ beInt 2 r.value ++
    beInt 2 r.filtered ++ flagByte r.saturated ++ byteOf r.ring.length ++ r.ring.flatMap (beInt 2) ++
    beInt 4 ((riseOf r.ring).getD 0) ++ flagByte (riseOf r.ring).isSome ++ timerItem (s.remaining r.age) ++
    byteOf r.faultRun ++ presenceItem 1 (r.lastSeq.map BitVec.toNat)

/-- CHANNEL QUERY answered. -/
def channelQuery (tag channel : Byte) (s : State) : State :=
  let c := channel.toNat
  answerQuery 0x41 tag c 63 (s.found .channels .channelsOutOfService s.intake.channels c)
    (channelData (((s.channelRow c).map ChannelRow.kind).getD 0) s) s

/-- CHANNEL_QUERY (R172). -/
def execChannelQuery (tag channel : Byte) (s : State) : Host.Outcome State Fault Refusal :=
  taken (.channelQuery tag channel) (channelQuery tag channel) s

/-- PATH QUERY data. R78 gives a path's warning as on or off and does not call it a flag: it is sent as one, on 1 and
off 0 (log 10). -/
def pathQueryData (s : State) (r : PathRec) : Bytes :=
  byteOf (PathState.num r.state) ++ byteOf r.queue.length ++ r.queue.flatMap stampItem ++
    r.faults.flatMap flagByte ++ flagByte r.blind ++ flagByte r.warning ++ byteOf (Decision.num r.decision) ++
    timerItem (s.remaining r.confirm) ++ timerItem (s.remaining r.clear)

/-- PATH QUERY answered. -/
def pathQuery (tag path : Byte) (s : State) : State :=
  answerQuery 0x43 tag path.toNat 15 (s.found .paths .pathsOutOfService s.monitor.paths path.toNat) (pathQueryData s) s

/-- PATH_QUERY (R172). -/
def execPathQuery (tag path : Byte) (s : State) : Host.Outcome State Fault Refusal :=
  taken (.pathQuery tag path) (pathQuery tag path) s

/-- GATE QUERY data. -/
def gateQueryData (s : State) (k : Nat) (g : GateRec) : Bytes :=
  indexOrNone (s.gateSegment k) ++ byteOf (GateState.num g.state) ++ byteOf (Phase.num g.phase) ++
    byteOf (orderNum g.order) ++ countItem g.count ++ flagByte g.homed ++ byteOf g.encoderErrors ++
    byteOf g.retries ++ flagByte g.obstacleRaise ++ byteOf (FaultCause.num g.cause) ++
    byteOf (Admission.num g.admission) ++ presenceData s.now g.presence ++ flagByte (loopFaultOf g.presence) ++
    be 4 g.travels

/-- GATE QUERY answered. -/
def gateQuery (tag gate : Byte) (s : State) : State :=
  answerQuery 0x44 tag gate.toNat 3 ((s.gateOf gate.toNat).map Prod.fst) (gateQueryData s gate.toNat) s

/-- GATE_QUERY (R172). -/
def execGateQuery (tag gate : Byte) (s : State) : Host.Outcome State Fault Refusal :=
  taken (.gateQuery tag gate) (gateQuery tag gate) s

/-- The forced face and the forced timer, or none. -/
def forcedItem (s : State) (f : Option (Byte × Nat)) : Bytes :=
  presenceItem 1 (f.map fun e => e.1.toNat) ++ timerItem (s.remaining (f.map Prod.snd))

/-- SIGN QUERY data. -/
def signQueryData (s : State) (r : SignRec) : Bytes :=
  byteOf (WinnerKind.num r.winner.kind) ++ [r.winner.face] ++ be 2 r.winner.parameter.toNat ++
    flagByte r.winner.flash ++ forcedItem s r.forced ++ byteOf r.granted ++ publishedItem r ++
    byteOf (SignPhase.num r.phase) ++ byteOf r.attempts ++ flagByte r.mismatch ++ flagByte r.nextPending ++
    byteOf (SignStatus.num r.status) ++ confirmedItem r.confirmed ++ byteOf (Condition.num r.condition) ++
    timerItem (s.remaining r.reply) ++ timerItem (s.remaining r.republish)

/-- SIGN QUERY answered. -/
def signQuery (tag sign : Byte) (s : State) : State :=
  answerQuery 0x45 tag sign.toNat 23 (s.found .signs .signsOutOfService s.publisher.signs sign.toNat) (signQueryData s) s

/-- SIGN_QUERY (R172). -/
def execSignQuery (tag sign : Byte) (s : State) : Host.Outcome State Fault Refusal :=
  taken (.signQuery tag sign) (signQuery tag sign) s

/-! ### SEGMENT QUERY (R173) -/

/-- Greatest number of claims in one reply. -/
def queryClaims : Nat := 16

/-- The mask of configured gates. R173 and R178 do not say which bit is which gate's: gate k is bit k (log 10). -/
def gateMask (ks : List Nat) : Nat := (ks.map fun k => 2 ^ k).sum

/-- A claim with its placed time. -/
def placedClaim (c : Nat × Claim) : Bytes := claimItem c ++ stampItem c.2.placed

/-- The claims from a first source on, and the continuation: the source number that follows the last one returned,
when further claims stand beyond it. -/
def claimPage (first : Nat) (claims : Map Claim) : Bytes :=
  let rest := claims.filter fun e => decide (first ≤ e.1)
  let page := rest.take queryClaims
  byteOf page.length ++ page.flatMap placedClaim ++
    indexOrNone (if rest.length ≤ queryClaims then none else page.getLast?.map fun e => e.1 + 1)

/-- The Grade Evaluator's items: those of a segment it has not yet built read as grade 0, floor 0 and no hold. -/
def gradeItems (s : State) (g : Nat) : Bytes :=
  match s.gradeRecord g with
  | none => [0, 0, 0] ++ timerItem none
  | some r => byteOf r.raw ++ byteOf r.effective ++ byteOf r.floor ++ timerItem (s.remaining r.hold)

/-- SEGMENT QUERY data. -/
def segmentQueryData (s : State) (g first : Nat) (r : SegmentRec) : Bytes :=
  byteOf (closureNum r.state) ++ byteOf r.claims.length ++ flagByte r.urgent ++ timerItem (s.remaining r.lead) ++
    timerItem (s.remaining r.grace) ++ be 2 r.parameter.toNat ++ flagByte r.gateFault ++ flagByte r.blocked ++
    flagByte r.unannounced ++ byteOf (gateMask (s.configuredGates g)) ++ gradeItems s g ++ claimPage first r.claims

/-- SEGMENT QUERY answered. -/
def segmentQuery (tag segment first : Byte) (s : State) : State :=
  if 50 < first.toNat then s.reply 0x42 tag badArgument []
  else
    answerQuery 0x42 tag segment.toNat 7 (s.found .segments .segmentsOutOfService s.sequencer.segments segment.toNat)
      (segmentQueryData s segment.toNat first.toNat) s

/-- SEGMENT_QUERY (R173). -/
def execSegmentQuery (tag segment first : Byte) (s : State) : Host.Outcome State Fault Refusal :=
  taken (.segmentQuery tag segment first) (segmentQuery tag segment first) s

/-! ### RESTART (R174, R175) -/

/-- RESTART taken by the Responder. -/
def requestRestart (tag : Byte) (s : State) : State :=
  if s.responder.restartPending then s.reply 0x4F tag busyResult []
  else
    (s.withResponder { s.responder with restartPending := true }).restartReply 0x4F tag done (stampItem s.now)

/-- RESTART (R174). -/
def execRestart (tag : Byte) (s : State) : Host.Outcome State Fault Refusal :=
  taken (.restart tag) (requestRestart tag) s

/-- The notices of a restart, for the blocks that act on one (R175). -/
def restartNotices : List Instr :=
  [.sampleIntakeRestart, .gradeEvaluatorRestart, .pathMonitorRestart, .signPublisherRestart]

/-- The restart takes effect: the flag cleared, the Line Switch restarted, the notices handed. Nothing orders the space
signals of R19 against the restart notices of R175: the signals are handed first, port V's before port S's, so that a
held sign is served before the Sign Publisher builds its signs again (log 40). -/
def restartEffect (s : State) : State :=
  if s.responder.restartPending then
    (lineRestart (s.withResponder { restartPending := false, releasing := false })).handAll restartNotices
  else s

/-- RESTART_TAKES_EFFECT (R19, R175). -/
def execRestartTakesEffect (s : State) : Host.Outcome State Fault Refusal :=
  taken .restartTakesEffect restartEffect s

/-! ### Power-on (R18, R40, R79, R139, R151, and the start rules of each chapter) -/

/-- The starts of the jobs, after verification. -/
def startEvents : List Instr :=
  [.sampleIntakeStart, .gradeEvaluatorStart, .pathMonitorStart, .gateDriveStart, .closureSequencerStart,
    .budgetAllocatorStart, .signPublisherStart]

/-- The gate pins of a channel at power-on. -/
def pinsOf (p : Pins) (k : Nat) : GatePins :=
  match k with
  | 0 => p.gate0
  | 1 => p.gate1
  | 2 => p.gate2
  | _ => p.gate3

/-- The local inputs with their levels read. -/
def readInputs (p : Pins) : Map InputRec :=
  (List.range 12).map fun i => (i, .unassigned (p.inputs.getLsbD i))

/-- Every block in its power-on state, the regions and the site record verified, and the starts handed out. What was
held in non-volatile memory is kept, as is the queue of commands. R151 gives no figures, requested level or below-floor
flag before the Allocator's first computation, which comes at BUDGET_ALLOCATOR_START: until then floor, ceiling,
effective budget and remainder are 0, cap and requested level 7 and the flag clear, whatever the base draw (log 53). -/
def powerOn (p : Pins) (s : State) : State :=
  { power := true
    time := 0
    line := .powerOn
    store := verifiedStore s.store
    intake := { started := false, inService := false, rows := [], channels := [] }
    grader :=
      { started := false, rulesIn := false, segmentsIn := false, ruleRows := [], segmentRows := [], flags := []
        segments := [] }
    monitor := { started := false, inService := false, rows := [], inputs := readInputs p, paths := [] }
    sequencer :=
      { started := false, inService := false, scheduleIn := false, gatesBuilt := false, segmentRows := []
        scheduleRows := [], gateRows := [], withheld := [], segments := [], clock := none }
    drives :=
      { started := false
        rows := []
        gates := (List.range 4).map fun k => (k, .unconfigured)
        pins := (List.range 4).map fun k => (k, pinsOf p k) }
    allocator :=
      { started := false, signsIn := false, gatesIn := false, signRows := [], gateRows := []
        budget := (verifiedStore s.store).site.defaultBudget.toNat, requested := 7, figures := .factory
        granted := [], belowFloor := false, admitted := [], queue := [], lit := [], urgent := [] }
    publisher :=
      { started := false, signsIn := false, rows := [], segmentView := [], pathView := [], signs := []
        holdV := [], holdS := [], sweep := none }
    responder := { restartPending := false, releasing := false }
    handed := startEvents
    waiting := []
    reports := []
    drawn := s.drawn
    pending := s.pending }

/-- POWER_ON (R18). Supply applied to a part that still has it is a loss with nothing under way, and then the
application (log 36). -/
def execPowerOn (p : Pins) (s : State) : Host.Outcome State Fault Refusal := .next (powerOn p s)

end Sys2Proof.Machine
end

