-- ==== Sys2Proof/Machine/Idle.lean ====
section
/-!
DEFINITION. The events that time brings (log 2): every running timer with the time of its expiry, in steps of 50 ms,
the earliest of those that are due, and what the part does of itself: the next clear of a CLEAR ALL under way, or the
passing of one step of 50 ms.
-/

namespace Sys2Proof.Machine

/-- An event with the time at which it is due, in steps of 50 ms. -/
abbrev Due := Nat × Instr

/-- The event of a timer that counts tenths, when it runs. -/
def dueTenths (timer : Option Nat) (c : Instr) : List Due :=
  match timer with
  | none => []
  | some e => [(2 * e, c)]

/-- The Line Switch's timer. -/
def lineDue (s : State) : List Due := dueTenths s.line.silence .silenceTimerExpiry

/-- Sample Intake's age timers. -/
def intakeDue (s : State) : List Due :=
  s.intake.channels.flatMap fun e => dueTenths e.2.age (.ageTimerExpiry e.1)

/-- The descent holds. -/
def graderDue (s : State) : List Due :=
  (List.range 8).flatMap fun g => dueTenths ((s.gradeRecord g).bind GradeRec.hold) (.descentHoldExpiry g)

/-- The dead timers of the local inputs, which count steps of 50 ms. -/
def inputDue (s : State) : List Due :=
  s.monitor.inputs.flatMap fun e =>
    match e.2.dead with
    | none => []
    | some t => [(t, .deadTimerExpiry e.1)]

/-- The age-out and the two waits of each path, taken in this order where two of one path are due at once: no rule
orders them (log 2). -/
def pathDue (s : State) : List Due :=
  s.monitor.paths.flatMap fun e =>
    match s.pathRow e.1 with
    | none => []
    | some row =>
      dueTenths (e.2.queue.head?.map fun t => t + seconds row.window) (.ageOut e.1) ++
        dueTenths e.2.clear (.clearWaitExpiry e.1) ++ dueTenths e.2.confirm (.confirmWaitExpiry e.1)

/-- The lead and grace timers, and the clock's next second, taken in this order where two are due at once: no rule
orders them (log 2). -/
def sequencerDue (s : State) : List Due :=
  (List.range 8).flatMap (fun g =>
    match s.segment g with
    | none => []
    | some r => dueTenths r.lead (.leadTimerExpiry g) ++ dueTenths r.grace (.graceTimerExpiry g)) ++
  dueTenths (s.sequencer.clock.map Clock.next) .clockSecond

/-- Clearance of a HELD gate that would ask for admission at it. -/
def askDue (s : State) (k : Nat) (g : GateRec) (row : GateRow) : Option Nat :=
  if g.order = .lower ∧ g.admission = .noAdmission ∧ (s.gatePins k).safety = false then clearanceDue row g else none

/-- The timers and the presence monitor of each gate. Of those of one gate that are due at one moment the first listed
here is taken first, and no rule of the manual orders them (log 2): so a stall comes before a travel limit, with cause
STALL, and clearance before a vehicle wait, with no report of the wait. -/
def gateDue (s : State) : List Due :=
  (List.range 4).flatMap fun k =>
    match s.gateOf k with
    | none => []
    | some (g, row) =>
      dueTenths (startTimer g) (.startDelayExpiry k) ++ dueTenths (settleTimer g) (.settleExpiry k) ++
        dueTenths (dwellTimer g) (.reversalDwellExpiry k) ++ dueTenths g.stallTimer (.stallTimerExpiry k) ++
        dueTenths g.travelTimer (.travelTimerExpiry k) ++ dueTenths (faultDue row g) (.loopFaultSet k) ++
        dueTenths (askDue s k g row) (.presenceClearance k) ++ dueTenths g.vehicleTimer (.vehicleWaitExpiry k)

/-- The forced, reply and republish timers, taken in this order where two of one sign are due at once: no rule orders
them (log 2). -/
def signDue (s : State) : List Due :=
  (List.range 24).flatMap fun g =>
    match s.sign g with
    | none => []
    | some r =>
      dueTenths (r.forced.map Prod.snd) (.forcedTimerExpiry g) ++ dueTenths r.reply (.replyTimerExpiry g) ++
        dueTenths r.republish (.republishTimerExpiry g)

/-- Every event that time will bring. -/
def dueEvents (s : State) : List Due :=
  lineDue s ++ intakeDue s ++ graderDue s ++ inputDue s ++ pathDue s ++ sequencerDue s ++ gateDue s ++ signDue s

/-- The earliest of a list of events; of several at one time the first listed. -/
def earliestDue : List Due → Option Due
  | [] => none
  | d :: rest =>
    match earliestDue rest with
    | none => some d
    | some e => if d.1 ≤ e.1 then some d else some e

/-- The next event of a part that waits for no command: the oldest that is handed on and not yet taken, or else the
earliest that time has brought. While a CLEAR ALL is under way none is taken of those that time brings. -/
def nextEvent (s : State) : Option Instr :=
  match s.handed with
  | c :: _ => some c
  | [] =>
    if s.store.clearing.isSome then none
    else
      match earliestDue (dueEvents s) with
      | none => none
      | some d => if d.1 ≤ s.time then some d.2 else none

/-- One step of 50 ms passes. -/
def tick (s : State) : State := s.withTime (s.time + 1)

/-- What happens of itself at a part that waits for no command and has no event to take: the next clear of a CLEAR ALL
under way, or else the passing of 50 ms (logs 2 and 29). Without supply nothing does (log 5). -/
def onItsOwn (s : State) : State :=
  if s.power = false then s else if s.store.clearing.isSome then clearGoesOn s else tick s

end Sys2Proof.Machine
end

