-- ==== Sys2Proof/Machine/Dispatch.lean ====
section
/-!
DEFINITION. One arm for each command: its meaning.
-/

namespace Sys2Proof.Machine

def exec (i : Instr) (s : State) : Host.Outcome State Fault Refusal :=
  match i with
  | .powerOn x1 => Sys2Proof.Machine.execPowerOn x1 s
  | .sampleIntakeStart => Sys2Proof.Machine.execSampleIntakeStart s
  | .gradeEvaluatorStart => Sys2Proof.Machine.execGradeEvaluatorStart s
  | .pathMonitorStart => Sys2Proof.Machine.execPathMonitorStart s
  | .gateDriveStart => Sys2Proof.Machine.execGateDriveStart s
  | .closureSequencerStart => Sys2Proof.Machine.execClosureSequencerStart s
  | .budgetAllocatorStart => Sys2Proof.Machine.execBudgetAllocatorStart s
  | .signPublisherStart => Sys2Proof.Machine.execSignPublisherStart s
  | .carrierDetected x1 => Sys2Proof.Machine.execCarrierDetected x1 s
  | .carrierLost x1 => Sys2Proof.Machine.execCarrierLost x1 s
  | .frameReceived x1 x2 => Sys2Proof.Machine.execFrameReceived x1 x2 s
  | .silenceTimerExpiry => Sys2Proof.Machine.execSilenceTimerExpiry s
  | .frameOffered x1 x2 x3 x4 => Sys2Proof.Machine.execFrameOffered x1 x2 x3 x4 s
  | .transmissionComplete x1 => Sys2Proof.Machine.execTransmissionComplete x1 s
  | .spaceSignal x1 => Sys2Proof.Machine.execSpaceSignal x1 s
  | .restartTakesEffect => Sys2Proof.Machine.execRestartTakesEffect s
  | .sampleIntakeRestart => Sys2Proof.Machine.execSampleIntakeRestart s
  | .gradeEvaluatorRestart => Sys2Proof.Machine.execGradeEvaluatorRestart s
  | .pathMonitorRestart => Sys2Proof.Machine.execPathMonitorRestart s
  | .signPublisherRestart => Sys2Proof.Machine.execSignPublisherRestart s
  | .lineConnectedNotice => Sys2Proof.Machine.execLineConnectedNotice s
  | .lineIsolatedNotice => Sys2Proof.Machine.execLineIsolatedNotice s
  | .manageFrame x1 => Sys2Proof.Machine.execManageFrame x1 s
  | .unknownRequest x1 x2 => Sys2Proof.Machine.execUnknownRequest x1 x2 s
  | .openRegion x1 x2 x3 => Sys2Proof.Machine.execOpenRegion x1 x2 x3 s
  | .writeRows x1 x2 x3 x4 x5 => Sys2Proof.Machine.execWriteRows x1 x2 x3 x4 x5 s
  | .readRows x1 x2 x3 x4 => Sys2Proof.Machine.execReadRows x1 x2 x3 x4 s
  | .blankCheck x1 x2 => Sys2Proof.Machine.execBlankCheck x1 x2 s
  | .activateRegion x1 x2 x3 => Sys2Proof.Machine.execActivateRegion x1 x2 x3 s
  | .clearRegion x1 x2 => Sys2Proof.Machine.execClearRegion x1 x2 s
  | .clearAll x1 => Sys2Proof.Machine.execClearAll x1 s
  | .siteWrite x1 x2 x3 => Sys2Proof.Machine.execSiteWrite x1 x2 x3 s
  | .siteRead x1 => Sys2Proof.Machine.execSiteRead x1 s
  | .channelsIntoService => Sys2Proof.Machine.execChannelsIntoService s
  | .channelsOutOfService => Sys2Proof.Machine.execChannelsOutOfService s
  | .sampleFrame x1 => Sys2Proof.Machine.execSampleFrame x1 s
  | .ageTimerExpiry x1 => Sys2Proof.Machine.execAgeTimerExpiry x1 s
  | .channelUpdate x1 => Sys2Proof.Machine.execChannelUpdate x1 s
  | .gradeRulesIntoService => Sys2Proof.Machine.execGradeRulesIntoService s
  | .gradeRulesOutOfService => Sys2Proof.Machine.execGradeRulesOutOfService s
  | .graderSegmentsIntoService => Sys2Proof.Machine.execGraderSegmentsIntoService s
  | .graderSegmentsOutOfService => Sys2Proof.Machine.execGraderSegmentsOutOfService s
  | .graderChannelsNotice x1 => Sys2Proof.Machine.execGraderChannelsNotice x1 s
  | .descentHoldExpiry x1 => Sys2Proof.Machine.execDescentHoldExpiry x1 s
  | .holdGrade x1 x2 x3 => Sys2Proof.Machine.execHoldGrade x1 x2 x3 s
  | .gradeEvent x1 x2 x3 => Sys2Proof.Machine.execGradeEvent x1 x2 x3 s
  | .gradeNotice x1 x2 => Sys2Proof.Machine.execGradeNotice x1 x2 s
  | .countingInputEdge x1 x2 => Sys2Proof.Machine.execCountingInputEdge x1 x2 s
  | .tripwireInputEdge x1 x2 => Sys2Proof.Machine.execTripwireInputEdge x1 x2 s
  | .unassignedInputEdge x1 x2 => Sys2Proof.Machine.execUnassignedInputEdge x1 x2 s
  | .deadTimerExpiry x1 => Sys2Proof.Machine.execDeadTimerExpiry x1 s
  | .detectFrame x1 => Sys2Proof.Machine.execDetectFrame x1 s
  | .ageOut x1 => Sys2Proof.Machine.execAgeOut x1 s
  | .clearWaitExpiry x1 => Sys2Proof.Machine.execClearWaitExpiry x1 s
  | .confirmWaitExpiry x1 => Sys2Proof.Machine.execConfirmWaitExpiry x1 s
  | .confirmPath x1 x2 => Sys2Proof.Machine.execConfirmPath x1 x2 s
  | .declinePath x1 x2 => Sys2Proof.Machine.execDeclinePath x1 x2 s
  | .clearPath x1 x2 => Sys2Proof.Machine.execClearPath x1 x2 s
  | .pathsIntoService => Sys2Proof.Machine.execPathsIntoService s
  | .pathsOutOfService => Sys2Proof.Machine.execPathsOutOfService s
  | .warningNotice x1 x2 x3 => Sys2Proof.Machine.execWarningNotice x1 x2 x3 s
  | .claimPlacement x1 x2 x3 => Sys2Proof.Machine.execClaimPlacement x1 x2 x3 s
  | .claimRemoval x1 x2 => Sys2Proof.Machine.execClaimRemoval x1 x2 s
  | .closeSegment x1 x2 x3 => Sys2Proof.Machine.execCloseSegment x1 x2 x3 s
  | .releaseSegment x1 x2 => Sys2Proof.Machine.execReleaseSegment x1 x2 s
  | .leadTimerExpiry x1 => Sys2Proof.Machine.execLeadTimerExpiry x1 s
  | .graceTimerExpiry x1 => Sys2Proof.Machine.execGraceTimerExpiry x1 s
  | .confirmationNotice x1 x2 => Sys2Proof.Machine.execConfirmationNotice x1 x2 s
  | .gateStateNotice x1 => Sys2Proof.Machine.execGateStateNotice x1 s
  | .clockSecond => Sys2Proof.Machine.execClockSecond s
  | .setTime x1 x2 x3 x4 => Sys2Proof.Machine.execSetTime x1 x2 x3 x4 s
  | .segmentsIntoService => Sys2Proof.Machine.execSegmentsIntoService s
  | .segmentsOutOfService => Sys2Proof.Machine.execSegmentsOutOfService s
  | .gatesBuiltNotice => Sys2Proof.Machine.execGatesBuiltNotice s
  | .sequencerGatesOutOfService => Sys2Proof.Machine.execSequencerGatesOutOfService s
  | .scheduleIntoService => Sys2Proof.Machine.execScheduleIntoService s
  | .segmentNotice x1 x2 x3 => Sys2Proof.Machine.execSegmentNotice x1 x2 x3 s
  | .urgencyNotice x1 x2 => Sys2Proof.Machine.execUrgencyNotice x1 x2 s
  | .orderEvent x1 x2 => Sys2Proof.Machine.execOrderEvent x1 x2 s
  | .gatesIntoService => Sys2Proof.Machine.execGatesIntoService s
  | .gatesOutOfService => Sys2Proof.Machine.execGatesOutOfService s
  | .encoderEdge x1 x2 x3 x4 x5 => Sys2Proof.Machine.execEncoderEdge x1 x2 x3 x4 x5 s
  | .startDelayExpiry x1 => Sys2Proof.Machine.execStartDelayExpiry x1 s
  | .settleExpiry x1 => Sys2Proof.Machine.execSettleExpiry x1 s
  | .reversalDwellExpiry x1 => Sys2Proof.Machine.execReversalDwellExpiry x1 s
  | .stallTimerExpiry x1 => Sys2Proof.Machine.execStallTimerExpiry x1 s
  | .travelTimerExpiry x1 => Sys2Proof.Machine.execTravelTimerExpiry x1 s
  | .safetyEdgeChange x1 x2 => Sys2Proof.Machine.execSafetyEdgeChange x1 x2 s
  | .loopEdge x1 x2 => Sys2Proof.Machine.execLoopEdge x1 x2 s
  | .loopFaultSet x1 => Sys2Proof.Machine.execLoopFaultSet x1 s
  | .presenceClearance x1 => Sys2Proof.Machine.execPresenceClearance x1 s
  | .vehicleWaitExpiry x1 => Sys2Proof.Machine.execVehicleWaitExpiry x1 s
  | .grant x1 x2 => Sys2Proof.Machine.execGrant x1 x2 s
  | .gateStop x1 x2 => Sys2Proof.Machine.execGateStop x1 x2 s
  | .gateResume x1 x2 => Sys2Proof.Machine.execGateResume x1 x2 s
  | .admissionRequest x1 x2 x3 => Sys2Proof.Machine.execAdmissionRequest x1 x2 x3 s
  | .handBack x1 => Sys2Proof.Machine.execHandBack x1 s
  | .requestWithdrawn x1 => Sys2Proof.Machine.execRequestWithdrawn x1 s
  | .setBudget x1 x2 => Sys2Proof.Machine.execSetBudget x1 x2 s
  | .lightChannelChange x1 x2 x3 => Sys2Proof.Machine.execLightChannelChange x1 x2 x3 s
  | .litNotice x1 x2 => Sys2Proof.Machine.execLitNotice x1 x2 s
  | .budgetRegionNotice x1 x2 => Sys2Proof.Machine.execBudgetRegionNotice x1 x2 s
  | .grantNotice x1 x2 => Sys2Proof.Machine.execGrantNotice x1 x2 s
  | .forceFace x1 x2 x3 x4 => Sys2Proof.Machine.execForceFace x1 x2 x3 x4 s
  | .forcedTimerExpiry x1 => Sys2Proof.Machine.execForcedTimerExpiry x1 s
  | .faceReport x1 => Sys2Proof.Machine.execFaceReport x1 s
  | .replyTimerExpiry x1 => Sys2Proof.Machine.execReplyTimerExpiry x1 s
  | .republishTimerExpiry x1 => Sys2Proof.Machine.execRepublishTimerExpiry x1 s
  | .signSweep x1 x2 => Sys2Proof.Machine.execSignSweep x1 x2 s
  | .signsIntoService => Sys2Proof.Machine.execSignsIntoService s
  | .signsOutOfService => Sys2Proof.Machine.execSignsOutOfService s
  | .signerSegmentsNotice x1 => Sys2Proof.Machine.execSignerSegmentsNotice x1 s
  | .sectionStatus x1 => Sys2Proof.Machine.execSectionStatus x1 s
  | .channelQuery x1 x2 => Sys2Proof.Machine.execChannelQuery x1 x2 s
  | .segmentQuery x1 x2 x3 => Sys2Proof.Machine.execSegmentQuery x1 x2 x3 s
  | .pathQuery x1 x2 => Sys2Proof.Machine.execPathQuery x1 x2 s
  | .gateQuery x1 x2 => Sys2Proof.Machine.execGateQuery x1 x2 s
  | .signQuery x1 x2 => Sys2Proof.Machine.execSignQuery x1 x2 s
  | .restart x1 => Sys2Proof.Machine.execRestart x1 s
  | .supplyLost x1 => Sys2Proof.Machine.execSupplyLost x1 s
  | .segmentReferenceAbsent => Sys2Proof.Machine.execSegmentReferenceAbsent s

end Sys2Proof.Machine
end

