-- ==== Sys2Proof/Machine/Step.lean ====
section
/-!
DEFINITION. One step of the block: the command at the front of its queue; on an empty queue the oldest event that is
handed on, or the next clear of a CLEAR ALL under way, or the earliest event that time has brought, or else 50 ms of
running time (log 2).
-/

namespace Sys2Proof.Machine

/-- A step of a block with no command waiting. -/
def idle (s : State) : Host.Outcome State Fault Refusal :=
  match nextEvent s with
  | some c => exec c s
  | none => .next (onItsOwn s)

/-- One step. -/
def step (s : State) : Host.Outcome State Fault Refusal :=
  match s.pending with
  | c :: rest => exec c (s.withPending rest)
  | [] => idle s

/-- The state with the command that a word spells put at the front of the queue. -/
def State.withFetchWord (s : State) (nbits w : Nat) : State :=
  match decodeTableWord nbits w with
  | some c => s.withPending (c :: s.pending)
  | none => s

end Sys2Proof.Machine
end

