-- ==== Sys2Proof/WellFormed.lean ====
section
/-!
DEFINITION. Which commands are well formed: every index within the capacities of 00_scope.md, every frame's payload
within what a frame allows, and the lengths a request's layout gives.
-/

namespace Sys2Proof

/-- A payload that a frame can carry (R4). -/
def payloadOk (p : Bytes) : Bool := decide (p.length ≤ 120)

/-- A channel index. -/
def channelOk (c : Nat) : Bool := decide (c < 64)

/-- A segment index. -/
def segmentOk (g : Nat) : Bool := decide (g < 8)

/-- A path index. -/
def pathOk (p : Nat) : Bool := decide (p < 16)

/-- A sign index. -/
def signOk (g : Nat) : Bool := decide (g < 24)

/-- A gate index. -/
def gateOk (k : Nat) : Bool := decide (k < 4)

/-- A local input's number. -/
def inputOk (i : Nat) : Bool := decide (i < 12)

/-- A grade. -/
def gradeOk (g : Nat) : Bool := decide (g ≤ 5)

/-- A brightness level. -/
def levelOk (l : Nat) : Bool := decide (1 ≤ l) && decide (l ≤ 7)

/-- An engineering value. -/
def valueOk (v : Int) : Bool := decide (-32000 ≤ v) && decide (v ≤ 32000)

/-- A frame as the Line Switch hands it over. -/
def arrivalOk (a : Arrival) : Bool := payloadOk a.payload

/-- The rows of a WRITE ROWS: as many as its count says, each of 32 bytes. -/
def rowsOk (count : Byte) (rows : List Bytes) : Bool :=
  rows.length == count.toNat && rows.all fun r => r.length == 32

/-- What is cut short at a loss of supply. -/
def cutOk : Cut → Bool
  | .quiet => true
  | .openRegion _ count _ => decide (1 ≤ count)
  | .writeRows _ _ rows done _ => decide (done ≤ rows.length) && rows.all fun r => r.length == 32
  | .activate _ _ _ => true
  | .clear _ _ _ => true
  | .siteWrite _ _ _ => true

/-- The codes of the 28 requests (chapter 11). -/
def requestCodes : List Nat :=
  [0x01, 0x02, 0x03, 0x04, 0x05, 0x06, 0x07, 0x08, 0x09, 0x10, 0x18, 0x19, 0x1A, 0x20, 0x21, 0x22, 0x28, 0x29, 0x30,
    0x38, 0x39, 0x40, 0x41, 0x42, 0x43, 0x44, 0x45, 0x4F]

/-- Whether a command is well formed. -/
def Instr.wellFormed : Instr → Bool
  | .powerOn _ => true
  | .sampleIntakeStart => true
  | .gradeEvaluatorStart => true
  | .pathMonitorStart => true
  | .gateDriveStart => true
  | .closureSequencerStart => true
  | .budgetAllocatorStart => true
  | .signPublisherStart => true
  | .carrierDetected _ => true
  | .carrierLost _ => true
  | .frameReceived _ _ => true
  | .silenceTimerExpiry => true
  | .frameOffered _ _ _ payload => payloadOk payload
  | .transmissionComplete _ => true
  | .spaceSignal _ => true
  | .restartTakesEffect => true
  | .sampleIntakeRestart => true
  | .gradeEvaluatorRestart => true
  | .pathMonitorRestart => true
  | .signPublisherRestart => true
  | .lineConnectedNotice => true
  | .lineIsolatedNotice => true
  | .manageFrame a => arrivalOk a
  | .unknownRequest code _ => !requestCodes.contains code.toNat
  | .openRegion _ _ _ => true
  | .writeRows _ _ _ count rows => rowsOk count rows
  | .readRows _ _ _ _ => true
  | .blankCheck _ _ => true
  | .activateRegion _ _ _ => true
  | .clearRegion _ _ => true
  | .clearAll _ => true
  | .siteWrite _ _ _ => true
  | .siteRead _ => true
  | .channelsIntoService => true
  | .channelsOutOfService => true
  | .sampleFrame a => arrivalOk a
  | .ageTimerExpiry c => channelOk c
  | .channelUpdate u => channelOk u.channel && valueOk u.value && valueOk u.filtered
  | .gradeRulesIntoService => true
  | .gradeRulesOutOfService => true
  | .graderSegmentsIntoService => true
  | .graderSegmentsOutOfService => true
  | .graderChannelsNotice _ => true
  | .descentHoldExpiry g => segmentOk g
  | .holdGrade _ _ _ => true
  | .gradeEvent g grade _ => segmentOk g && gradeOk grade
  | .gradeNotice g grade => segmentOk g && gradeOk grade
  | .countingInputEdge i _ => inputOk i
  | .tripwireInputEdge i _ => inputOk i
  | .unassignedInputEdge i _ => inputOk i
  | .deadTimerExpiry i => inputOk i
  | .detectFrame a => arrivalOk a
  | .ageOut p => pathOk p
  | .clearWaitExpiry p => pathOk p
  | .confirmWaitExpiry p => pathOk p
  | .confirmPath _ _ => true
  | .declinePath _ _ => true
  | .clearPath _ _ => true
  | .pathsIntoService => true
  | .pathsOutOfService => true
  | .warningNotice p _ _ => pathOk p
  | .claimPlacement _ _ _ => true
  | .claimRemoval _ _ => true
  | .closeSegment _ _ _ => true
  | .releaseSegment _ _ => true
  | .leadTimerExpiry g => segmentOk g
  | .graceTimerExpiry g => segmentOk g
  | .confirmationNotice g _ => signOk g
  | .gateStateNotice k => gateOk k
  | .clockSecond => true
  | .setTime _ _ _ _ => true
  | .segmentsIntoService => true
  | .segmentsOutOfService => true
  | .gatesBuiltNotice => true
  | .sequencerGatesOutOfService => true
  | .scheduleIntoService => true
  | .segmentNotice g _ _ => segmentOk g
  | .urgencyNotice g _ => segmentOk g
  | .orderEvent k _ => gateOk k
  | .gatesIntoService => true
  | .gatesOutOfService => true
  | .encoderEdge k _ _ _ _ => gateOk k
  | .startDelayExpiry k => gateOk k
  | .settleExpiry k => gateOk k
  | .reversalDwellExpiry k => gateOk k
  | .stallTimerExpiry k => gateOk k
  | .travelTimerExpiry k => gateOk k
  | .safetyEdgeChange k _ => gateOk k
  | .loopEdge k _ => gateOk k
  | .loopFaultSet k => gateOk k
  | .presenceClearance k => gateOk k
  | .vehicleWaitExpiry k => gateOk k
  | .grant k _ => gateOk k
  | .gateStop _ _ => true
  | .gateResume _ _ => true
  | .admissionRequest k _ draw => gateOk k && decide (draw ≤ 4000)
  | .handBack k => gateOk k
  | .requestWithdrawn k => gateOk k
  | .setBudget _ _ => true
  | .lightChannelChange c _ v => channelOk c && valueOk v
  | .litNotice g _ => signOk g
  | .budgetRegionNotice _ _ => true
  | .grantNotice g l => signOk g && levelOk l
  | .forceFace _ _ _ _ => true
  | .forcedTimerExpiry g => signOk g
  | .faceReport a => arrivalOk a
  | .replyTimerExpiry g => signOk g
  | .republishTimerExpiry g => signOk g
  | .signSweep _ signs => decide (signs.length ≤ 255)
  | .signsIntoService => true
  | .signsOutOfService => true
  | .signerSegmentsNotice _ => true
  | .sectionStatus _ => true
  | .channelQuery _ _ => true
  | .segmentQuery _ _ _ => true
  | .pathQuery _ _ => true
  | .gateQuery _ _ => true
  | .signQuery _ _ => true
  | .restart _ => true
  | .supplyLost cut => cutOk cut
  | .segmentReferenceAbsent => true

end Sys2Proof
end

