-- ==== Sys2Proof/Safety.lean ====
section
/-!
DEFINITION. The terms the claims are stated in: what a step leaves unchanged, what a reply leaves in port V's queue,
and the invariants of the blocks.
-/

namespace Sys2Proof.Machine

/-! ### Frames -/

/-- The blocks of the part that a command can change, beside the Line Switch, the events that wait and the reports. -/
inductive Touched
  | lineOnly | store | storeAndSequencer | storeAndAllocator | storeAndJobs | intake | grader | monitor | sequencer | drives
  | allocator | publisher | whole
  deriving DecidableEq, Repr

/-- What a command can change. -/
def touched : Instr → Touched
  | .powerOn _ => .whole
  | .sampleIntakeStart => .intake
  | .gradeEvaluatorStart => .grader
  | .pathMonitorStart => .monitor
  | .gateDriveStart => .drives
  | .closureSequencerStart => .sequencer
  | .budgetAllocatorStart => .allocator
  | .signPublisherStart => .publisher
  | .carrierDetected _ => .lineOnly
  | .carrierLost _ => .lineOnly
  | .frameReceived _ _ => .lineOnly
  | .silenceTimerExpiry => .lineOnly
  | .frameOffered _ _ _ _ => .lineOnly
  | .transmissionComplete _ => .lineOnly
  | .spaceSignal _ => .publisher
  | .restartTakesEffect => .lineOnly
  | .sampleIntakeRestart => .intake
  | .gradeEvaluatorRestart => .grader
  | .pathMonitorRestart => .monitor
  | .signPublisherRestart => .publisher
  | .lineConnectedNotice => .store
  | .lineIsolatedNotice => .monitor
  | .manageFrame _ => .lineOnly
  | .unknownRequest _ _ => .lineOnly
  | .openRegion _ _ _ => .store
  | .writeRows _ _ _ _ _ => .store
  | .readRows _ _ _ _ => .lineOnly
  | .blankCheck _ _ => .lineOnly
  | .activateRegion _ _ _ => .store
  | .clearRegion _ _ => .storeAndSequencer
  | .clearAll _ => .store
  | .siteWrite _ _ _ => .storeAndAllocator
  | .siteRead _ => .lineOnly
  | .channelsIntoService => .intake
  | .channelsOutOfService => .intake
  | .sampleFrame _ => .intake
  | .ageTimerExpiry _ => .intake
  | .channelUpdate _ => .grader
  | .gradeRulesIntoService => .grader
  | .gradeRulesOutOfService => .grader
  | .graderSegmentsIntoService => .grader
  | .graderSegmentsOutOfService => .grader
  | .graderChannelsNotice _ => .grader
  | .descentHoldExpiry _ => .grader
  | .holdGrade _ _ _ => .grader
  | .gradeEvent _ _ _ => .sequencer
  | .gradeNotice _ _ => .publisher
  | .countingInputEdge _ _ => .monitor
  | .tripwireInputEdge _ _ => .monitor
  | .unassignedInputEdge _ _ => .monitor
  | .deadTimerExpiry _ => .monitor
  | .detectFrame _ => .monitor
  | .ageOut _ => .monitor
  | .clearWaitExpiry _ => .monitor
  | .confirmWaitExpiry _ => .monitor
  | .confirmPath _ _ => .monitor
  | .declinePath _ _ => .monitor
  | .clearPath _ _ => .monitor
  | .pathsIntoService => .monitor
  | .pathsOutOfService => .monitor
  | .warningNotice _ _ _ => .publisher
  | .claimPlacement _ _ _ => .sequencer
  | .claimRemoval _ _ => .sequencer
  | .closeSegment _ _ _ => .sequencer
  | .releaseSegment _ _ => .sequencer
  | .leadTimerExpiry _ => .sequencer
  | .graceTimerExpiry _ => .sequencer
  | .confirmationNotice _ _ => .sequencer
  | .gateStateNotice _ => .sequencer
  | .clockSecond => .sequencer
  | .setTime _ _ _ _ => .sequencer
  | .segmentsIntoService => .sequencer
  | .segmentsOutOfService => .sequencer
  | .gatesBuiltNotice => .sequencer
  | .sequencerGatesOutOfService => .sequencer
  | .scheduleIntoService => .sequencer
  | .segmentNotice _ _ _ => .publisher
  | .urgencyNotice _ _ => .allocator
  | .orderEvent _ _ => .drives
  | .gatesIntoService => .drives
  | .gatesOutOfService => .drives
  | .encoderEdge _ _ _ _ _ => .drives
  | .startDelayExpiry _ => .drives
  | .settleExpiry _ => .drives
  | .reversalDwellExpiry _ => .drives
  | .stallTimerExpiry _ => .drives
  | .travelTimerExpiry _ => .drives
  | .safetyEdgeChange _ _ => .drives
  | .loopEdge _ _ => .drives
  | .loopFaultSet _ => .drives
  | .presenceClearance _ => .drives
  | .vehicleWaitExpiry _ => .drives
  | .grant _ _ => .drives
  | .gateStop _ _ => .drives
  | .gateResume _ _ => .drives
  | .admissionRequest _ _ _ => .allocator
  | .handBack _ => .allocator
  | .requestWithdrawn _ => .allocator
  | .setBudget _ _ => .allocator
  | .lightChannelChange _ _ _ => .allocator
  | .litNotice _ _ => .allocator
  | .budgetRegionNotice _ _ => .allocator
  | .grantNotice _ _ => .publisher
  | .forceFace _ _ _ _ => .publisher
  | .forcedTimerExpiry _ => .publisher
  | .faceReport _ => .publisher
  | .replyTimerExpiry _ => .publisher
  | .republishTimerExpiry _ => .publisher
  | .signSweep _ _ => .publisher
  | .signsIntoService => .publisher
  | .signsOutOfService => .publisher
  | .signerSegmentsNotice _ => .publisher
  | .sectionStatus _ => .lineOnly
  | .channelQuery _ _ => .lineOnly
  | .segmentQuery _ _ _ => .lineOnly
  | .pathQuery _ _ => .lineOnly
  | .gateQuery _ _ => .lineOnly
  | .signQuery _ _ => .lineOnly
  | .restart _ => .lineOnly
  | .supplyLost _ => .whole
  | .segmentReferenceAbsent => .drives

/-- The state `s` with what every command may change taken from `t`: the Line Switch, the Responder, the events and the
requests that wait, the reports asked for and the running time. -/
def State.withTraffic (s t : State) : State :=
  { s with
    line := t.line, responder := t.responder, handed := t.handed, waiting := t.waiting, reports := t.reports
    time := t.time }

/-- `t` is `s` but for the named block and what `withTraffic` takes. -/
def leavesOthers (b : Touched) (s t : State) : Prop :=
  match b with
  | .lineOnly => t = s.withTraffic t
  | .store => t = (s.withTraffic t).withStore t.store
  | .storeAndSequencer => t = ((s.withTraffic t).withStore t.store).withSequencer t.sequencer
  | .storeAndAllocator => t = ((s.withTraffic t).withStore t.store).withAllocator t.allocator
  | .storeAndJobs =>
    t = (((s.withTraffic t).withStore t.store).withSequencer t.sequencer).withAllocator t.allocator
  | .intake => t = (s.withTraffic t).withIntake t.intake
  | .grader => t = (s.withTraffic t).withGrader t.grader
  | .monitor => t = (s.withTraffic t).withMonitor t.monitor
  | .sequencer => t = (s.withTraffic t).withSequencer t.sequencer
  | .drives => t = ((s.withTraffic t).withDrives t.drives).withDrawn t.drawn
  | .allocator => t = (s.withTraffic t).withAllocator t.allocator
  | .publisher => t = ((s.withTraffic t).withPublisher t.publisher).withAllocator t.allocator
  | .whole => True

/-- What offers leave of a port: its link and the three counters that no offer counts in. -/
def PortState.linked (q q' : PortState) : Prop :=
  q'.up = q.up ∧ q'.badFrames = q.badFrames ∧ q'.overflow = q.overflow ∧ q'.forwarded = q.forwarded

/-- What the commands that only offer frames leave of the Line Switch and the Responder. -/
def offersOnly (s t : State) : Prop :=
  t.line.lineState = s.line.lineState ∧ t.line.silence = s.line.silence ∧ t.responder = s.responder ∧
    s.line.portV.linked t.line.portV ∧ s.line.portS.linked t.line.portS

/-- The queries, and the table requests that only read. -/
def readsOnly : Instr → Bool
  | .readRows _ _ _ _ => true
  | .blankCheck _ _ => true
  | .siteRead _ => true
  | .unknownRequest _ _ => true
  | .sectionStatus _ => true
  | .channelQuery _ _ => true
  | .segmentQuery _ _ _ => true
  | .pathQuery _ _ => true
  | .gateQuery _ _ => true
  | .signQuery _ _ => true
  | _ => false

/-- The commands that running time brings: the expiries, and what else happens at a stated time. -/
def movesTime : Instr → Bool
  | .silenceTimerExpiry => true
  | .ageTimerExpiry _ => true
  | .descentHoldExpiry _ => true
  | .deadTimerExpiry _ => true
  | .ageOut _ => true
  | .clearWaitExpiry _ => true
  | .confirmWaitExpiry _ => true
  | .leadTimerExpiry _ => true
  | .graceTimerExpiry _ => true
  | .clockSecond => true
  | .startDelayExpiry _ => true
  | .settleExpiry _ => true
  | .reversalDwellExpiry _ => true
  | .stallTimerExpiry _ => true
  | .travelTimerExpiry _ => true
  | .loopFaultSet _ => true
  | .presenceClearance _ => true
  | .vehicleWaitExpiry _ => true
  | .forcedTimerExpiry _ => true
  | .replyTimerExpiry _ => true
  | .republishTimerExpiry _ => true
  | _ => false

/-- The start that a request waits for while its owner has not started (R169). -/
def waitsFor : Instr → Option Instr
  | .holdGrade _ _ _ => some .gradeEvaluatorStart
  | .confirmPath _ _ => some .pathMonitorStart
  | .declinePath _ _ => some .pathMonitorStart
  | .clearPath _ _ => some .pathMonitorStart
  | .closeSegment _ _ _ => some .closureSequencerStart
  | .releaseSegment _ _ => some .closureSequencerStart
  | .setTime _ _ _ _ => some .closureSequencerStart
  | .gateStop _ _ => some .gateDriveStart
  | .gateResume _ _ => some .gateDriveStart
  | .setBudget _ _ => some .budgetAllocatorStart
  | .forceFace _ _ _ _ => some .signPublisherStart
  | .signSweep _ _ => some .signPublisherStart
  | _ => none

/-- The table requests, a further CLEAR ALL among them, which wait while a CLEAR ALL is under way (R22, R33). -/
def waitsForClearAll : Instr → Bool
  | .openRegion _ _ _ => true
  | .writeRows _ _ _ _ _ => true
  | .readRows _ _ _ _ => true
  | .blankCheck _ _ => true
  | .activateRegion _ _ _ => true
  | .clearRegion _ _ => true
  | .clearAll _ => true
  | .siteWrite _ _ _ => true
  | .siteRead _ => true
  | _ => false

/-- An outcome, and commands run on from it one after another. -/
def runsAll (cs : List Instr) (o : Host.Outcome State Fault Refusal) : Host.Outcome State Fault Refusal :=
  cs.foldl (fun o c => match o with | .next s => exec c s | o => o) o

/-! ### Taking a command, and a reply that waits in port V's queue -/

/-- The state in which a command is taken: where it was an event handed on, it no longer waits. -/
def State.took (s : State) (c : Instr) : State := s.withHanded (s.handed.erase c)

/-- A part that has supply and no report left from an earlier step. -/
def State.steady (s : State) : Prop := s.power = true ∧ s.reports = []

/-- Port V is UP, sending, and has a free place in its local queue. -/
def State.ready (s : State) : Prop :=
  s.steady ∧ s.line.portV.up = true ∧ s.line.portV.busy.isSome = true ∧
    s.line.portV.localQ.length < Config.localPlaces

/-- A REPLY as it is offered. -/
def State.replyFrame (s : State) (code tag result : Byte) (data : Bytes) : LocalFrame :=
  { frame := s.compose .reply 0 ([code, tag, result] ++ data), restartReply := false }

/-- The state with a frame at the tail of port V's local queue, its offer answered ACCEPTED. -/
def State.queuedV (s : State) (l : LocalFrame) : State :=
  s.withLine
    { s.line with
      portV := { s.line.portV with localQ := s.line.portV.localQ ++ [l] }
      answer := some (.v, .accepted) }

/-- The state with a REPLY at the tail of port V's local queue. -/
def State.replied (s : State) (code tag result : Byte) (data : Bytes) : State :=
  s.queuedV (s.replyFrame code tag result data)

/-- The events that wait, without the signal of space at port V, which the offer of a REPLY or a report can add. -/
def State.besideSpace (s : State) : List Instr := s.handed.filter fun e => e != .spaceSignal .v

/-- A command answers a next state, of which something holds. -/
def completes (c : Instr) (s : State) (holds : State → Prop) : Prop := ∃ t, exec c s = .next t ∧ holds t

/-- Port V has room for `n` more frames and is sending, so that what is offered waits in its queue. -/
def State.room (s : State) (n : Nat) : Prop :=
  s.line.portV.up = true ∧ s.line.portV.busy.isSome = true ∧ s.line.portV.localQ.length + n ≤ Config.localPlaces

/-- A REPORT as it is offered (R176). -/
def State.reportFrame (s : State) (kind : Byte) (data : Bytes) : LocalFrame :=
  { frame := s.compose .report 0 ([kind] ++ be 4 s.now ++ clockItem s.sequencer.clock ++ data), restartReply := false }

/-- The frames that wait in port V's local queue of one state are those of another and then the given ones. -/
def addedV (s t : State) (ls : List LocalFrame) : Prop := t.line.portV.localQ = s.line.portV.localQ ++ ls

/-- The same, with possibly further frames behind: a REPLY and the reports that follow it. -/
def leadsV (s t : State) (l : LocalFrame) : Prop :=
  (s.line.portV.localQ ++ [l]).isPrefixOf t.line.portV.localQ = true

/-! ### What the rules say of one record -/

/-- The CHANNEL STATE report of one channel, where its status has changed (R57). -/
def State.channelReports (u : State) (c : Nat) (kind : Byte) (r r' : ChannelRec) : List LocalFrame :=
  if r.status = r'.status then []
  else [u.reportFrame 0x03 (byteOf c ++ [kind] ++ byteOf (statusNum r.status) ++ byteOf (statusNum r'.status) ++
    beInt 2 r'.value ++ beInt 2 r'.filtered ++ flagByte r'.saturated ++ byteOf r'.faultRun ++
    presenceItem 2 (r'.lastRaw.map BitVec.toNat))]

/-- What R65 and R66 make of a rule's flag: the comparison of a measure that can be had, with the hysteresis of an
asserted rule, or the stale treatment. -/
def ruleSays (row : RuleRow) (present : Bool) (status : ChannelStatus) (filtered : Int) (rise : Option Int)
    (before after : Bool) : Prop :=
  let v := if row.rise then rise.getD 0 else filtered
  let margin : Int := if before then row.hysteresis else 0
  (present = true → status = .live → (row.rise = true → rise.isSome = true) →
    (after = true ↔
      (row.atOrBelow = true ∧ v ≤ row.threshold + margin) ∨ (row.atOrBelow = false ∧ row.threshold - margin ≤ v))) ∧
  (present = false ∨ status ≠ .live ∨ (row.rise = true ∧ rise = none) →
    (row.stale = .ignore → after = false) ∧ (row.stale = .assert → after = true) ∧
      (row.stale = .hold → after = before))

/-- What R68 makes of a record whose raw grade and floor are the new ones: the effective grade rises to the target;
below it a hold runs on, or starts; at it none runs. -/
def settlesTo (now descent : Nat) (r r' : GradeRec) : Prop :=
  r'.raw = r.raw ∧ r'.floor = r.floor ∧ r'.effective = max r.effective (max r.raw r.floor) ∧
    (r.effective ≤ max r.raw r.floor → r'.hold = none) ∧
    (max r.raw r.floor < r.effective → r'.hold = some (r.hold.getD (now + 10 * descent)))

/-- The raw grade of a segment: the greatest grade of the asserted rules that cover it, 0 without one (R67). -/
def isRaw (s : State) (flags : Map Bool) (g raw : Nat) : Prop :=
  (∀ e ∈ flags, e.2 = true → ∀ row ∈ s.ruleRow e.1, maskHas row.mask g = true → row.grade ≤ raw) ∧
    (raw = 0 ∨ ∃ e ∈ flags, e.2 = true ∧ ∃ row ∈ s.ruleRow e.1, maskHas row.mask g = true ∧ row.grade = raw)

/-- The claim action that goes with a change of effective grade (R71). -/
def actionSays (closes : Bool) (old new : Nat) (action : Option ClaimAction) : Prop :=
  (closes = false → action = none) ∧
    (closes = true → (new = 5 → old < 5 → action = some .place) ∧ (new < 5 → old = 5 → action = some .remove) ∧
      (new < 5 → old < 5 → action = none))

/-- The hand-offs of a change of effective grade wait to be taken (R71). -/
def gradeHanded (t : State) (g old new : Nat) : Prop :=
  ∃ e ∈ t.handed, ∃ action ∈ [none, some ClaimAction.place, some ClaimAction.remove],
    e = Instr.gradeEvent g new action ∧ actionSays (t.gradeCloses g) old new action ∧
      Instr.gradeNotice g new ∈ t.handed

/-- The GRADE report of one segment, where its effective grade has changed (R72). -/
def State.gradeReports (u : State) (g : Nat) (r r' : GradeRec) (cause : Byte) : List LocalFrame :=
  if r.effective = r'.effective then []
  else [u.reportFrame 0x04 (byteOf g ++ byteOf r.effective ++ byteOf r'.effective ++ byteOf r'.raw ++
    byteOf r'.floor ++ timerItem (r'.hold.map fun e => e - u.now) ++ indexOrNone (u.decidingRule g r'.raw) ++
    [cause])]

/-- The GRADE reports of an event that changes raw grades: one for each segment whose effective grade has changed, in
segment order, with cause RISE (R72). -/
def State.riseReports (s t : State) : List LocalFrame :=
  (List.range 8).flatMap fun g =>
    match mapGet s.grader.segments g, mapGet t.grader.segments g with
    | some r, some r' => t.gradeReports g r r' 0
    | _, _ => []

/-- What R87 makes of a path whose queue is the new one, at running time `now`. -/
def pathEvaluates (row : PathRow) (now : Nat) (r r' : PathRec) : Prop :=
  let n := r.queue.length
  r'.queue = r.queue ∧ r'.decision = r.decision ∧ r'.confirm = r.confirm ∧
    (r.state = .quiet ∨ r.state = .watch →
      r'.state = (if row.alert ≤ n then .alert else if row.watch ≤ n then .watch else .quiet) ∧ r'.clear = r.clear) ∧
    (r.state = .alert → (row.watch ≤ n → r'.state = .alert ∧ r'.clear = r.clear) ∧
      (n < row.watch → r'.state = .clearing ∧ r'.clear = some (now + 10 * row.clearWait))) ∧
    (r.state = .clearing →
      (n < row.watch → n < row.alert → r'.state = .clearing ∧ r'.clear = r.clear) ∧
      (row.watch ≤ n ∨ row.alert ≤ n →
        r'.state = (if row.alert ≤ n then .alert else .watch) ∧ r'.clear = none)) ∧
    (r.state = .release → r'.state = .release ∧ r'.clear = r.clear)

/-- What R89 decides by policy and line state. -/
def pathDecides (row : PathRow) (line : LineState) (now : Nat) (r' : PathRec) : Prop :=
  (row.policy = .auto → r'.decision = .claimed ∧ r'.confirm = none) ∧
    (row.policy = .warnOnly → r'.decision = .noDecision ∧ r'.confirm = none) ∧
    (row.policy = .confirm → line = .isolated → r'.decision = .claimed ∧ r'.confirm = none) ∧
    (row.policy = .confirm → line = .connected →
      r'.decision = .waiting ∧ r'.confirm = some (now + 10 * row.confirmLimit))

/-- What a RELEASE event makes of a path (R88, R89): in RELEASE only a declined decision is made again. -/
def pathReleases (row : PathRow) (line : LineState) (now : Nat) (r r' : PathRec) : Prop :=
  r'.state = .release ∧ r'.queue = r.queue ∧
    (r.state ≠ .release → r'.clear = none ∧ pathDecides row line now r') ∧
    (r.state = .release → r'.clear = r.clear ∧
      (r.decision = .declined → pathDecides row line now r') ∧
      (r.decision ≠ .declined → r'.decision = r.decision ∧ r'.confirm = r.confirm))

/-- Blind flag and warning as R84 and R93 give them. -/
def pathSettled (row : PathRow) (r' : PathRec) : Prop :=
  (r'.blind = true ↔ (∃ sl ∈ row.slots, sl.source ≠ .unused) ∧
    ∀ e ∈ List.zip row.slots r'.faults, e.1.source ≠ .unused → e.2 = true) ∧
    (r'.warning = true ↔ r'.state = .alert ∨ r'.state = .release ∨ r'.blind = true)

/-- A path's hand-offs: a warning that has changed, a claim placed as the decision becomes CLAIMED and removed as it
ceases to be (R93). -/
def pathHanded (t : State) (p : Nat) (mask : Byte) (r r' : PathRec) : Prop :=
  (r.warning ≠ r'.warning → Instr.warningNotice p r'.warning mask ∈ t.handed) ∧
    (r.decision ≠ .claimed → r'.decision = .claimed →
      Instr.claimPlacement (.path (Fin.ofNat 16 p)) true mask ∈ t.handed) ∧
    (r.decision = .claimed → r'.decision ≠ .claimed →
      Instr.claimRemoval (.path (Fin.ofNat 16 p)) mask ∈ t.handed)

/-- The PATH report of one path, where its state, blind flag or decision has changed (R94). -/
def State.pathReports (u : State) (p : Nat) (r r' : PathRec) (cause : Byte) : List LocalFrame :=
  if r.state = r'.state ∧ r.blind = r'.blind ∧ r.decision = r'.decision then []
  else [u.reportFrame 0x05 (byteOf p ++ byteOf (PathState.num r.state) ++ byteOf (PathState.num r'.state) ++
    byteOf r'.queue.length ++ flagByte r'.blind ++ byteOf (Decision.num r'.decision) ++
    timerItem (r'.confirm.map fun e => e - u.now) ++ flagByte r'.warning ++ [cause])]

/-- The PATH reports of an event, in path order: one for each path of which the report tells something new (R94). -/
def State.allPathReports (s t : State) (cause : Byte) : List LocalFrame :=
  (List.range 16).flatMap fun p =>
    match mapGet s.monitor.paths p, mapGet t.monitor.paths p with
    | some r, some r' => t.pathReports p r r' cause
    | _, _ => []

/-- The newest 16 of a queue's entries and new ones of one time (R85). -/
def newest (n time : Nat) (queue : List Nat) : List Nat :=
  let all := queue ++ List.replicate n time
  all.drop (all.length - 16)

/-- Whether a slot names a local input. -/
abbrev namesInput (sl : Slot) (i : Nat) : Prop := sl.source = .local i

/-- Every configured gate of a segment has been given an order (R102). -/
def gatesOrdered (s t : State) (g : Nat) (o : GateOrder) : Prop :=
  ∀ k ∈ s.configuredGates g, Instr.orderEvent k o ∈ t.handed

/-- A segment that goes to CLOSING: its timers stopped, its gates given LOWER, and CLOSED at once where they are all
LOWERED, as a gateless segment's are (R102, R105, R109). -/
def closesTo (s t : State) (g : Nat) (r' : SegmentRec) : Prop :=
  r'.state = (if s.allGates g .lowered = true then .closed else .closing) ∧ r'.lead = none ∧ r'.grace = none ∧
    r'.parameter = 0xFFFF ∧ gatesOrdered s t g .lower

/-- A segment that goes to REOPENING: its gates given RAISE, and OPEN at once where they are all RAISED (R102, R106,
R107, R109). -/
def reopensTo (s t : State) (g : Nat) (r' : SegmentRec) : Prop :=
  r'.state = (if s.allGates g .raised = true then .opened else .reopening) ∧ r'.lead = none ∧ r'.grace = none ∧
    r'.parameter = 0xFFFF ∧ r'.blocked = false ∧ gatesOrdered s t g .raise

/-- A segment's hand-offs: a changed state or parameter to the Sign Publisher, a changed urgency to the Budget
Allocator (R99, R102, R109). -/
def segmentHanded (t : State) (g : Nat) (r r' : SegmentRec) : Prop :=
  (r.state ≠ r'.state ∨ r.parameter ≠ r'.parameter → Instr.segmentNotice g r'.state r'.parameter ∈ t.handed) ∧
    (r.urgent ≠ r'.urgent → Instr.urgencyNotice g r'.urgent ∈ t.handed)

/-- The SEGMENT report of one segment, where its state, claim set or a flag has changed (R115). -/
def State.segmentReports (u : State) (g : Nat) (r r' : SegmentRec) (cause : Byte) : List LocalFrame :=
  if r.state = r'.state ∧ r.claims = r'.claims ∧ r.gateFault = r'.gateFault ∧ r.blocked = r'.blocked ∧
      r.unannounced = r'.unannounced then []
  else [u.reportFrame 0x06 (byteOf g ++ byteOf (closureNum r.state) ++ byteOf (closureNum r'.state) ++
    byteOf r'.claims.length ++ r'.claims.flatMap claimItem ++ timerItem (r'.lead.map fun e => e - u.now) ++
    timerItem (r'.grace.map fun e => e - u.now) ++ be 2 r'.parameter.toNat ++ byteOf r'.grade ++
    flagByte r'.gateFault ++ flagByte r'.blocked ++ flagByte r'.unannounced ++ [cause])]

/-- Whether an entry has on a day of its dates and weekdays a window that the clock is within, or ahead of by no more
than the given lead (R111). -/
def windowAt (row : ScheduleRow) (lead : Nat) (c : Clock) (d : Nat) : Prop :=
  d ≤ 65535 ∧ row.firstDay ≤ d ∧ d ≤ row.lastDay ∧ maskHas row.weekdays (d % 7) = true ∧
    86400 * d + row.start ≤ 86400 * c.day + c.second + lead ∧
    86400 * c.day + c.second < 86400 * (if row.finish ≤ row.start then d + 1 else d) + row.finish

/-- Whether a schedule entry's claim is due on a segment with the given normal lead (R111). -/
def windowDue (row : ScheduleRow) (lead : Nat) (clock : Option Clock) : Prop :=
  ∃ c ∈ clock, ∃ d, windowAt row lead c d

/-- The SCHEDULE claims of a segment after an evaluation: each present entry whose mask names the segment has its
claim there exactly while it is due; a claim that was there is kept as it was (R99, R111). -/
def scheduleEvaluated (t : State) (g : Nat) (seg : SegmentRow) (r r' : SegmentRec) : Prop :=
  ∀ e, e < 32 → ∀ row ∈ t.scheduleRow e, row.start ≤ 86399 → row.finish ≤ 86399 → seg.normalLead ≤ 1800 →
    (∀ c ∈ t.sequencer.clock, c.second ≤ 86399) → maskHas row.mask g = true →
    (windowDue row seg.normalLead t.sequencer.clock →
      mapGet r'.claims (19 + e) = some ((mapGet r.claims (19 + e)).getD { urgent := false, placed := t.now })) ∧
    (¬ windowDue row seg.normalLead t.sequencer.clock → mapGet r'.claims (19 + e) = none)

/-- The time parameter of a segment in NOTICE, computed at the running time and the clock of `t`: 0xFFFF while the clock
is UNSET; where a claim of another source stands, the minute of day of the clock and the remaining lead, which is 0 in
the grace wait (log 26); and for a set of SCHEDULE claims alone the minute of day at which the earliest of their windows
starts (R109). -/
def parameterSays (t : State) (seg : SegmentRow) (r' : SegmentRec) : Prop :=
  (t.sequencer.clock = none → r'.parameter = 0xFFFF) ∧
  ∀ c ∈ t.sequencer.clock,
    let scheduled := ∀ e ∈ r'.claims, 19 ≤ e.1
    let remaining := (r'.lead.map fun e => e - t.now).getD 0
    (¬ scheduled → r'.parameter = BitVec.ofNat 16 ((10 * c.second + remaining) / 600 % 1440)) ∧
    (scheduled → seg.normalLead ≤ 1800 → c.second ≤ 86399 →
      (∀ i, i < 32 → ∀ row ∈ t.scheduleRow i, row.start ≤ 86399 ∧ row.finish ≤ 86399) →
      ∀ i, i < 32 → (mapGet r'.claims (19 + i)).isSome = true → ∀ row ∈ t.scheduleRow i,
        ∀ d, windowAt row seg.normalLead c d →
          (∀ j, j < 32 → (mapGet r'.claims (19 + j)).isSome = true → ∀ other ∈ t.scheduleRow j,
            ∀ x, windowAt other seg.normalLead c x → 86400 * d + row.start ≤ 86400 * x + other.start) →
          r'.parameter = BitVec.ofNat 16 (row.start / 60))

/-- The segment has no approach sign, or one of them is CONFIRMED with its notice or closed face (R104). -/
def signsAllow (s : State) (g : Nat) : Prop :=
  (∀ i, i < 24 → ∀ x ∈ (s.reference .signs i).map Machine.signRow, ¬ (x.segment = g ∧ x.approach = true)) ∨
    ∃ i, i < 24 ∧ ∃ x ∈ (s.reference .signs i).map Machine.signRow, x.segment = g ∧ x.approach = true ∧
      ∃ y ∈ s.sign i, y.status = .confirmed ∧
        ∃ f ∈ y.confirmed, (f.1 = x.notice ∨ f.1 = x.closed) ∧ f.1 ≠ 0

/-- A segment that enters NOTICE with a claim of the given class: its lead runs from the time of `t`; a lead of 0 has
expired, with the decision of R104, and so has a grace of 0 that then begins (R103, R104, R109). -/
def noticeBegins (s t : State) (g : Nat) (seg : SegmentRow) (urgent : Bool) (r' : SegmentRec) : Prop :=
  let lead := if urgent = true then seg.urgentLead else seg.normalLead
  let waits := urgent = false ∧ ¬ signsAllow s g
  (1 ≤ lead → r'.state = .notice ∧ r'.lead = some (t.now + 10 * lead) ∧ r'.grace = none ∧ r'.unannounced = false ∧
    parameterSays t seg r') ∧
  (lead = 0 → ¬ waits → closesTo s t g r' ∧ r'.unannounced = false) ∧
  (lead = 0 → waits → 1 ≤ seg.grace → r'.state = .notice ∧ r'.lead = none ∧ r'.unannounced = false ∧
    r'.grace = some (t.now + 10 * seg.grace) ∧ parameterSays t seg r') ∧
  (lead = 0 → waits → seg.grace = 0 → closesTo s t g r' ∧ r'.unannounced = true)

/-- What an urgent claim that arrives makes of a segment's state: an OPEN one enters NOTICE; in NOTICE the remaining
lead is at most the urgent lead from then on, and a running grace ends in CLOSING at once; one in REOPENING goes to
CLOSING (R103, R107, R109). -/
def urgentArrives (s t : State) (g : Nat) (seg : SegmentRow) (r r' : SegmentRec) : Prop :=
  let lead := t.now + 10 * seg.urgentLead
  (r.state = .opened → noticeBegins s t g seg true r') ∧
  (r.state = .notice → r.grace.isSome = true → closesTo s t g r' ∧ r'.unannounced = r.unannounced) ∧
  (r.state = .notice → ∀ e, r.lead = some e →
    (e ≤ lead ∨ 1 ≤ seg.urgentLead → r'.state = .notice ∧ r'.lead = some (min e lead) ∧ r'.grace = none ∧
      r'.unannounced = r.unannounced ∧ parameterSays t seg r') ∧
    (lead < e → seg.urgentLead = 0 → closesTo s t g r' ∧ r'.unannounced = r.unannounced)) ∧
  (r.state = .closing ∨ r.state = .closed → r'.state = r.state) ∧
  (r.state = .reopening → closesTo s t g r')

/-- What a segment makes of the SCHEDULE claims that one evaluation adds and removes, entry by entry in increasing
order: where they leave no claim at one point, the segment acts on the empty set there, and on a claim that a later
entry places as on a fresh one (R103, R105 to R107, R109, R111). -/
def scheduleMoves (s t : State) (g : Nat) (seg : SegmentRow) (r r' : SegmentRec) : Prop :=
  let emptied := r.claims ≠ [] ∧ ∃ k, k < 33 ∧ ∀ i, i < 51 →
    mapGet (if i < 19 + k then r'.claims else r.claims) i = none
  let begins := 1 ≤ seg.normalLead ∨ r.lead ≠ some t.now → noticeBegins s t g seg false r'
  let reopens :=
    (r'.claims = [] → reopensTo s t g r') ∧
    (r'.claims ≠ [] → (s.allGates g .raised = false → closesTo s t g r') ∧ (s.allGates g .raised = true → begins))
  (r'.claims = r.claims → r' = { r with parameter := r'.parameter }) ∧
  (r.state = .opened → r'.claims ≠ [] → begins) ∧
  (r.state = .notice → ¬ emptied → r'.state = .notice ∧ r'.lead = r.lead ∧ r'.grace = r.grace ∧
    r'.unannounced = r.unannounced ∧ (r'.claims ≠ r.claims → parameterSays t seg r')) ∧
  (r.state = .notice → emptied →
    (r'.claims = [] → r'.state = .opened ∧ r'.lead = none ∧ r'.grace = none ∧ r'.parameter = 0xFFFF) ∧
    (r'.claims ≠ [] → begins)) ∧
  (r.state = .closing → (¬ emptied → r'.state = .closing) ∧ (emptied → reopens)) ∧
  (r.state = .closed → (emptied → r.grade < seg.reopenLimit → reopens) ∧
    (¬ emptied ∨ seg.reopenLimit ≤ r.grade → r'.state = .closed ∧
      (r'.claims ≠ r.claims → (r'.blocked = true ↔ r'.claims = [])))) ∧
  (r.state = .reopening → r'.claims ≠ [] → closesTo s t g r')

/-- Presence clearance: no loop, a loop fault, or the loop low for the clear interval (R133). -/
def clearanceNow (now : Nat) (row : GateRow) (g : GateRec) : Prop :=
  ∀ p ∈ g.presence, p.loopFault = true ∨ (p.level = false ∧ 10 * row.clearInterval ≤ now - p.since)

/-- The way beneath a gate is clear: presence clearance, and the safety edge inactive (R123). -/
def wayIsClear (s : State) (k : Nat) (row : GateRow) (g : GateRec) : Prop :=
  clearanceNow s.now row g ∧ (s.gatePins k).safety = false

/-- An end of travel is reached, as the target test of R121 tells it: its switch alone active, or a homed count within
the tolerance. -/
def endReached (row : GateRow) (p : GatePins) (g : GateRec) (dir : Direction) : Prop :=
  match dir with
  | .raising => (p.home = true ∧ p.closedEnd = false) ∨ (g.homed = true ∧ g.count.natAbs ≤ row.tolerance)
  | .lowering => (p.closedEnd = true ∧ p.home = false) ∨
      (g.homed = true ∧ (g.count - row.travelCount).natAbs ≤ row.tolerance)

/-- The rest reading of R121: by the switches, and where neither is active by a homed count within the tolerance. -/
def restsAs (row : GateRow) (p : GatePins) (g g' : GateRec) : Prop :=
  (p.home = true → p.closedEnd = true → g'.state = .unhomed ∧ g'.homed = false ∧ g'.count = g.count) ∧
    (p.home = true → p.closedEnd = false → g'.state = .raised ∧ g'.homed = true ∧ g'.count = 0) ∧
    (p.home = false → p.closedEnd = true → g'.state = .lowered ∧ g'.homed = true ∧ g'.count = row.travelCount) ∧
    (p.home = false → p.closedEnd = false → g'.homed = g.homed ∧ g'.count = g.count ∧
      g'.state = (if g.homed = true ∧ g.count.natAbs ≤ row.tolerance then .raised
        else if g.homed = true ∧ (g.count - row.travelCount).natAbs ≤ row.tolerance then .lowered else .unhomed))

/-- Every timer of a travel, and the vehicle wait timer, stopped. -/
def timersStopped (g : GateRec) : Prop :=
  g.phaseTimer = none ∧ g.stallTimer = none ∧ g.travelTimer = none ∧ g.vehicleTimer = none

/-- A request withdrawn, an admission handed back. -/
def givenUp (t : State) (k : Nat) (g : GateRec) : Prop :=
  (g.admission = .requested → Instr.requestWithdrawn k ∈ t.handed) ∧
    (g.admission = .held → Instr.handBack k ∈ t.handed)

/-- A gate that goes to FAULT (R129). -/
def faultsWith (t : State) (k : Nat) (cause : FaultCause) (g g' : GateRec) : Prop :=
  g'.state = .fault ∧ g'.phase = .noPhase ∧ g'.cause = cause ∧ g'.admission = .noAdmission ∧
    g'.obstacleRaise = false ∧ timersStopped g' ∧ givenUp t k g ∧ g'.order = g.order ∧ g'.count = g.count ∧
    g'.homed = (g.homed && cause != .encoder) ∧ g'.travels = g.travels

/-- A gate that goes to STOPPING, its admission kept (R130). -/
def reverses (now : Nat) (row : GateRow) (g g' : GateRec) : Prop :=
  g'.state = .stopping ∧ g'.phase = .noPhase ∧ g'.phaseTimer = some (now + row.dwell) ∧ g'.stallTimer = none ∧
    g'.travelTimer = none ∧ g'.admission = g.admission ∧ g'.count = g.count ∧ g'.travels = g.travels ∧
    g'.begun = false

/-- A gate that begins a travel: START, or RUN at once without a start delay, its admission held and its encoder error
count 0 (R124, R128). -/
def beginsTravel (now : Nat) (dir : GateState) (row : GateRow) (g g' : GateRec) : Prop :=
  g'.state = dir ∧ g'.admission = .held ∧ g'.encoderErrors = 0 ∧ g'.begun = true ∧ g'.vehicleTimer = none ∧
    g'.order = g.order ∧ g'.count = g.count ∧ g'.travels = g.travels ∧
    (1 ≤ row.startDelay → g'.phase = .start ∧ g'.phaseTimer = some (now + row.startDelay)) ∧
    (row.startDelay = 0 → g'.phase = .run ∧ g'.phaseTimer = none ∧ g'.stallTimer = some (now + row.stallTime) ∧
      g'.travelTimer = some (now + 10 * row.travelLimit))

/-- A gate that enters the SETTLE of a travel: its stall and travel timers stopped, its admission handed back, the
settle time running (R125, R126). -/
def entersSettle (t : State) (k : Nat) (dir : GateState) (row : GateRow) (g g' : GateRec) : Prop :=
  g'.state = dir ∧ g'.phase = .settle ∧ g'.admission = .noAdmission ∧ g'.stallTimer = none ∧
    g'.travelTimer = none ∧ g'.phaseTimer = some (t.now + row.settleTime) ∧ givenUp t k g ∧
    g'.travels = g.travels ∧ g'.order = g.order

/-- A gate that has entered HELD with no request and asks for a lowering where it has a LOWER order and its way is
clear; the vehicle wait runs where presence clearance does not hold (R123, R134). -/
def entersHeld (t : State) (k : Nat) (row : GateRow) (g' : GateRec) : Prop :=
  g'.state = .held ∧ g'.phase = .noPhase ∧
    (g'.order = .lower → wayIsClear t k row g' → g'.admission = .requested ∧ g'.vehicleTimer = none ∧
      Instr.admissionRequest k .lowering row.draw ∈ t.handed) ∧
    (¬ wayIsClear t k row g' → g'.admission = .noAdmission ∧
      (clearanceNow t.now row g' → g'.vehicleTimer = none) ∧
      (¬ clearanceNow t.now row g' → g'.vehicleTimer = some (t.now + 10 * row.vehicleLimit)))

/-- What the end of a settle of a direction makes of a gate, by its switches `p`. A lowering is LOWERED where the
closed-end switch is active or the count within the tolerance, and else in FAULT; a raising is RAISED, going on to
HELD under a LOWER order, but one that an obstacle caused counts a retry under a LOWER order, and is HELD, or in FAULT
at the third. A travel that began at START is counted. `told` says of the causes of the reports that they go out
(R122, R125, R126, R129, R131, R137). -/
def settleEnds (p : GatePins) (t : State) (k : Nat) (dir : Direction) (row : GateRow) (g g' : GateRec)
    (told : List Nat → Prop) : Prop :=
  let atEnd := p.closedEnd = true ∨ (g.count - row.travelCount).natAbs ≤ row.tolerance
  let travels := if g.begun = true then (g.travels + 1) % 4294967296 else g.travels
  let again := g.obstacleRaise = true ∧ g.order = .lower
  g'.count = g.count ∧ g'.homed = g.homed ∧ g'.order = g.order ∧ g'.obstacleRaise = false ∧
  (dir = .lowering → atEnd → g'.state = .lowered ∧ g'.phase = .noPhase ∧ g'.retries = 0 ∧ g'.travels = travels ∧
    told [0] ∧
    (g.order = .raise → g'.admission = .requested ∧ Instr.admissionRequest k .raising row.draw ∈ t.handed) ∧
    (g.order ≠ .raise → g'.admission = .noAdmission)) ∧
  (dir = .lowering → ¬ atEnd → faultsWith t k .position g g' ∧ told [4]) ∧
  (dir = .raising → g'.travels = travels) ∧
  (dir = .raising → ¬ again → g'.retries = g.retries ∧ told [1] ∧
    (g.order ≠ .lower → g'.state = .raised ∧ g'.phase = .noPhase ∧ g'.admission = .noAdmission) ∧
    (g.order = .lower → entersHeld t k row g')) ∧
  (dir = .raising → again → g'.retries = min 3 (g.retries + 1) ∧
    (g.retries < 2 → entersHeld t k row g' ∧ told []) ∧
    (2 ≤ g.retries → g'.state = .fault ∧ g'.cause = .obstacle ∧ g'.phase = .noPhase ∧ told [7]))

/-- What an event at gate `k` leaves: every other gate's record and the pins, and a changed state is handed to the
Closure Sequencer (R119). -/
def gateFrame (s t : State) (k : Nat) (g g' : GateRec) : Prop :=
  (∀ j, j < 4 → j ≠ k → mapGet t.drives.gates j = mapGet s.drives.gates j) ∧
    (g.state ≠ g'.state → Instr.gateStateNotice k ∈ t.handed)

/-- The GATE reports of an event, each with its cause's number (R137). -/
def State.gateReports (u : State) (k : Nat) (g g' : GateRec) (causes : List Nat) : List LocalFrame :=
  causes.map fun n => u.reportFrame 0x07
    (byteOf k ++ indexOrNone (u.gateSegment k) ++ byteOf (GateState.num g.state) ++
      byteOf (GateState.num g'.state) ++ byteOf (Phase.num g'.phase) ++ byteOf (orderNum g'.order) ++
      countItem g'.count ++ flagByte g'.homed ++ byteOf g'.encoderErrors ++ byteOf g'.retries ++
      byteOf (FaultCause.num g'.cause) ++ byteOf (Admission.num g'.admission) ++
      (match g'.presence with
        | none => [0, 0, 0, 0, 0, 0, 0, 0, 0]
        | some p => 1 :: flagByte p.level ++ be 2 (min 65535 (u.now - p.since)) ++ be 2 p.lastHigh ++
            be 2 p.lastLow ++ flagByte p.loopFault) ++
      be 4 g'.travels ++ byteOf n)

/-- A draw fits beside a committed draw `h` in a remaining current (R146). -/
def fitsIn (remaining h draw : Nat) : Prop := h = 0 ∨ draw + h ≤ remaining

/-- The sum of a list of admissions' draws. -/
def drawSum (l : List (Nat × Nat)) : Nat := (l.map Prod.snd).sum

/-- The Allocator grants admissions: GATES is ACTIVE, and the notice of a clear does not still wait (R32). -/
def State.grants (s : State) : Prop := s.active .gates = true ∧ .budgetRegionNotice .gates false ∉ s.handed

/-- The examination of a queue: the entries in front that fit, one after another, are granted and leave the queue; the
first that does not fit stays, and so do all behind it (R146, R148). Once GATES is cleared nothing is granted (R32). -/
def examines (q : List MotionEntry) (admitted : List (Nat × Nat)) (t : State) : Prop :=
  (¬ t.grants → t.allocator.queue = q ∧ t.allocator.admitted = admitted) ∧
  (t.grants → ∃ n ∈ List.range (q.length + 1),
    let went := (q.take n).map fun e => (e.gate, e.draw)
    t.allocator.queue = q.drop n ∧ t.allocator.admitted = admitted ++ went ∧
      (∀ i, i < n → ∀ e ∈ q[i]?,
        fitsIn t.allocator.figures.remaining (drawSum (admitted ++ went.take i)) e.draw ∧
          Instr.grant e.gate e.direction ∈ t.handed) ∧
      ∀ e ∈ t.allocator.queue.head?, ¬ fitsIn t.allocator.figures.remaining (drawSum t.allocator.admitted) e.draw)

/-- A BUDGET report of a changed below-floor flag, at an Allocator that has started (R149, R151). -/
def State.budgetReports (u : State) (before : Bool) (a : Allocator) (cause : Nat) : List LocalFrame :=
  if a.started = false ∨ before = a.belowFloor then []
  else [u.reportFrame 0x09
    (figureItem a.budget ++ figureItem a.figures.floor ++ figureItem a.figures.ceiling ++
      figureItem a.figures.effective ++ byteOf a.figures.cap ++ byteOf a.requested ++
      figureItem a.figures.remaining ++ figureItem (drawSum a.admitted) ++ flagByte a.belowFloor ++
      byteOf a.queue.length ++
      (a.queue.flatMap fun e =>
        byteOf e.gate ++ byteOf (directionNum e.direction) ++ [if e.urgent = true then 0 else 1]) ++
      byteOf cause)]

/-- A recomputation over the inputs that `t` holds: the whole chain, a granted level for every present sign with a
notice of each that has changed, the below-floor flag, and the queue `q` examined where the remaining current has grown
(R143, R144, R149). `granted` is what was granted before. -/
def recomputes (s t : State) (granted : Map Nat) (q : List MotionEntry) : Prop :=
  let a := t.allocator
  a.figures = figuresOf t.store.site.baseDraw.toNat a.budget a.requested t.litRows t.motorDraws ∧
    (a.belowFloor = true ↔ a.budget < a.figures.floor) ∧ mapKeys a.granted = t.presentSigns ∧
    (∀ g ∈ t.presentSigns, mapGet a.granted g = some (min a.requested a.figures.cap) ∧
      ∀ l ∈ mapGet granted g, l ≠ min a.requested a.figures.cap →
        Instr.grantNotice g (min a.requested a.figures.cap) ∈ t.handed) ∧
    (s.allocator.figures.remaining < a.figures.remaining → examines q s.allocator.admitted t) ∧
    (a.figures.remaining ≤ s.allocator.figures.remaining → a.queue = q ∧ a.admitted = s.allocator.admitted)

/-- A motion entry with the class its gate's segment gives it: a lowering URGENT while the segment is, a raising NORMAL
(R147). -/
def classedAs (s : State) (urgent : List Nat) (e : MotionEntry) : MotionEntry :=
  { e with urgent := e.direction == .lowering && (s.allocatorGateRow e.gate).any fun row => urgent.contains row.segment }

/-- The entries of a queue in the order of class, request time and joining (R147). -/
def inOrder (q : List MotionEntry) : Prop :=
  q.Pairwise fun a b => (a.urgent = true ∧ b.urgent = false) ∨
    (a.urgent = b.urgent ∧ (a.time < b.time ∨ (a.time = b.time ∧ a.joined < b.joined)))

/-- The winner that R155 gives a sign, by its forced face and the view; its segment is absent while SEGMENTS is not
ACTIVE or the row is not present, and while the notice of a clear of SEGMENTS waits (R36). -/
def winnerSays (s : State) (row : SignRow) (forced : Option (Byte × Nat)) (w : Winner) : Prop :=
  (∀ f ∈ forced, w = { kind := .forced, face := f.1, parameter := 0xFFFF, flash := false }) ∧
  let seen := mapGet s.publisher.segmentView row.segment
  let stands := (s.reference .segments row.segment).isSome = true ∧ .signerSegmentsNotice false ∉ s.handed
  (forced = none → ¬ stands ∨ seen = none → w = .blank) ∧
  (forced = none → stands → ∀ v ∈ seen,
    let closed := row.approach = true ∧ v.state ∈ [.closing, .closed, .reopening] ∧ row.closed ≠ 0
    let avalanche := (∃ e ∈ s.publisher.pathView, e.2.warning = true ∧ maskHas e.2.mask row.segment = true) ∧
      row.avalanche ≠ 0
    let notice := row.approach = true ∧ v.state = .notice ∧ row.notice ≠ 0
    let advisory := 1 ≤ v.grade ∧ row.advisory.getD (v.grade - 1) 0 ≠ 0
    (closed → w = { kind := .closed, face := row.closed, parameter := 0xFFFF, flash := false }) ∧
    (¬ closed → avalanche → w = { kind := .avalanche, face := row.avalanche, parameter := 0xFFFF, flash := true }) ∧
    (¬ closed → ¬ avalanche → notice →
      w = { kind := .notice, face := row.notice, parameter := v.parameter, flash := false }) ∧
    (¬ closed → ¬ avalanche → ¬ notice → advisory →
      w = { kind := .advisory, face := row.advisory.getD (v.grade - 1) 0, parameter := 0xFFFF, flash := false }) ∧
    (¬ closed → ¬ avalanche → ¬ notice → ¬ advisory → w = .blank))

/-- The desired record that goes with a winner and a granted level (R157). -/
def desires (r : SignRec) : Prop :=
  r.desired =
    { face := r.winner.face, parameter := r.winner.parameter, flash := r.winner.flash
      level := if r.winner.face = 0 then 0 else r.granted }

/-- A port takes one more local frame: it is DOWN, where a frame is lost, or has a free place (R10). -/
def State.takesAt (s : State) (p : Port) : Prop :=
  (s.line.port p).up = false ∨ (s.line.port p).localQ.length < Config.localPlaces

/-- A FACE SET as it is offered. -/
def State.faceSet (s : State) (row : SignRow) (token : Byte) (d : Display) : LocalFrame :=
  { frame := s.compose .faceSet (BitVec.ofNat 10 row.address)
      ([token, d.face] ++ be 2 d.parameter.toNat ++ byteOf d.level ++ flagByte d.flash)
    restartReply := false }

/-- An attempt answered ACCEPTED: the desired record is the published one with the next token (R158). -/
def attemptTaken (t : State) (n : Nat) (r r' : SignRec) : Prop :=
  r'.phase = .awaiting ∧ r'.published = r'.desired ∧ r'.token = r.token + 1 ∧ r'.attempts = n + 1 ∧
    r'.nextPending = false ∧ r'.reply = some (t.now + 20)

/-- An attempt answered FULL: token, attempts and published record as they were, the sign HELD (R158). -/
def attemptHeld (t : State) (g : Nat) (row : SignRow) (n : Nat) (r r' : SignRec) : Prop :=
  r'.phase = .held ∧ r'.published = r.published ∧ r'.token = r.token ∧ r'.attempts = n ∧ r'.reply = none ∧
    r'.nextPending = r.nextPending ∧ g ∈ t.publisher.hold row.port ∧ (t.line.port row.port).up = true

/-- An attempt of the cycle's `n` plus first: `alone` where it is the only offer ahead, so that the port's queue in `s`
says how it is answered, and the frame is known. -/
def attempts (alone : Bool) (s t : State) (g : Nat) (row : SignRow) (n : Nat) (r r' : SignRec) : Prop :=
  (attemptTaken t n r r' ∨ attemptHeld t g row n r r') ∧
    (alone = true →
      (s.takesAt row.port → attemptTaken t n r r') ∧
      (¬ s.takesAt row.port → attemptHeld t g row n r r' ∧
        t.publisher.hold row.port = ((s.publisher.hold row.port).filter fun h => h != g) ++ [g]) ∧
      ((s.line.port row.port).up = true → (s.line.port row.port).busy.isSome = true → s.takesAt row.port →
        ((s.line.port row.port).localQ ++ [s.faceSet row (r.token + 1) r'.desired]).isPrefixOf
          (t.line.port row.port).localQ = true))

/-- A publication cycle starts, with its first attempt and nothing pending (R158, R161). -/
def cycleStarts (alone : Bool) (s t : State) (g : Nat) (row : SignRow) (r r' : SignRec) : Prop :=
  r'.mismatch = false ∧ r'.republish = none ∧ attempts alone s t g row 0 { r with nextPending := false } r'

/-- The same cycle goes on as it was. -/
def sameCycle (r r' : SignRec) : Prop :=
  r'.published = r.published ∧ r'.token = r.token ∧ r'.phase = r.phase ∧ r'.attempts = r.attempts ∧
    r'.mismatch = r.mismatch ∧ r'.reply = r.reply ∧ r'.republish = r.republish

/-- What no change of a desired record touches. -/
def sameOutcome (r r' : SignRec) : Prop :=
  r'.status = r.status ∧ r'.confirmed = r.confirmed ∧ r'.condition = r.condition

/-- A desired record made to agree acts by the sign's phase (R157). -/
def desireActs (alone : Bool) (s t : State) (g : Nat) (row : SignRow) (r r' : SignRec) : Prop :=
  desires r' ∧ sameOutcome r r' ∧
    (r'.desired = r.desired → sameCycle r r' ∧ r'.nextPending = r.nextPending) ∧
    (r'.desired ≠ r.desired →
      (r.phase = .idle → r'.desired = r.published → sameCycle r r' ∧ r'.nextPending = r.nextPending) ∧
      (r.phase = .idle → r'.desired ≠ r.published → cycleStarts alone s t g row r r') ∧
      (r.phase = .held → sameCycle r r' ∧ r'.nextPending = r.nextPending) ∧
      (r.phase = .awaiting → sameCycle r r' ∧ (r'.nextPending = true ↔ r'.desired ≠ r.published)))

/-- A sign decided afresh with a forced face: its winner by the view, a lit notice of a changed lit state, and the
desired record (R155, R157). -/
def decidedAfresh (alone : Bool) (s t : State) (g : Nat) (row : SignRow) (forced : Option (Byte × Nat))
    (r r' : SignRec) : Prop :=
  r'.forced = forced ∧ r'.granted = r.granted ∧ winnerSays t row forced r'.winner ∧
    ((r.winner.face = 0 ∧ r'.winner.face ≠ 0 → Instr.litNotice g true ∈ t.handed) ∧
      (r.winner.face ≠ 0 ∧ r'.winner.face = 0 → Instr.litNotice g false ∈ t.handed)) ∧
    desireActs alone s t g row r r'

/-- What an event at one sign leaves: every other sign's record, the view and whether SIGNS is in service. -/
def signFrame (s t : State) (g : Nat) : Prop :=
  (∀ h, h < 24 → h ≠ g → mapGet t.publisher.signs h = mapGet s.publisher.signs h) ∧
    t.publisher.segmentView = s.publisher.segmentView ∧ t.publisher.pathView = s.publisher.pathView ∧
    t.publisher.signsIn = s.publisher.signsIn

/-- The REPORT frames in port V's queue of one state are those of another and then the given ones. -/
def reportsV (s t : State) (ls : List LocalFrame) : Prop :=
  (t.line.portV.localQ.filter fun l => l.frame.kind == LocalKind.code .report) =
    (s.line.portV.localQ.filter fun l => l.frame.kind == LocalKind.code .report) ++ ls

/-- The SIGN report of an event, where it has changed a sign's status or condition, with the mismatch flag of the
attempt decided (R163). -/
def State.signReports (u : State) (g : Nat) (r r' : SignRec) (mismatch : Bool) : List LocalFrame :=
  if r.status = r'.status ∧ r.condition = r'.condition then []
  else [u.reportFrame 0x08
    (byteOf g ++ byteOf (SignStatus.num r.status) ++ byteOf (SignStatus.num r'.status) ++
      byteOf (Condition.num r'.condition) ++ byteOf (WinnerKind.num r'.winner.kind) ++
      ([r'.published.face] ++ be 2 r'.published.parameter.toNat ++ byteOf r'.published.level ++
        flagByte r'.published.flash ++ [r'.token]) ++
      (match r'.confirmed with
        | none => [0, 0, 0]
        | some c => 1 :: c.1 :: byteOf c.2) ++
      flagByte mismatch ++
      byteOf (if r.status = r'.status then 3
        else if r'.status = .unreachable then 1 else if r'.status = .fault then 2 else 0))]

/-- The end of a cycle: IDLE with the republish timer running, or a new cycle where one is pending (R161). -/
def cycleEnds (s t : State) (g : Nat) (row : SignRow) (r r' : SignRec) : Prop :=
  r'.desired = r.desired ∧ r'.winner = r.winner ∧ r'.forced = r.forced ∧ r'.granted = r.granted ∧
    (r.nextPending = false → r'.phase = .idle ∧ r'.attempts = 0 ∧ r'.reply = none ∧ r'.nextPending = false ∧
      r'.republish = some (t.now + 10 * row.republish) ∧ r'.published = r.published ∧ r'.token = r.token) ∧
    (r.nextPending = true → cycleStarts true s t g row r r')

/-- The running sweep has no business at a sign. -/
def sweepElsewhere (s : State) (g : Nat) : Prop :=
  ∀ w ∈ s.publisher.sweep, w.signs[w.position]? ≠ some g

/-- The signs as a building leaves them: a record for each present row of SIGNS, decided by the view and published,
with a lit notice where its lit state is not the one before (R153, R166). -/
def builtAndPublished (s t : State) (wasLit : Nat → Bool) : Prop :=
  ∀ g, g < 24 → (s.reference .signs g = none → mapGet t.publisher.signs g = none) ∧
    ∀ row ∈ (s.reference .signs g).map Machine.signRow, ∃ r' ∈ mapGet t.publisher.signs g,
      let granted := (mapGet t.allocator.granted g).getD t.allocator.requested
      r'.forced = none ∧ r'.granted = granted ∧ winnerSays t row none r'.winner ∧ desires r' ∧
        r'.status = .unconfirmed ∧ r'.confirmed = none ∧ r'.condition = .unknown ∧
        cycleStarts false s t g row (.built granted) r' ∧
        (decide (r'.winner.face ≠ 0) ≠ wasLit g →
          Instr.litNotice g (decide (r'.winner.face ≠ 0)) ∈ t.handed)

/-! ### The events that time brings -/

/-- A running timer that counts tenths, as a number of steps of 50 ms. -/
def inSteps (timer : Option Nat) : Option Nat := timer.map fun e => 2 * e

/-- A time read from a configured gate's record and row, in steps of 50 ms. -/
def State.gateTime (s : State) (k : Nat) (time : GateRec → GateRow → Option Nat) : Option Nat :=
  if k < 4 then (s.gateOf k).bind fun x => inSteps (time x.1 x.2) else none

/-- The time, in steps of 50 ms, at which running time brings an event, none where its timer does not run. A command
that no time brings has none. -/
def dueAt (s : State) : Instr → Option Nat
  | .silenceTimerExpiry => inSteps s.line.silence
  | .ageTimerExpiry ch => inSteps ((mapGet s.intake.channels ch).bind ChannelRec.age)
  | .descentHoldExpiry g => if g < 8 then inSteps ((s.gradeRecord g).bind GradeRec.hold) else none
  | .deadTimerExpiry i => (mapGet s.monitor.inputs i).bind InputRec.dead
  | .ageOut p => (s.pathRow p).bind fun row => (mapGet s.monitor.paths p).bind fun x =>
      inSteps (x.queue.head?.map fun time => time + 10 * row.window)
  | .clearWaitExpiry p => (s.pathRow p).bind fun _ => inSteps ((mapGet s.monitor.paths p).bind PathRec.clear)
  | .confirmWaitExpiry p => (s.pathRow p).bind fun _ => inSteps ((mapGet s.monitor.paths p).bind PathRec.confirm)
  | .leadTimerExpiry g => if g < 8 then inSteps ((s.segment g).bind SegmentRec.lead) else none
  | .graceTimerExpiry g => if g < 8 then inSteps ((s.segment g).bind SegmentRec.grace) else none
  | .clockSecond => inSteps (s.sequencer.clock.map Clock.next)
  | .startDelayExpiry k => s.gateTime k fun g _ =>
      if g.state ∈ [.lowering, .raising] ∧ g.phase = .start then g.phaseTimer else none
  | .settleExpiry k => s.gateTime k fun g _ =>
      if g.state ∈ [.lowering, .raising] ∧ g.phase = .settle then g.phaseTimer else none
  | .reversalDwellExpiry k => s.gateTime k fun g _ => if g.state = .stopping then g.phaseTimer else none
  | .stallTimerExpiry k => s.gateTime k fun g _ => g.stallTimer
  | .travelTimerExpiry k => s.gateTime k fun g _ => g.travelTimer
  | .loopFaultSet k => s.gateTime k fun g row => g.presence.bind fun p =>
      if p.level = true ∧ p.loopFault = false then some (p.since + 10 * row.presenceLimit) else none
  | .presenceClearance k => s.gateTime k fun g row => g.presence.bind fun p =>
      if g.state = .held ∧ g.order = .lower ∧ g.admission = .noAdmission ∧ (s.gatePins k).safety = false ∧
          p.level = false ∧ p.loopFault = false
        then some (p.since + 10 * row.clearInterval) else none
  | .vehicleWaitExpiry k => s.gateTime k fun g _ => g.vehicleTimer
  | .forcedTimerExpiry g => if g < 24 then inSteps ((s.sign g).bind fun r => r.forced.map Prod.snd) else none
  | .replyTimerExpiry g => if g < 24 then inSteps ((s.sign g).bind SignRec.reply) else none
  | .republishTimerExpiry g => if g < 24 then inSteps ((s.sign g).bind SignRec.republish) else none
  | _ => none

/-! ### Invariants -/

/-- Every frame of a list carries a correct line check (R3). -/
def allSealed (fs : List Frame) : Prop := ∀ f ∈ fs, f.check = lineCheck f.body

/-- The frames a port holds: the one in transmission and those of its two queues. -/
def PortState.frames (q : PortState) : List Frame :=
  (match q.busy with
    | none => []
    | some (.own l) => [l.frame]
    | some (.passing f) => [f]) ++ q.localQ.map LocalFrame.frame ++ q.forwardQ

/-- A port within its bounds; a port that is DOWN holds and sends nothing; every frame it holds carries a correct
check (R1, R3, R9 to R11, R17). -/
def PortState.ok (q : PortState) : Prop :=
  q.forwardQ.length ≤ 16 ∧ q.localQ.length ≤ 8 ∧ q.streak ≤ 4 ∧ q.badFrames ≤ 65535 ∧ q.overflow ≤ 65535 ∧
    q.reportLoss ≤ 65535 ∧ q.forwarded ≤ 65535 ∧
    (q.up = false → q.forwardQ = [] ∧ q.localQ = [] ∧ q.busy = none ∧ q.streak = 0) ∧ allSealed q.frames

/-- The local frames of a port: the one in transmission and those that wait. -/
def PortState.locals (q : PortState) : List LocalFrame := sendingLocal q.busy ++ q.localQ

/-- Both ports are within their bounds, and the line is CONNECTED exactly while the silence timer runs (R14, R15). An
idle transmitter has nothing to send, but for port V while a restart is to be taken first (R11, R12); a restart to be
taken, or a RESTART reply not yet ended, belongs to a pending restart (R174). -/
def LineOk (s : State) : Prop :=
  s.line.portV.ok ∧ s.line.portS.ok ∧ (s.line.lineState = .connected ↔ s.line.silence.isSome = true) ∧
    (s.line.portS.busy = none → s.line.portS.localQ = [] ∧ s.line.portS.forwardQ = []) ∧
    (s.line.portV.busy = none → s.responder.releasing = false →
      s.line.portV.localQ = [] ∧ s.line.portV.forwardQ = []) ∧
    (s.responder.releasing = true → s.responder.restartPending = true) ∧
    (∀ l ∈ s.line.portV.locals, l.restartReply = true → s.responder.restartPending = true) ∧
    (∀ l ∈ s.line.portS.locals, l.restartReply = false)

/-- A region as R21 gives it: one of the four states, the declared count within its bounds, the accepted check the one
of its rows while it is ACTIVE, and every present row of an ACTIVE one valid and consistent (R28, R29). -/
def RegionRecord.ok (r : Region) (x : RegionRecord) : Prop :=
  x.header.count ≤ Region.capacity r ∧ x.header.state ∈ [.empty, .opened, .active, .failed] ∧
    (x.header.state = .empty → x.header.count = 0 ∧ x.header.check = 0) ∧
    (x.header.state = .opened → 1 ≤ x.header.count ∧ x.header.check = 0) ∧
    (x.header.state = .active →
      1 ≤ x.header.count ∧ x.header.check = regionCheck x.header.count x.rows ∧
      firstInvalid r (presentRows x.header.count x.rows) = none ∧
      firstConflict r [] (presentRows x.header.count x.rows) = none)

/-- The rows each job has taken into use, with their region. -/
def State.jobRows (s : State) : List (Region × Map Bytes) :=
  [(.channels, s.intake.rows), (.gradeRules, s.grader.ruleRows), (.segments, s.grader.segmentRows),
    (.paths, s.monitor.rows), (.segments, s.sequencer.segmentRows), (.schedule, s.sequencer.scheduleRows),
    (.gates, s.sequencer.gateRows), (.gates, s.drives.rows), (.signs, s.allocator.signRows),
    (.gates, s.allocator.gateRows), (.signs, s.publisher.rows)]

/-- A CLEAR ALL under way: the regions it has cleared are EMPTY, and others are left (R33). -/
def ClearRun.ok (s : State) (run : ClearRun) : Prop :=
  1 ≤ run.cleared ∧ run.cleared < 7 ∧
    ∀ r ∈ regionOrder.take run.cleared, (s.region r).header.state = .empty

/-- The rows are in canonical form, every region is as R21 gives it, every site field is in its range (R37), a CLEAR ALL
is under way only as R33 gives it, the rows a job has taken into use are valid and consistent (R28, R29, R35), and at a
part that has supply an EMPTY region is blank and the start-up list names FAILED regions only (R40, R41). -/
def StoreOk (s : State) : Prop :=
  Memory.wf s.store.regions = true ∧ (∀ r ∈ regionOrder, (s.region r).ok r) ∧
    (∀ f ∈ siteFields, clampSite f (s.store.site.get f) = s.store.site.get f) ∧
    (∀ run ∈ s.store.clearing, run.ok s) ∧
    (∀ e ∈ s.jobRows, rowsWf (Region.capacity e.1) e.2 = true ∧ firstInvalid e.1 e.2 = none ∧
      firstConflict e.1 [] e.2 = none) ∧
    (s.power = true →
      (∀ r ∈ regionOrder, (s.region r).header.state = .empty → (s.region r).rows = []) ∧
      ∀ r ∈ s.store.startList, (s.region r).header.state = .failed)

/-- A channel record: the age timer runs exactly while LIVE, a LIVE channel alone has a ring, of 1 to 8 values, the
status is FAULT exactly from the third bad entry in a row, the values are engineering values, and those of a channel
that is NEVER are 0 (R45, R49 to R56). -/
def ChannelRec.ok (r : ChannelRec) : Prop :=
  (r.age.isSome = true ↔ r.status = .live) ∧ r.ring.length ≤ 8 ∧ (r.ring = [] ↔ r.status ≠ .live) ∧
    (r.status = .fault ↔ 3 ≤ r.faultRun) ∧ r.faultRun ≤ 255 ∧
    -32000 ≤ r.value ∧ r.value ≤ 32000 ∧ -32000 ≤ r.filtered ∧ r.filtered ≤ 32000 ∧
    (r.status = .never → r.value = 0 ∧ r.filtered = 0)

/-- Every channel record is well kept. -/
def ChannelsOk (s : State) : Prop :=
  mapSorted s.intake.channels = true ∧ ∀ e ∈ s.intake.channels, e.1 < 64 ∧ e.2.ok

/-- A segment grade record: the effective grade is not below the raw grade or the floor, and the descent hold runs
exactly while it is above both (R68). -/
def GradeRec.ok (r : GradeRec) : Prop :=
  r.raw ≤ r.effective ∧ r.floor ≤ r.effective ∧ (r.hold.isSome = true ↔ max r.raw r.floor < r.effective)

/-- Every segment's grade record is settled. -/
def GradesOk (s : State) : Prop :=
  mapSorted s.grader.flags = true ∧ (∀ e ∈ s.grader.flags, e.1 < 96) ∧ mapSorted s.grader.segments = true ∧
    ∀ e ∈ s.grader.segments, e.1 < 8 ∧ e.2.ok

/-- A path record: at most 16 events, four fault flags, the decision WAITING exactly while the confirm timer runs, the
clear timer running exactly while CLEARING, a decision only in RELEASE, and the warning as the state and the blind
flag give it (R78, R85, R93). -/
def PathRec.ok (r : PathRec) : Prop :=
  r.queue.length ≤ 16 ∧ r.faults.length = 4 ∧ (r.decision = .waiting ↔ r.confirm.isSome = true) ∧
    (r.state = .clearing ↔ r.clear.isSome = true) ∧ (r.decision ≠ .noDecision → r.state = .release) ∧
    (r.warning = true ↔ r.state = .alert ∨ r.state = .release ∨ r.blind = true)

/-- A local input record: only a COUNTING input has a dead timer (R79, R80). -/
def InputRec.ok (r : InputRec) : Prop := r.dead = none ∨ (r.assignment matches .counting _ _) = true

/-- Every path record and every one of the twelve local input records is well kept. -/
def PathsOk (s : State) : Prop :=
  mapKeys s.monitor.inputs = List.range 12 ∧ (∀ e ∈ s.monitor.inputs, e.2.ok) ∧
    mapSorted s.monitor.paths = true ∧ ∀ e ∈ s.monitor.paths, e.1 < 16 ∧ e.2.ok

/-- A segment record: claims only in NOTICE, CLOSING or CLOSED; in NOTICE a claim and one of the two timers; timers
and a time parameter only in NOTICE; the reopen-blocked flag only in CLOSED with an empty set (R98, R102 to R109). -/
def SegmentRec.ok (r : SegmentRec) : Prop :=
  mapSorted r.claims = true ∧ (∀ c ∈ r.claims, c.1 ≤ 50) ∧
    (r.claims ≠ [] → r.state = .notice ∨ r.state = .closing ∨ r.state = .closed) ∧
    (r.state = .notice → r.claims ≠ [] ∧ r.lead.isSome = !r.grace.isSome) ∧
    (r.state ≠ .notice → r.lead = none ∧ r.grace = none ∧ r.parameter = 0xFFFF) ∧
    (r.blocked = true → r.state = .closed ∧ r.claims = [])

/-- Every segment record is well kept. -/
def SegmentsOk (s : State) : Prop :=
  mapSorted s.sequencer.segments = true ∧ ∀ e ∈ s.sequencer.segments, e.1 < 8 ∧ e.2.ok

/-- A gate record: a phase exactly within a travel, an admission held exactly in START, RUN and STOPPING and requested
only at rest, each timer only where it runs, the obstacle raise flag only in the stop and the raising it causes, a
travel that began at START only within LOWERING and RAISING, and the two counts within their bounds (R118 to R120,
R122, R124 to R131, R134). -/
def GateRec.ok (g : GateRec) : Prop :=
  (g.phase ≠ .noPhase ↔ g.state = .lowering ∨ g.state = .raising) ∧
    (g.admission = .held ↔ g.state = .stopping ∨ g.moving = true) ∧
    (g.admission = .requested → g.state = .unhomed ∨ g.state = .lowered ∨ g.state = .held) ∧
    (g.phaseTimer.isSome = true ↔ g.state = .stopping ∨ g.phase = .start ∨ g.phase = .settle) ∧
    (g.stallTimer.isSome = true ↔ g.phase = .run) ∧ (g.travelTimer.isSome = true ↔ g.phase = .run) ∧
    (g.vehicleTimer.isSome = true → g.state = .held) ∧
    (g.obstacleRaise = true → g.state = .stopping ∨ g.state = .raising) ∧
    (g.begun = true → g.state = .lowering ∨ g.state = .raising) ∧
    (g.order = .raise → g.retries = 0) ∧ g.encoderErrors ≤ 16 ∧ g.retries ≤ 3 ∧ g.travels < 4294967296

/-- Every one of the four gate records is well kept. -/
def GatesOk (s : State) : Prop :=
  mapKeys s.drives.gates = List.range 4 ∧ mapKeys s.drives.pins = List.range 4 ∧ ∀ e ∈ s.drives.gates, e.2.ok

/-- The motion queue holds one entry a gate at most, in the order of class, request time and joining, a raising
always NORMAL, and none while the Allocator has no gates (R147, R150). -/
def QueueOk (s : State) : Prop :=
  (s.allocator.queue.map MotionEntry.gate).Nodup ∧ (s.allocator.queue.map MotionEntry.joined).Nodup ∧
    (s.allocator.queue.Pairwise fun a b => entryBefore a b = true) ∧
    (∀ e ∈ s.allocator.queue, e.direction = .raising → e.urgent = false) ∧
    (s.allocator.gatesIn = false → s.allocator.queue = [])

/-- A sign record: the reply timer runs exactly while AWAITING, with 1 to 3 attempts made, and next pending then says
that the desired record is not the published one; at most 2 attempts are made while HELD; the republish timer runs only
while IDLE, with no attempt counted and nothing pending (R153, R157, R158, R160, R161). -/
def SignRec.ok (r : SignRec) : Prop :=
  (r.reply.isSome = true ↔ r.phase = .awaiting) ∧ r.attempts ≤ 3 ∧ (r.phase = .awaiting → 1 ≤ r.attempts) ∧
    (r.phase = .awaiting → (r.nextPending = true ↔ r.desired ≠ r.published)) ∧ (r.phase = .held → r.attempts ≤ 2) ∧
    (r.republish.isSome = true → r.phase = .idle) ∧ (r.phase = .idle → r.attempts = 0 ∧ r.nextPending = false) ∧
    (r.status = .confirmed → r.confirmed.isSome = true)

/-- Every sign record is well kept; a sign stands at most once in the two hold lists, and only while HELD; a running
sweep has a sign at its position (R158, R164, R165). -/
def SignsOk (s : State) : Prop :=
  mapSorted s.publisher.signs = true ∧ (∀ e ∈ s.publisher.signs, e.1 < 24 ∧ e.2.ok) ∧
    (s.publisher.holdV ++ s.publisher.holdS).Nodup ∧
    (∀ g ∈ s.publisher.holdV ++ s.publisher.holdS, ∃ r ∈ mapGet s.publisher.signs g, r.phase = .held) ∧
    ∀ w ∈ s.publisher.sweep, w.position < w.signs.length ∧ w.signs.length ≤ 24

end Sys2Proof.Machine
end

