-- ==== Sys2Proof/Certificates/Slice0/Obligations.lean ====
section
/-!
DEFINITION. The statements for the provers. Each docstring names the rules it rests on, or the log entry where it is
the model's own choice.
-/

open Sys2Proof Sys2Proof.Machine

/-! ### The queue of commands -/

/-- A step takes the command at the front of the queue and runs it with the queue's rest (the model's choice, log 1). -/
def Obligations.StepTakesTheFrontCommand : Prop :=
  ∀ (s : State) (c : Instr) (rest : List Instr),
    s.pending = c :: rest → step s = exec c (s.withPending rest)

/-- On an empty queue a step takes the oldest event that is handed on; with none, the next clear of a CLEAR ALL under
way; with none, the earliest event that time has brought; with none of these, 50 ms pass (the model's choice, logs 2
and 29).

The events that time brings are those of the timers that run, each at its expiry: the silence timer (R14), the age
timers (R56), the descent holds (R68), the dead timers (R80), the age-out of each path's oldest event and its two waits
(R86, R87, R90), lead and grace (R103, R104), the second of the clock (R110), the timers of the gates with the loop fault
and the clearance (R124 to R126, R128, R130, R132 to R134), and the forced, reply and republish timers (R156, R158,
R161). No other event is due.

A part without supply changes nothing at any command but the application of supply (the model's choice, log 5). -/
def Obligations.StepsWithoutCommandOrSupply : Prop :=
  (∀ (s : State), s.pending = [] → s.power = true →
    (∀ c ∈ s.handed.head?, step s = exec c s) ∧
    (s.handed = [] → ∀ run ∈ s.store.clearing, step s = .next (flushReports (clearNext run s))) ∧
    (s.handed = [] → s.store.clearing = none → ∀ d ∈ dueEvents s, d.1 ≤ s.time →
      ∃ e ∈ dueEvents s, e.1 ≤ d.1 ∧ (∀ x ∈ dueEvents s, e.1 ≤ x.1) ∧ step s = exec e.2 s) ∧
    (s.handed = [] → s.store.clearing = none → (∀ d ∈ dueEvents s, s.time < d.1) →
      step s = .next (s.withTime (s.time + 1)))) ∧
  (∀ (s : State) (time : Nat) (c : Instr), ChannelsOk s → PathsOk s →
    ((time, c) ∈ dueEvents s ↔ dueAt s c = some time)) ∧
  (∀ (c : Instr) (s : State), s.power = false → (∀ p, c ≠ .powerOn p) → exec c s = .next s)

/-! ### What a command leaves unchanged -/

/-- A command leaves the queue of commands as it is, and no report request is left over (R176; log 1).

Every command leaves every block unchanged but the ones `touched` names: the block that takes it (each rule names
its block; `withTraffic` says what every command may change beside it). -/
def Obligations.CommandsLeaveTheQueueAndTheOtherBlocks : Prop :=
  (∀ (c : Instr) (s t : State), exec c s = .next t →
    t.pending = s.pending ∧ (s.reports = [] → t.reports = [])) ∧
  (∀ (c : Instr) (s t : State), exec c s = .next t → leavesOthers (touched c) s t)

/-- A command of any block but the Line Switch leaves the line state, the silence timer, the Responder, both links and
the bad-frame, overflow and forwarded counts; only the Sign Publisher's touch port S at all. A query and a table
request that only reads leave in addition every waiting event but for space signals. A command leaves the running time
as it is unless it is an expiry or another event at a stated time (R6, R10, R16, R17, R171). -/
def Obligations.OffersLeaveTheLineAlone : Prop :=
  ∀ (c : Instr) (s t : State), exec c s = .next t → touched c ≠ .whole →
    (touched c ≠ .lineOnly → offersOnly s t) ∧ (movesTime c = false → t.time = s.time) ∧
    (touched c ≠ .lineOnly → touched c ≠ .publisher → t.line.portS = s.line.portS) ∧
    (readsOnly c = true →
      t.line.portS = s.line.portS ∧ offersOnly s t ∧
      ∀ e, e ≠ Instr.spaceSignal .v → e ≠ c → t.handed.count e = s.handed.count e)

/-! ### Invariants -/

/-- Reset is well kept in every block (R16, R18, R21, R37, R45, R67, R78, R79, R98, R118, R139, R147,
R151, R153).

The model's own choices in it: logs 6, 50. -/
def Obligations.ResetIsWellKept : Prop :=
  LineOk .reset ∧ StoreOk .reset ∧ ChannelsOk .reset ∧ GradesOk .reset ∧ PathsOk .reset ∧ SegmentsOk .reset ∧
    GatesOk .reset ∧ QueueOk .reset ∧ SignsOk .reset

/-- Every step keeps the ports within their bounds, the line state in step with the silence timer, and every frame's
check correct (R1, R3, R9 to R17, R19, R174).

The model's own choices in it: log 2. -/
def Obligations.EveryStepKeepsTheLine : Prop :=
  ∀ (s t : State), LineOk s → step s = .next t → LineOk t

/-- Every step keeps every region as R21 gives it, the rows in canonical form, an ACTIVE region's rows those that
passed activation, and the site fields in their ranges (R20, R21, R23 to R31, R37, R38, R40, R41, R43).

The model's own choices in it: log 2. -/
def Obligations.EveryStepKeepsTheStore : Prop :=
  ∀ (s t : State), StoreOk s → step s = .next t → StoreOk t

/-- Every step keeps every channel record, where the tables are well kept (R45, R49 to R56).

The model's own choices in it: log 2. -/
def Obligations.EveryStepKeepsTheChannels : Prop :=
  ∀ (s t : State), StoreOk s → ChannelsOk s → step s = .next t → ChannelsOk t

/-- Every step leaves every segment grade settled: the effective grade at or above the raw grade and the floor, the
descent hold running exactly while it is above both, where the tables are well kept (R67 to R70, R73 to R76).

The model's own choices in it: log 2. -/
def Obligations.EveryStepLeavesTheGradesSettled : Prop :=
  ∀ (s t : State), StoreOk s → GradesOk s → step s = .next t → GradesOk t

/-- Every step keeps every path record and local input record, where the tables are well kept (R78 to R96).

The model's own choices in it: log 2. -/
def Obligations.EveryStepKeepsThePaths : Prop :=
  ∀ (s t : State), StoreOk s → PathsOk s → step s = .next t → PathsOk t

/-- Every step keeps every segment record, where the tables are well kept: no claims in OPEN or REOPENING, timers only
in NOTICE (R98 to R115).

The model's own choices in it: log 2. -/
def Obligations.EveryStepKeepsTheSegments : Prop :=
  ∀ (s t : State), StoreOk s → SegmentsOk s → step s = .next t → SegmentsOk t

/-- Every step keeps every gate record: an admission held exactly in START, RUN and STOPPING (R118 to R139).

The model's own choices in it: log 2. -/
def Obligations.EveryStepKeepsTheGates : Prop :=
  ∀ (s t : State), GatesOk s → step s = .next t → GatesOk t

/-- Every step keeps the motion queue in its order, one entry a gate (R146 to R150).

The model's own choices in it: log 2. -/
def Obligations.EveryStepKeepsTheMotionQueue : Prop :=
  ∀ (s t : State), QueueOk s → step s = .next t → QueueOk t

/-- Every step keeps every sign record and both hold lists, where the tables are well kept (R153 to R167).

The model's own choices in it: log 2. -/
def Obligations.EveryStepKeepsTheSigns : Prop :=
  ∀ (s t : State), StoreOk s → SignsOk s → step s = .next t → SignsOk t

/-! ### Computations -/

/-- A frame reads back from its bytes as it was sent, and nothing else does: a unit is well formed exactly when it is
the bytes of a frame of at most 120 payload bytes whose check is correct (R2 to R4, R177). -/
def Obligations.FramesReadBackAsSent : Prop :=
  ∀ (f : Frame) (u : Bytes),
    parseUnit u = some f ↔ u = f.bytes ∧ f.payload.length ≤ 120 ∧ f.check = lineCheck f.body

/-- A conversion is the nearest integer, ties away from zero, clamped, with the flag telling whether the clamp changed
it; a smoothing step has the sign of the distance, never its whole more, and the rounded 2^k-th part of it (R51 to
R53). -/
def Obligations.ReadingsAreRoundedClampedAndSmoothed : Prop :=
  ∀ (slope offset : Int) (raw k : Nat) (filtered value : Int), k ≤ 7 →
    (∃ n : Int,
      2 * (65536 * n - ((raw : Int) * slope + offset)).natAbs ≤ 65536 ∧
      (2 * (65536 * n - ((raw : Int) * slope + offset)).natAbs = 65536 →
        ((raw : Int) * slope + offset).natAbs < (65536 * n).natAbs) ∧
      (convert slope offset raw).1 = max (-32000) (min 32000 n) ∧
      ((convert slope offset raw).2 = true ↔ (convert slope offset raw).1 ≠ n)) ∧
    (k = 0 → smooth k filtered value = value) ∧
    (smooth k filtered value - filtered).natAbs ≤ (value - filtered).natAbs ∧
    0 ≤ (smooth k filtered value - filtered) * (value - filtered) ∧
    (1 ≤ k → (smooth k filtered value - filtered).natAbs = ((value - filtered).natAbs + 2 ^ (k - 1)) / 2 ^ k) ∧
    (1 ≤ k → (smooth k filtered value = filtered ↔ (value - filtered).natAbs < 2 ^ (k - 1)))

/-- The figures: floor, ceiling, effective budget, the largest brightness cap that fits, and the remaining current,
which is enough for the largest motor (R142 to R144). -/
def Obligations.FiguresShareTheBudget : Prop :=
  ∀ (base budget requested : Nat) (lit : List SignRow) (motors : List Nat),
    1 ≤ requested → requested ≤ 7 → (∀ r ∈ lit, r.d1 ≤ r.d7) →
    let f := figuresOf base budget requested lit motors
    let draw := fun level : Nat => base + (lit.map fun r => r.d1 + (r.d7 - r.d1) * (level - 1) / 6).sum
    f.floor = draw 1 + largest motors ∧ f.ceiling = draw requested + motors.sum ∧ f.floor ≤ f.ceiling ∧
      f.effective = max f.floor (min f.ceiling budget) ∧ 1 ≤ f.cap ∧ f.cap ≤ 7 ∧
      draw (min requested f.cap) + largest motors ≤ f.effective ∧
      (∀ k, k ≤ 7 → f.cap < k → f.effective < draw (min requested k) + largest motors) ∧
      f.remaining + draw (min requested f.cap) = f.effective ∧ largest motors ≤ f.remaining ∧
      (∀ m ∈ motors, m ≤ largest motors) ∧ (largest motors = 0 ∨ largest motors ∈ motors)

/-! ### Supply and the starts of the jobs -/

/-- Supply applied: the line as R18 gives it, every region verified and every site field repaired, the start-up list
made, the pins read, every gate UNCONFIGURED, the clock UNSET, and the jobs' starts handed out (R16, R18, R40, R41,
R79, R110, R139, R151).

Supply lost: what non-volatile memory holds then. With nothing under way all of it is kept; an OPEN REGION and an
ACTIVATE REGION cut short leave the header as it was or as the whole request leaves it; a WRITE ROWS leaves the earlier
rows written and, of the row under way, each byte blank or new, writes nothing from the first row that fails its test
on, and nothing at all where it would have been refused; a CLEAR REGION, or the clear of a CLEAR ALL, leaves an
EMPTY header, the earlier rows blank and each byte of the row under way old or blank; a SITE WRITE the old or the new
value; no other region or row changes (R43). The events and requests that waited are gone, and a CLEAR ALL goes no
further (the model's choice, log 45).

The model's own choices in it: logs 25, 36, 40, 45. -/
def Obligations.SupplyComesAndGoes : Prop :=
  (∀ (s : State) (p : Pins), completes (.powerOn p) s fun t =>
    t.power = true ∧ t.time = 0 ∧ t.line.portV = .down ∧ t.line.portS = .down ∧ t.line.lineState = .isolated ∧
    t.line.silence = none ∧ t.sequencer.clock = none ∧ t.responder.restartPending = false ∧
    t.allocator.budget = t.store.site.defaultBudget.toNat ∧
    t.waiting = [] ∧ t.store.clearing = none ∧
    t.handed = [.sampleIntakeStart, .gradeEvaluatorStart, .pathMonitorStart, .gateDriveStart,
      .closureSequencerStart, .budgetAllocatorStart, .signPublisherStart] ∧
    (∀ i, i < 12 → (mapGet t.monitor.inputs i).map InputRec.level = some (p.inputs.getLsbD i)) ∧
    (∀ k, k < 4 → t.gateState k = .unconfigured ∧ (mapGet t.drives.gates k).map GateRec.travels = some 0 ∧
      t.gatePins k = [p.gate0, p.gate1, p.gate2, p.gate3].getD k .low) ∧
    (∀ f ∈ siteFields, f ≠ .lightChannel →
      t.store.site.get f =
        if (SiteField.range f).1 ≤ (s.store.site.get f).toNat ∧ (s.store.site.get f).toNat ≤ (SiteField.range f).2
        then s.store.site.get f else SiteRecord.factory.get f) ∧
    t.store.site.lightChannel =
      (if s.store.site.lightChannel.toNat ≤ 63 then s.store.site.lightChannel else 0xFFFF) ∧
    (∀ r ∈ regionOrder,
      let x := s.region r
      let y := t.region r
      y.rows = x.rows ∧
      (Region.capacity r < x.header.count ∨ x.header.state ∉ [.empty, .opened, .active, .failed] →
        y.header = { state := .failed, count := 0, check := 0 }) ∧
      (x.header.count ≤ Region.capacity r →
        (x.header.state = .opened ∨ x.header.state = .failed → y.header = x.header) ∧
        (x.header.state = .active → regionCheck x.header.count x.rows = x.header.check → y.header = x.header) ∧
        (x.header.state = .active → regionCheck x.header.count x.rows ≠ x.header.check →
          y.header = { x.header with state := .failed }) ∧
        (x.header.state = .empty → (∀ i, i < Region.capacity r → readRow x.rows i = blankRow) →
          y.header = x.header) ∧
        (x.header.state = .empty → (∃ i, i < Region.capacity r ∧ readRow x.rows i ≠ blankRow) →
          y.header = { state := .failed, count := 0, check := 0 })) ∧
      (r ∈ t.store.startList ↔ y.header.state = .failed ∧ x.header.state ≠ .failed))) ∧
  (∀ (s : State) (cut : Cut), s.power = true → completes (.supplyLost cut) s fun t =>
    t.power = false ∧ t.handed = [] ∧ t.waiting = [] ∧ t.store.clearing = none ∧
    t.store.startList = s.store.startList ∧
    let free := s.store.clearing = none
    let elsewhere := fun r : Region =>
      (∀ q ∈ regionOrder, q ≠ r → t.region q = s.region q) ∧ t.store.site = s.store.site
    match cut with
    | .quiet => t.store.regions = s.store.regions ∧ t.store.site = s.store.site
    | .openRegion r n w =>
      let x := s.region r
      elsewhere r ∧ (t.region r).rows = x.rows ∧
      (t.region r).header =
        (if free ∧ w = true ∧ x.header.state = .empty ∧ 1 ≤ n ∧ n ≤ Region.capacity r then
          { state := .opened, count := n, check := 0 } else x.header)
    | .writeRows r first rows n _ =>
      let x := s.region r
      let passes := fun i : Nat => first + i < x.header.count ∧ readRow x.rows (first + i) = blankRow
      elsewhere r ∧ (t.region r).header = x.header ∧
      (free → x.header.state = .opened → 1 ≤ rows.length → rows.length ≤ 3 →
        (∀ i, i < rows.length → i < n → (∀ j, j < i + 1 → passes j) →
          readRow (t.region r).rows (first + i) = asRow (rows.getD i [])) ∧
        (n < rows.length → (∀ j, j < n + 1 → passes j) → ∀ b, b < 32 →
          (readRow (t.region r).rows (first + n)).getD b 0 ∈ [0xFF, (asRow (rows.getD n [])).getD b 0])) ∧
      (¬ (free ∧ x.header.state = .opened ∧ 1 ≤ rows.length ∧ rows.length ≤ 3) → t.region r = x) ∧
      (free → x.header.state = .opened → 1 ≤ rows.length → rows.length ≤ 3 →
        ∀ k, k < rows.length → k ≤ n → (∀ j, j < k → passes j) → ¬ passes k →
          (∀ i, i < k → readRow (t.region r).rows (first + i) = asRow (rows.getD i [])) ∧
          ∀ i, i < Region.capacity r → first + k ≤ i → readRow (t.region r).rows i = readRow x.rows i) ∧
      (∀ i, i < Region.capacity r → i < first ∨ first + (n + 1) ≤ i ∨ first + rows.length ≤ i →
        readRow (t.region r).rows i = readRow x.rows i)
    | .activate r check w =>
      let x := s.region r
      elsewhere r ∧ (t.region r).rows = x.rows ∧
      ((t.region r).header = x.header ∨
        (free ∧ w = true ∧ x.header.state = .opened ∧
          (t.region r).header = { state := .active, count := x.header.count, check := check } ∧
          check = regionCheck x.header.count x.rows))
    | .clear r n _ =>
      let x := s.region r
      let taken := (∀ run ∈ s.store.clearing, regionOrder[run.cleared]? = some r) ∧ s.interlocked r = false ∧
        n < Region.capacity r
      elsewhere r ∧ (¬ taken → t.region r = x) ∧
      (taken → (t.region r).header = { state := .empty, count := 0, check := 0 } ∧
        (∀ i, i < n → readRow (t.region r).rows i = blankRow) ∧
        (∀ b, b < 32 → (readRow (t.region r).rows n).getD b 0 ∈ [0xFF, (readRow x.rows n).getD b 0xFF]) ∧
        (∀ i, i < Region.capacity r → n < i → readRow (t.region r).rows i = readRow x.rows i))
    | .siteWrite f v w =>
      t.store.site.get f = (if free ∧ w = true then clampSite f v else s.store.site.get f) ∧
      (∀ g ∈ siteFields, g ≠ f → t.store.site.get g = s.store.site.get g) ∧ t.store.regions = s.store.regions)

/-- Each job starts: at its fallback while its region is not ACTIVE, and with a record for each present row of an
ACTIVE one; the Evaluator with a flag for each rule, decided from de-asserted, and the raw grades that follow; the
Allocator with its first figures, from the budget that stands (R62, R73, R74, R76, R95, R96, R112, R138, R139,
R151, R167). What the Allocator has taken before its start it keeps (the model's choice, log 53). The requests that have
waited for a start have a statement of their own.

The model's own choices in it: logs 7, 13, 53, 56. -/
def Obligations.JobsStart : Prop :=
  ∀ (s : State), s.power = true →
    let unasked := fun c : Instr => ∀ r ∈ s.waiting, waitsFor r ≠ some c
    completes .sampleIntakeStart s (fun t => t.intake.started = true ∧ t.intake.inService = s.active .channels ∧
      ∀ c, c < 64 → mapGet t.intake.channels c =
        if (s.reference .channels c).isSome = true then
          some { status := .never, lastRaw := none, value := 0, filtered := 0, saturated := false, ring := []
                 age := none, faultRun := 0, lastSeq := none }
        else none) ∧
    (unasked .gradeEvaluatorStart → completes .gradeEvaluatorStart s fun t => t.grader.started = true ∧
      (s.active .gradeRules = false → t.grader.flags = []) ∧
      (s.active .gradeRules = true → ∀ i, i < 96 →
        (mapGet t.grader.flags i).isSome = (s.reference .gradeRules i).isSome ∧
        ∀ b ∈ mapGet t.grader.flags i, ∀ row ∈ (s.reference .gradeRules i).map Machine.ruleRow,
          let m := s.measured row.channel
          ruleSays row (s.reference .channels row.channel).isSome m.status m.filtered m.rise false b) ∧
      (∀ g, g < 8 → ∀ r ∈ mapGet t.grader.segments g, isRaw t t.grader.flags g r.raw) ∧
      (∀ g, g < 8 → (s.reference .segments g = none → mapGet t.grader.segments g = none) ∧
        ∀ row ∈ s.reference .segments g,
          ∀ r, r = max s.store.site.startupGrade.toNat (t.rawGrade g) → mapGet t.grader.segments g =
            some { raw := t.rawGrade g, effective := r, floor := 0
                   hold :=
                      if t.rawGrade g < r then some (s.now + 10 * (Machine.segmentRow row).descentHold) else none })) ∧
    (unasked .pathMonitorStart → completes .pathMonitorStart s fun t => t.monitor.started = true ∧
      (∀ i, i < 12 → t.inputLevel i = s.inputLevel i) ∧
      (s.active .paths = false → t.monitor.paths = [] ∧ ∀ e ∈ t.monitor.inputs, e.2.assignment = .unassigned) ∧
      (∀ p, p < 16 → (s.reference .paths p).isSome = true →
        (mapGet t.monitor.paths p).map PathRec.state =
          some (if t.pathBroken p then PathState.release else PathState.quiet) ∧
        (mapGet t.monitor.paths p).map PathRec.queue = some [])) ∧
    (unasked .gateDriveStart → completes .gateDriveStart s fun t => t.drives.started = true ∧
      ∀ k, k < 4 → ∀ g0 ∈ mapGet s.drives.gates k, ∀ g ∈ mapGet t.drives.gates k,
        g.travels = g0.travels ∧ g.order = .noOrder ∧ g.admission = .noAdmission ∧ g.phase = .noPhase ∧
        (s.reference .gates k = none → g.state = .unconfigured) ∧
        ∀ row ∈ (s.reference .gates k).map Machine.gateRow,
          (homeAlone (s.gatePins k) = true → g.state = .raised ∧ g.count = 0 ∧ g.homed = true) ∧
          (closedAlone (s.gatePins k) = true → g.state = .lowered ∧ g.count = row.travelCount ∧ g.homed = true) ∧
          (homeAlone (s.gatePins k) = false → closedAlone (s.gatePins k) = false →
            g.state = .unhomed ∧ g.homed = false) ∧
          (g.presence.isSome = row.loopFitted)) ∧
    (unasked .closureSequencerStart → completes .closureSequencerStart s fun t => t.sequencer.started = true ∧
      t.sequencer.clock = s.sequencer.clock ∧
      (s.active .segments = false → t.sequencer.segments = []) ∧
      (∀ g, g < 8 → (mapGet t.sequencer.segments g).isSome = (s.reference .segments g).isSome)) ∧
    (unasked .budgetAllocatorStart → completes .budgetAllocatorStart s fun t =>
      let a := s.allocator
      let base := s.store.site.baseDraw.toNat
      t.allocator.started = true ∧ t.allocator.budget = a.budget ∧
      t.allocator.requested = s.freshRequested ∧ t.allocator.lit = a.lit ∧ t.allocator.urgent = a.urgent ∧
      t.allocator.signsIn = a.signsIn ∧ t.allocator.gatesIn = a.gatesIn ∧ recomputes s t a.granted a.queue ∧
      (a.lit = [] → a.gatesIn = false → t.allocator.figures.floor = base ∧
        t.allocator.figures.ceiling = base ∧ t.allocator.figures.effective = base ∧
        t.allocator.belowFloor = decide (a.budget < base)) ∧
      (s.reports = [] → t.line = s.line) ∧
      ∀ r ∈ [Region.signs, .gates], s.active r = true → Instr.budgetRegionNotice r true ∈ t.handed) ∧
    (unasked .signPublisherStart → completes .signPublisherStart s fun t =>
      t.publisher.started = true ∧ t.publisher.sweep = none ∧
      (s.active .signs = false → t.publisher.signs = [] ∧ t.publisher.holdV = [] ∧ t.publisher.holdS = []) ∧
      (s.active .signs = true → .signsOutOfService ∉ s.handed → builtAndPublished s t fun _ => false))

/-! ### The corridor line -/

/-- Carrier found makes a DOWN port UP with nothing queued and signals space; carrier lost empties an UP port, stops
its transmission, and gives LOST to every local frame it held. The counters and the other port stay as they are, and
each of the two changes nothing at a port that is already so (R1, R10, R13). Where a RESTART's reply is among the lost
frames the restart is released (R174): it is the first event taken, and port V waits for it (the model's choice, log 9).
Outcomes are the model's record of what was told (log 8).

A DOWN port receives nothing, whatever the unit, a well-formed frame of the centre included. At a port that is UP a
unit that is no well-formed frame is counted, the count stopping at 65535, and nothing else happens (R1, R4, R17).

The model's own choices in it: logs 8, 9. -/
def Obligations.PortsComeAndGoAndCountBadUnits : Prop :=
  (∀ (p : Port) (s : State), s.steady →
    let q := s.line.port p
    completes (.carrierDetected p) s (fun t =>
      (q.up = true → t = s.took (.carrierDetected p)) ∧
      (q.up = false → t = ((s.took (.carrierDetected p)).withPort p
        { q with up := true, forwardQ := [], localQ := [], busy := none, streak := 0 }).hand (.spaceSignal p))) ∧
    completes (.carrierLost p) s (fun t =>
      (q.up = false → t = s.took (.carrierLost p)) ∧
      (q.up = true →
        t.line.port p = { q with up := false, forwardQ := [], localQ := [], busy := none, streak := 0 } ∧
        t.line.port (opposite p) = s.line.port (opposite p) ∧
        t.line.lineState = s.line.lineState ∧ t.line.silence = s.line.silence ∧
        (q.locals ≠ [] →
          t.line.outcomes = q.locals.map fun l => { port := p, frame := l.frame, outcome := .lost }) ∧
        (q.locals.any LocalFrame.restartReply = false →
          t.handed = (s.took (.carrierLost p)).handed ∧ t.responder = s.responder) ∧
        (q.locals.any LocalFrame.restartReply = true →
          t.handed = .restartTakesEffect :: (s.took (.carrierLost p)).handed ∧ t.responder.releasing = true)))) ∧
  (∀ (p : Port) (u : Bytes) (s : State), s.steady →
    let q := s.line.port p
    let c := Instr.frameReceived p u
    (q.up = false → exec c s = .next (s.took c)) ∧
    (q.up = true → parseUnit u = none →
      exec c s = .next ((s.took c).withPort p { q with badFrames := min 65535 (q.badFrames + 1) })))

/-- A well-formed frame that no block is handed goes on by the opposite port: its hop limit one less and its check made
anew, at the tail of that port's forward queue, or sent at once by an idle transmitter, but for a port V that waits for
a restart to be taken (log 9); discarded with hop limit 0 or at a DOWN port; counted as an overflow at a full queue. One
of the part's own address is dropped. A broadcast SAMPLE, DETECT or MANAGE frame is forwarded alike, once it is handed
on. A frame from the centre does the same, once the line state has taken it (R5, R6, R9, R11, R14, R17).

A frame for the part's own address is consumed: a FACE REPORT and a MANAGE frame are handed on, any other dropped.
A broadcast SAMPLE, DETECT or MANAGE frame is handed to its owner once, whatever its hop limit. A frame from the
centre does the same, once the line state has taken it (R5 to R9, R14).

The model's own choices in it: logs 1, 9, 46. -/
def Obligations.FramesAreForwardedOrHandedOver : Prop :=
  (∀ (p : Port) (f : Frame) (s : State), s.steady → (s.line.port p).up = true → f.payload.length ≤ 120 →
    f.check = lineCheck f.body →
    let c := Instr.frameReceived p f.bytes
    let u := if f.source = 0 then centreHeard (s.took c) else s.took c
    let leaves := fun t : State => exec c s = .next (flushReports t)
    let o := s.line.port (opposite p)
    let g := Frame.sealed { f with hop := f.hop - 1 }
    let a : Arrival := { source := f.source, dest := f.dest, port := p, time := s.now, payload := f.payload }
    let waits := opposite p = .v ∧ s.responder.releasing = true
    let forwards := fun w : State =>
      (f.hop = 0 ∨ o.up = false → leaves w) ∧
      (f.hop ≠ 0 → o.up = true → o.forwardQ.length ≤ 15 → o.busy.isSome = true ∨ waits →
        leaves (w.withPort (opposite p) { o with forwardQ := o.forwardQ ++ [g] })) ∧
      (f.hop ≠ 0 → o.up = true → 16 ≤ o.forwardQ.length →
        leaves (w.withPort (opposite p) { o with overflow := min 65535 (o.overflow + 1) })) ∧
      (f.hop ≠ 0 → o.up = true → o.busy = none → o.localQ = [] → o.forwardQ = [] → ¬ waits →
        leaves (w.withPort (opposite p) { o with busy := some (.passing g), streak := 0 }))
    (f.source = s.ownAddress → leaves u) ∧
    (f.source ≠ s.ownAddress → f.dest ≠ s.ownAddress →
      ((f.dest = 1023 → f.kind ∉ [0x01, 0x02, 0x10]) → forwards u) ∧
      (f.dest = 1023 → ∀ e ∈ [(0x01, Instr.sampleFrame a), (0x02, .detectFrame a), (0x10, .manageFrame a)],
        f.kind = e.1 → forwards (u.hand e.2)))) ∧
  (∀ (p : Port) (f : Frame) (s : State), s.steady → (s.line.port p).up = true → f.payload.length ≤ 120 →
    f.check = lineCheck f.body → f.source ≠ s.ownAddress →
    let c := Instr.frameReceived p f.bytes
    let u := if f.source = 0 then centreHeard (s.took c) else s.took c
    let leaves := fun t : State => exec c s = .next (flushReports t)
    let a : Arrival := { source := f.source, dest := f.dest, port := p, time := s.now, payload := f.payload }
    (f.dest = s.ownAddress →
      (f.kind = 0x09 → leaves (u.hand (.faceReport a))) ∧ (f.kind = 0x10 → leaves (u.hand (.manageFrame a))) ∧
      (f.kind ∉ [0x09, 0x10] → leaves u)) ∧
    (f.dest ≠ s.ownAddress → f.dest = 1023 →
      ∀ e ∈ [(0x01, Instr.sampleFrame a), (0x02, .detectFrame a), (0x10, .manageFrame a)], f.kind = e.1 →
        completes c s fun t => t.handed.count e.2 = s.handed.count e.2 + 1 ∧
          (f.source ≠ 0 → t.line.port p = s.line.port p)))

/-- A well-formed frame of source 0, whatever else it is, sets the centre-silence timer to the silence limit and makes
the line CONNECTED; where it was ISOLATED the notice and the LINE STATE report go out. The timer's expiry makes the
line ISOLATED, with the notice and the report (R14, R15).

The first CONNECTED line reports each region found FAILED at start-up, in list order, and empties the list
(R41, R42).

The model's own choices in it: log 3. -/
def Obligations.LineStateFollowsTheCentre : Prop :=
  (∀ (p : Port) (f : Frame) (s : State), s.steady →
    ((s.line.port p).up = true → f.payload.length ≤ 120 → f.check = lineCheck f.body → f.source = 0 →
      completes (.frameReceived p f.bytes) s fun t =>
        t.line.lineState = .connected ∧
        t.line.silence = some (s.now + 10 * s.store.site.silenceLimit.toNat) ∧
        t.handed.count .lineConnectedNotice = s.handed.count .lineConnectedNotice +
          (if s.line.lineState = .isolated then 1 else 0) ∧
        (s.room 1 → addedV s t (if s.line.lineState = .isolated then [s.reportFrame 0x01 [0]] else []))) ∧
    (∀ e, s.line.silence = some e → completes .silenceTimerExpiry s fun t =>
      t.line.lineState = .isolated ∧ t.line.silence = none ∧ t.time = max s.time (2 * e) ∧
      ((s.took .silenceTimerExpiry).handed ++ [Instr.lineIsolatedNotice]).isPrefixOf t.handed = true ∧
      (s.room 1 → addedV s t [(s.reach e).reportFrame 0x01 [1]])) ∧
    (s.line.silence = none → exec .silenceTimerExpiry s = .next (s.took .silenceTimerExpiry))) ∧
  (∀ (s : State), s.steady → completes .lineConnectedNotice s fun t =>
    t.store = { s.store with startList := [] } ∧ t.handed.count .lineConnectedNotice ≤
      s.handed.count .lineConnectedNotice ∧
    (s.room s.store.startList.length → addedV s t (s.store.startList.map fun r =>
      s.reportFrame 0x02 (byteOf (Region.number r) ++ byteOf (RegionState.num (s.region r).header.state) ++
        byteOf (s.region r).header.count ++ be 2 (s.region r).header.check.toNat ++ [2]))))

/-- An offered frame is composed with hop limit 15, zero bits 0, the own address and its check, and answered by the
state of the port: queued or sent at once, answered FULL and, but for a FACE SET, counted, or accepted and LOST; an
idle port V that waits for a restart to be taken queues it (R2, R3, R10 to R13, R17; log 9). A REPLY is such an offer
at port V, of its code, tag, result and data to the centre (R169).

A transmission that completes is SENT or counted as forwarded, and the next frame is selected: the oldest local
frame while fewer than four have gone ahead of a waiting forward frame, else the oldest forward frame. A RESTART's
reply that completes releases the restart before any selection (R11 to R13, R17, R174); that it is the first event
taken, and that port V waits for it, is the model's choice (log 9), as is the record of outcomes (log 8).

The model's own choices in it: logs 8, 9. -/
def Obligations.OffersAreAnsweredAndSent : Prop :=
  (∀ (p : Port) (kind : LocalKind) (dest : Addr) (payload : Bytes) (code tag result : Byte) (s : State), s.steady →
    let c := Instr.frameOffered p kind dest payload
    let u := s.took c
    let q := s.line.port p
    let f : Frame := Frame.sealed
      { dest := dest, hop := 15, zeros := 0, source := s.ownAddress
        kind := (match kind with | .faceSet => 0x08 | .reply => 0x11 | .report => 0x12), payload := payload
        check := 0 }
    let l : LocalFrame := { frame := f, restartReply := false }
    f.check = lineCheck f.body ∧
    (q.up = false → exec c s = .next (u.withLine
      { s.line with answer := some (p, .accepted), outcomes := [{ port := p, frame := f, outcome := .lost }] })) ∧
    (q.up = true → q.localQ.length ≤ 7 → q.busy.isSome = true ∨ (p = .v ∧ s.responder.releasing = true) →
      exec c s = .next (u.withLine
        { s.line.setPort p { q with localQ := q.localQ ++ [l] } with answer := some (p, .accepted) })) ∧
    (q.up = true → q.localQ = [] → q.busy = none → (p = .v → s.responder.releasing = false) →
      (q.forwardQ = [] ∨ q.streak < 4) →
      exec c s = .next ((u.withLine
        { s.line.setPort p
            { q with busy := some (.own l), streak := if q.forwardQ = [] then 0 else q.streak + 1 } with
          answer := some (p, .accepted) }).hand (.spaceSignal p))) ∧
    (q.up = true → 8 ≤ q.localQ.length →
      exec c s = .next (u.withLine
        { s.line.setPort p
            { q with reportLoss := if kind = .faceSet then q.reportLoss else min 65535 (q.reportLoss + 1) } with
          answer := some (p, .full) })) ∧
    (p = .v → kind = .reply → dest = 0 → ∀ data, payload = [code, tag, result] ++ data →
      exec c s = .next (u.reply code tag result data))) ∧
  (∀ (p : Port) (s : State), s.steady →
    let c := Instr.transmissionComplete p
    let q := s.line.port p
    completes c s fun t =>
      let q' := t.line.port p
      t.line.port (opposite p) = s.line.port (opposite p) ∧ t.line.lineState = s.line.lineState ∧
      t.line.silence = s.line.silence ∧ q'.up = q.up ∧
      q'.badFrames = q.badFrames ∧ q'.overflow = q.overflow ∧ q'.reportLoss = q.reportLoss ∧
      (q.busy = none → t = s.took c) ∧
      (∀ l, q.busy = some (.own l) → q'.forwarded = q.forwarded ∧
        t.line.outcomes = [{ port := p, frame := l.frame, outcome := .sent }] ∧
        (l.restartReply = true → p = .v →
          q' = { q with busy := none } ∧ t.responder.releasing = true ∧
          t.handed = .restartTakesEffect :: (s.took c).handed)) ∧
      (∀ f, q.busy = some (.passing f) → q'.forwarded = min 65535 (q.forwarded + 1) ∧
        t.line.outcomes = s.line.outcomes) ∧
      (q.up = true → q.busy ≠ none → (∀ l, q.busy = some (.own l) → l.restartReply = false) →
        (p = .v → s.responder.releasing = false) →
        (q.localQ = [] → q.forwardQ = [] → q'.busy = none ∧ t.handed = (s.took c).handed) ∧
        (∀ l ls, q.localQ = l :: ls → (q.forwardQ = [] ∨ q.streak < 4) →
          q'.busy = some (.own l) ∧ q'.localQ = ls ∧ q'.forwardQ = q.forwardQ ∧
          q'.streak = (if q.forwardQ = [] then 0 else q.streak + 1) ∧
          t.handed = (s.took c).handed ++ [.spaceSignal p]) ∧
        (∀ f fs, q.forwardQ = f :: fs → (q.localQ = [] ∨ 4 ≤ q.streak) →
          q'.busy = some (.passing f) ∧ q'.forwardQ = fs ∧ q'.localQ = q.localQ ∧ q'.streak = 0 ∧
          t.handed = (s.took c).handed)))

/-- RESTART sets the pending flag and is answered DONE with the running time, at once where port V's transmitter is
idle and no restart is to be taken first; while the flag is set it is answered BUSY. At a port V that is DOWN, or
whose queue is full, the reply has ended with its offer and the restart is released at once. The restart, once
released, clears the flag, empties and zeroes both ports, keeps links, line state, timer and transmissions, gives LOST
to every queued local frame, signals space on each UP port and notifies the jobs (R10, R16, R17, R19, R174, R175). The
model's choices are that the restart is taken first (log 9), the record of outcomes (log 8) and the order of the
notices, which R175 leaves open (log 40).

The model's own choices in it: logs 8, 9, 40. -/
def Obligations.RestartIsTakenAndTakesEffect : Prop :=
  ∀ (tag : Byte) (s : State), s.steady →
    (s.ready → s.responder.restartPending = true →
      exec (.restart tag) s = .next ((s.took (.restart tag)).replied 0x4F tag busyResult [])) ∧
    (s.ready → s.responder.restartPending = false →
      exec (.restart tag) s = .next
        (((s.took (.restart tag)).withResponder { s.responder with restartPending := true }).queuedV
          { s.replyFrame 0x4F tag done (be 4 s.now) with restartReply := true })) ∧
    (s.responder.restartPending = true →
      exec (.restart tag) s = .next ((s.took (.restart tag)).reply 0x4F tag busyResult [])) ∧
    (s.responder.restartPending = false →
      let q := s.line.portV
      let r : LocalFrame := { s.replyFrame 0x4F tag done (be 4 s.now) with restartReply := true }
      let pending := (s.took (.restart tag)).withResponder { s.responder with restartPending := true }
      let freed := fun l : LineSwitch => (((s.took (.restart tag)).withLine l).withResponder
        { restartPending := true, releasing := true }).handFirst .restartTakesEffect
      (q.up = false → exec (.restart tag) s = .next (freed
        { s.line with
          answer := some (.v, .accepted)
          outcomes := [{ port := .v, frame := (s.replyFrame 0x4F tag done (be 4 s.now)).frame, outcome := .lost }] })) ∧
      (q.up = true → 8 ≤ q.localQ.length → exec (.restart tag) s = .next (freed
        { s.line with
          answer := some (.v, .full), portV := { q with reportLoss := min 65535 (q.reportLoss + 1) } })) ∧
      (q.up = true → q.localQ.length ≤ 7 → s.responder.releasing = true → exec (.restart tag) s = .next
        (pending.queuedV r)) ∧
      (q.up = true → q.localQ = [] → q.busy = none → s.responder.releasing = false →
        (q.forwardQ = [] ∨ q.streak < 4) → exec (.restart tag) s = .next ((pending.withLine
          { s.line with
            answer := some (.v, .accepted)
            portV := { q with
              busy := some (.own r), streak := if q.forwardQ = [] then 0 else q.streak + 1 } }).hand
          (.spaceSignal .v)))) ∧
    (s.responder.restartPending = false → exec .restartTakesEffect s = .next (s.took .restartTakesEffect)) ∧
    (s.responder.restartPending = true → completes .restartTakesEffect s fun t =>
      t.responder = { restartPending := false, releasing := false } ∧
      (∀ p ∈ [Port.v, .s],
        let q := s.line.port p
        let q' := t.line.port p
        q'.up = q.up ∧ q'.busy = unmarked q.busy ∧ q'.forwardQ = [] ∧ q'.localQ = [] ∧ q'.streak = 0 ∧
        q'.badFrames = 0 ∧ q'.overflow = 0 ∧ q'.reportLoss = 0 ∧ q'.forwarded = 0) ∧
      t.line.lineState = s.line.lineState ∧ t.line.silence = s.line.silence ∧ t.store = s.store ∧
      (s.line.portV.localQ ++ s.line.portS.localQ ≠ [] →
        t.line.outcomes =
          s.line.portV.localQ.map (fun l => { port := .v, frame := l.frame, outcome := .lost }) ++
          s.line.portS.localQ.map (fun l => { port := .s, frame := l.frame, outcome := .lost })) ∧
      t.handed = (s.took .restartTakesEffect).handed ++
        (if s.line.portV.up = true then [.spaceSignal .v] else []) ++
        (if s.line.portS.up = true then [.spaceSignal .s] else []) ++
        [.sampleIntakeRestart, .gradeEvaluatorRestart, .pathMonitorRestart, .signPublisherRestart])

/-- A MANAGE frame acts only from the centre. One for the own address is refused with UNKNOWN REQUEST or BAD LENGTH or
handed to its owner; one to broadcast acts only where it is a SET TIME of the right length (R8, R168, R169).

Each of the 28 request codes, followed by parameters of its length, spells its request; a code's parameters are
of that length only (R168, R169, R177).

A request that reaches its owner before it has started waits behind those that wait already (R169).

A job's start takes the requests that have waited for it, in the order in which they reached it, as if they came
after it; the other requests wait on (R169).

The model's own choices in it: logs 1, 19. -/
def Obligations.RequestsReachTheirOwners : Prop :=
  (∀ (a : Arrival) (code tag : Byte) (ps : Bytes) (s : State), s.steady →
    let c := Instr.manageFrame a
    (a.source ≠ 0 ∨ a.payload.length < 2 → exec c s = .next (s.took c)) ∧
    (a.source = 0 → a.payload = code :: tag :: ps → a.dest = 1023 →
      (code = 0x22 → ps.length = 5 → exec c s = .next ((s.took c).hand
        (.setTime tag true (BitVec.ofNat 16 (field ps 0 2)) (BitVec.ofNat 24 (field ps 2 3))))) ∧
      (code ≠ 0x22 ∨ ps.length ≠ 5 → exec c s = .next (s.took c))) ∧
    (a.source = 0 → a.payload = code :: tag :: ps → a.dest ≠ 1023 →
      (code.toNat ∉ requestCodes →
        exec c s = .next ((s.took c).reply code tag unknownRequestResult [])) ∧
      (∀ n ∈ requestLength code ps,
        (ps.length ≠ n → exec c s = .next ((s.took c).reply code tag badLength [])) ∧
        (ps.length = n → completes c s fun t => ∃ i ∈ requestOf code tag ps, t = (s.took c).hand i))) ∧
    (code.toNat ∉ requestCodes → exec (.unknownRequest code tag) s =
      .next ((s.took (.unknownRequest code tag)).reply code tag unknownRequestResult [])) ∧
    (code.toNat ∈ requestCodes →
      exec (.unknownRequest code tag) s = .next (s.took (.unknownRequest code tag)))) ∧
  (∀ (x : Arrival) (tag a b c d e : Byte) (list : Bytes) (rows : List Bytes) (s : State), s.steady → x.source = 0 →
    x.dest ≠ 1023 →
    let spells := fun (code : Byte) (ps : Bytes) (i : Instr) =>
      let m := Instr.manageFrame { x with payload := code :: tag :: ps }
      exec m s = .next ((s.took m).hand i)
    let word := fun (h l : Byte) => BitVec.ofNat 16 (256 * h.toNat + l.toNat)
    spells 0x01 [a, b] (.openRegion tag a b) ∧
    (rows.length = c.toNat → (∀ row ∈ rows, row.length = 32) →
      spells 0x02 (a :: b :: c :: rows.flatten) (.writeRows tag a b c rows)) ∧
    spells 0x03 [a, b, c] (.readRows tag a b c) ∧ spells 0x04 [a] (.blankCheck tag a) ∧
    spells 0x05 [a, b, c] (.activateRegion tag a (word b c)) ∧ spells 0x06 [a] (.clearRegion tag a) ∧
    spells 0x07 [] (.clearAll tag) ∧ spells 0x08 [a, b, c] (.siteWrite tag a (word b c)) ∧
    spells 0x09 [] (.siteRead tag) ∧ spells 0x10 [a, b] (.holdGrade tag a b) ∧
    spells 0x18 [a] (.confirmPath tag a) ∧ spells 0x19 [a] (.declinePath tag a) ∧
    spells 0x1A [a] (.clearPath tag a) ∧ spells 0x20 [a, b] (.closeSegment tag a b) ∧
    spells 0x21 [a] (.releaseSegment tag a) ∧
    spells 0x22 [a, b, c, d, e]
      (.setTime tag false (word a b) (BitVec.ofNat 24 (65536 * c.toNat + 256 * d.toNat + e.toNat))) ∧
    spells 0x28 [a] (.gateStop tag a) ∧ spells 0x29 [a] (.gateResume tag a) ∧
    spells 0x30 [a, b] (.setBudget tag (word a b)) ∧ spells 0x38 [a, b, c, d] (.forceFace tag a b (word c d)) ∧
    (list.length = a.toNat → spells 0x39 (a :: list) (.signSweep tag list)) ∧
    spells 0x40 [] (.sectionStatus tag) ∧ spells 0x41 [a] (.channelQuery tag a) ∧
    spells 0x42 [a, b] (.segmentQuery tag a b) ∧ spells 0x43 [a] (.pathQuery tag a) ∧
    spells 0x44 [a] (.gateQuery tag a) ∧ spells 0x45 [a] (.signQuery tag a) ∧ spells 0x4F [] (.restart tag) ∧
    (∀ n ∈ [(0x01, 2), (0x03, 3), (0x04, 1), (0x05, 3), (0x06, 1), (0x07, 0), (0x08, 3), (0x09, 0), (0x10, 2),
        (0x18, 1), (0x19, 1), (0x1A, 1), (0x20, 2), (0x21, 1), (0x22, 5), (0x28, 1), (0x29, 1), (0x30, 2), (0x38, 4),
        (0x40, 0), (0x41, 1), (0x42, 2), (0x43, 1), (0x44, 1), (0x45, 1), (0x4F, 0)],
      requestLength n.1 list = some n.2) ∧
    requestLength 0x02 list = some (3 + 32 * (list.getD 2 0).toNat) ∧
    requestLength 0x39 list = some (1 + (list.getD 0 0).toNat)) ∧
  (∀ (tag x y : Byte) (w : BitVec 16) (second : BitVec 24) (heard : Bool) (l : List Byte) (s : State), s.steady →
    let waits := fun (c : Instr) => exec c s = .next ((s.took c).withWaiting (s.waiting ++ [c]))
    (s.grader.started = false → waits (.holdGrade tag x y)) ∧
    (s.monitor.started = false → waits (.confirmPath tag x) ∧ waits (.declinePath tag x) ∧ waits (.clearPath tag x)) ∧
    (s.sequencer.started = false → waits (.closeSegment tag x y) ∧ waits (.releaseSegment tag x) ∧
      waits (.setTime tag heard w second)) ∧
    (s.drives.started = false → waits (.gateStop tag x) ∧ waits (.gateResume tag x)) ∧
    (s.allocator.started = false → waits (.setBudget tag w)) ∧
    (s.publisher.started = false → waits (.forceFace tag x y w) ∧ waits (.signSweep tag l))) ∧
  (∀ (s : State), s.steady →
    ∀ c ∈ [Instr.gradeEvaluatorStart, .pathMonitorStart, .gateDriveStart, .closureSequencerStart,
        .budgetAllocatorStart, .signPublisherStart],
      let own := s.waiting.filter fun x => waitsFor x == some c
      (∀ x ∈ own, x ∉ s.handed) →
        exec c s = runsAll own (exec c (s.withWaiting (s.waiting.filter fun x => waitsFor x != some c))))

/-! ### The table store -/

/-- OPEN REGION: only an EMPTY region is opened, only with a count of 1 to its capacity (R22, R23). -/
def Obligations.OpenRegionTakesAnEmptyRegion : Prop :=
  ∀ (tag region count : Byte) (s : State), s.steady → s.store.clearing = none →
    let c := Instr.openRegion tag region count
    (6 < region.toNat → exec c s = .next ((s.took c).reply 0x01 tag badArgument [])) ∧
    ∀ r ∈ regionOrder, region.toNat = Region.number r →
      ((s.region r).header.state ≠ .empty → exec c s = .next ((s.took c).reply 0x01 tag wrongState [])) ∧
      ((s.region r).header.state = .empty → count.toNat = 0 ∨ Region.capacity r < count.toNat →
        exec c s = .next ((s.took c).reply 0x01 tag badArgument [])) ∧
      ((s.region r).header.state = .empty → 1 ≤ count.toNat → count.toNat ≤ Region.capacity r →
        exec c s = .next (((s.took c).withRegion r
          { s.region r with header := { state := .opened, count := count.toNat, check := 0 } }).reply
            0x01 tag done []))

/-- WRITE ROWS writes its rows in order up to the first whose target lies at or above the declared count or is not
blank, keeps those before it, and answers with the reason, the failing index and the number left; every other row, the
header and the other regions stay as they are (R22, R24). -/
def Obligations.WriteRowsStopsAtTheFirstRowThatFails : Prop :=
  ∀ (tag region first count : Byte) (rows : List Bytes) (s : State), s.steady → s.store.clearing = none →
    rowsOk count rows = true →
    let c := Instr.writeRows tag region first count rows
    (6 < region.toNat → exec c s = .next ((s.took c).reply 0x02 tag badArgument [])) ∧
    ∀ r ∈ regionOrder, region.toNat = Region.number r →
      let x := s.region r
      (x.header.state ≠ .opened → exec c s = .next ((s.took c).reply 0x02 tag wrongState [])) ∧
      (x.header.state = .opened → count.toNat = 0 ∨ 3 < count.toNat →
        exec c s = .next ((s.took c).reply 0x02 tag badArgument [])) ∧
      (x.header.state = .opened → 1 ≤ count.toNat → count.toNat ≤ 3 →
        ∀ k, k < 4 → k ≤ count.toNat →
          (∀ i, i < k → first.toNat + i < x.header.count ∧ readRow x.rows (first.toNat + i) = blankRow) →
          (k < count.toNat → x.header.count ≤ first.toNat + k ∨ readRow x.rows (first.toNat + k) ≠ blankRow) →
          completes c s fun t =>
            (t.region r).header = x.header ∧
            (∀ i, i < k → readRow (t.region r).rows (first.toNat + i) = rows.getD i []) ∧
            (∀ i, i < 256 → i < first.toNat ∨ first.toNat + k ≤ i →
              readRow (t.region r).rows i = readRow x.rows i) ∧
            (∀ q ∈ regionOrder, q ≠ r → t.region q = s.region q) ∧ t.store.site = s.store.site ∧
            t.line = ((s.took c).reply 0x02 tag
              (if k = count.toNat then done
                else if x.header.count ≤ first.toNat + k then badArgument else notBlank)
              (if k = count.toNat then [0] else byteOf (first.toNat + k) ++ byteOf (count.toNat - k))).line)

/-- READ ROWS answers a range within the capacity with the region's state, its declared count and the rows as stored,
in every state, and changes nothing (R22, R25). The one-byte count before the rows follows R178 and is the model's
reading (log 23).

BLANK CHECK finds the lowest row of the whole capacity that is not blank, and changes nothing (R22, R26).

SITE READ answers the eight fields in order and changes nothing (R39).

The model's own choices in it: log 23. -/
def Obligations.RowsAndFieldsReadBackAsStored : Prop :=
  (∀ (tag region first count : Byte) (s : State), s.steady → s.store.clearing = none →
    let c := Instr.readRows tag region first count
    (6 < region.toNat → exec c s = .next ((s.took c).reply 0x03 tag badArgument [])) ∧
    ∀ r ∈ regionOrder, region.toNat = Region.number r →
      (count.toNat = 0 ∨ 3 < count.toNat ∨ Region.capacity r < first.toNat + count.toNat →
        exec c s = .next ((s.took c).reply 0x03 tag badArgument [])) ∧
      (1 ≤ count.toNat → count.toNat ≤ 3 → first.toNat + count.toNat ≤ Region.capacity r →
        exec c s = .next ((s.took c).reply 0x03 tag done
          (byteOf (RegionState.num (s.region r).header.state) ++ byteOf (s.region r).header.count ++ [count] ++
            readRow (s.region r).rows first.toNat ++
            (if 2 ≤ count.toNat then readRow (s.region r).rows (first.toNat + 1) else []) ++
            (if 3 ≤ count.toNat then readRow (s.region r).rows (first.toNat + 2) else []))))) ∧
  (∀ (tag region : Byte) (s : State), s.steady → s.store.clearing = none →
    let c := Instr.blankCheck tag region
    (6 < region.toNat → exec c s = .next ((s.took c).reply 0x04 tag badArgument [])) ∧
    ∀ r ∈ regionOrder, region.toNat = Region.number r →
      ((∀ i, i < Region.capacity r → readRow (s.region r).rows i = blankRow) →
        exec c s = .next ((s.took c).reply 0x04 tag done [])) ∧
      (∀ i, i < Region.capacity r → readRow (s.region r).rows i ≠ blankRow →
        (∀ j, j < i → readRow (s.region r).rows j = blankRow) →
        exec c s = .next ((s.took c).reply 0x04 tag notBlank (byteOf i)))) ∧
  (∀ (tag : Byte) (s : State), s.steady → s.store.clearing = none →
    let r := s.store.site
    exec (.siteRead tag) s = .next ((s.took (.siteRead tag)).reply 0x09 tag done
      (be 2 r.nodeAddress.toNat ++ be 2 r.sectionNumber.toNat ++ be 2 r.silenceLimit.toNat ++
        be 2 r.baseDraw.toNat ++ be 2 r.defaultBudget.toNat ++ be 2 r.lightChannel.toNat ++
        be 2 r.lightStep.toNat ++ be 2 r.startupGrade.toNat)))

/-- ACTIVATE REGION: the check over the declared rows, then the first row that is not valid, then the first that
conflicts with one before it, each refused with its data; otherwise the region is ACTIVE with that check, the jobs are
notified, and the REPLY goes out before the REGION STATE report (R20, R22, R27 to R30, R42). The order of the notices is
the model's choice (log 40).

Which present rows are valid: every field within the values its layout allows, and the conditions beside the fields
(R28, R179). Fields that refer into another region are tested against their range only, spare bytes not at all.

Which row conflicts with the rows before it: a CHANNELS row of the same station and channel as one of them, a SIGNS
row of the same line address, a PATHS row with a slot that names a local input otherwise than an earlier slot does; rows
of the other regions never (R29).

The model's own choices in it: logs 7, 40. -/
def Obligations.ActivateRegionPassesThreeStages : Prop :=
  (∀ (tag region : Byte) (check : BitVec 16) (s : State), s.steady → s.store.clearing = none →
    let c := Instr.activateRegion tag region check
    (6 < region.toNat → exec c s = .next ((s.took c).reply 0x05 tag badArgument [])) ∧
    ∀ r ∈ regionOrder, region.toNat = Region.number r →
      let x := s.region r
      let n := x.header.count
      let sum := ((List.range n).flatMap fun i => (readRow x.rows i).map BitVec.toNat).sum
      let present := fun i : Nat => readRow x.rows i ≠ blankRow
      let notices : List Instr := match r with
        | .channels => [.channelsIntoService, .graderChannelsNotice true, .budgetRegionNotice .channels true]
        | .gradeRules => [.gradeRulesIntoService]
        | .segments => [.graderSegmentsIntoService, .segmentsIntoService, .signerSegmentsNotice true,
            .budgetRegionNotice .segments true]
        | .paths => [.pathsIntoService]
        | .schedule => [.scheduleIntoService]
        | .signs => [.signsIntoService, .budgetRegionNotice .signs true]
        | .gates => [.gatesIntoService, .budgetRegionNotice .gates true]
      let before := fun i : Nat => ((List.range i).map (readRow x.rows)).filter fun row => row != blankRow
      (x.header.state ≠ .opened → exec c s = .next ((s.took c).reply 0x05 tag wrongState [])) ∧
      (x.header.state = .opened → sum % 65536 ≠ check.toNat →
        exec c s = .next ((s.took c).reply 0x05 tag checkMismatch (be 2 sum))) ∧
      (x.header.state = .opened → sum % 65536 = check.toNat →
        (∀ i, i < n → present i → rowValid r (readRow x.rows i) = false →
          (∀ j, j < i → present j → rowValid r (readRow x.rows j) = true) →
          exec c s = .next ((s.took c).reply 0x05 tag invalidRow (byteOf i))) ∧
        ((∀ i, i < n → present i → rowValid r (readRow x.rows i) = true) →
          (∀ i, i < n → present i → rowConflict r (before i) (readRow x.rows i) = true →
            (∀ j, j < i → present j → rowConflict r (before j) (readRow x.rows j) = false) →
            exec c s = .next ((s.took c).reply 0x05 tag invalidRow (byteOf i))) ∧
          ((∀ i, i < n → present i → rowConflict r (before i) (readRow x.rows i) = false) →
            completes c s fun t =>
              t.region r = { header := { state := .active, count := n, check := check }, rows := x.rows } ∧
              (∀ q ∈ regionOrder, q ≠ r → t.region q = s.region q) ∧
              t.besideSpace = (s.took c).besideSpace ++ notices ∧
              (s.room 1 → t.handed = (s.took c).handed ++ notices) ∧
              (s.room 2 → addedV s t
                [s.replyFrame 0x05 tag done [],
                  s.reportFrame 0x02 (byteOf (Region.number r) ++ [2] ++ byteOf n ++ be 2 check.toNat ++ [0])]))))) ∧
  (∀ (row : Bytes), row.length = 32 →
    let b := fun i : Nat => (row.getD i 0).toNat
    let w := fun i : Nat => 256 * b i + b (i + 1)
    let w3 := fun i : Nat => 65536 * b i + w (i + 1)
    let signed : Int := if w 4 < 32768 then w 4 else (w 4 : Int) - 65536
    let slot := fun j : Nat =>
      let kind := w (10 + 5 * j) / 16384
      let low := w (10 + 5 * j) % 1024
      let mode := b (13 + 5 * j)
      let dead := b (14 + 5 * j)
      w (10 + 5 * j) / 1024 % 16 = 0 ∧ mode ≤ 3 ∧
        ((kind = 0 ∧ dead = 0) ∨ (kind = 1 ∧ low ≤ 11 ∧ (mode ≤ 1 ∨ dead = 0)) ∨
          (kind = 2 ∧ 1 ≤ low ∧ low ≤ 1022 ∧ dead = 0))
    (rowValid .channels row = true ↔ 1 ≤ w 0 ∧ w 0 ≤ 1022 ∧ b 2 ≤ 15 ∧ b 3 ≤ 8 ∧ w 4 ≤ w 6 ∧ b 16 ≤ 7 ∧ 1 ≤ w 17 ∧
      w 17 ≤ 3600) ∧
    (rowValid .gradeRules row = true ↔ b 0 ≠ 0 ∧ b 1 ≤ 63 ∧ b 2 ≤ 1 ∧ b 3 ≤ 1 ∧ -32000 ≤ signed ∧ signed ≤ 32000 ∧
      w 6 ≤ 1000 ∧ 1 ≤ b 8 ∧ b 8 ≤ 5 ∧ b 9 ≤ 2) ∧
    (rowValid .segments row = true ↔ w 0 ≤ 1800 ∧ b 2 ≤ 120 ∧ w 3 ≤ 600 ∧ 60 ≤ w 5 ∧ w 5 ≤ 7200 ∧ 1 ≤ b 7 ∧ b 7 ≤ 5 ∧
      b 8 ≤ 1) ∧
    (rowValid .paths row = true ↔ 1 ≤ b 1 ∧ b 1 ≤ 16 ∧ b 1 ≤ b 2 ∧ b 2 ≤ 16 ∧ 10 ≤ w 3 ∧ w 3 ≤ 3600 ∧ b 5 ≤ 2 ∧
      30 ≤ w 6 ∧ w 6 ≤ 900 ∧ 60 ≤ w 8 ∧ w 8 ≤ 3600 ∧ slot 0 ∧ slot 1 ∧ slot 2 ∧ slot 3) ∧
    (rowValid .schedule row = true ↔ b 1 ≤ 127 ∧ w3 2 ≤ 86399 ∧ w3 5 ≤ 86399 ∧ w 8 ≤ w 10) ∧
    (rowValid .signs row = true ↔ 1 ≤ w 0 ∧ w 0 ≤ 1022 ∧ b 2 ≤ 1 ∧ b 3 ≤ 7 ∧ b 4 ≤ 1 ∧ w 13 ≤ w 15 ∧ w 15 ≤ 4000 ∧
      60 ≤ w 17 ∧ w 17 ≤ 3600) ∧
    (rowValid .gates row = true ↔ b 0 ≤ 7 ∧ 100 ≤ w 1 ∧ w 1 ≤ 60000 ∧ 1 ≤ w 3 ∧ w 3 ≤ 2000 ∧ 2 * w 3 < w 1 ∧ b 5 ≤ 1 ∧
      w 6 ≤ 4000 ∧ b 8 ≤ 50 ∧ b 9 ≤ 50 ∧ 5 ≤ b 10 ∧ b 10 ≤ 50 ∧ 2 ≤ b 11 ∧ b 11 ≤ 50 ∧ 5 ≤ w 12 ∧ w 12 ≤ 300 ∧
      1 ≤ b 14 ∧ b 14 ≤ 60 ∧ 10 ≤ w 15 ∧ w 15 ≤ 600 ∧ 60 ≤ w 17 ∧ w 17 ≤ 3600 ∧ b 19 ≤ 1)) ∧
  (∀ (earlier : List Bytes) (row : Bytes), (∀ q ∈ row :: earlier, q.length = 32) →
    let b := fun (q : Bytes) (i : Nat) => (q.getD i 0).toNat
    let word := fun (q : Bytes) (j : Nat) => 256 * b q (10 + 5 * j) + b q (11 + 5 * j)
    let differ := fun (p : Bytes) (i : Nat) (q : Bytes) (j : Nat) =>
      word p i / 16384 = 1 ∧ word q j / 16384 = 1 ∧ word p i % 1024 = word q j % 1024 ∧
        (b p (13 + 5 * i) ≠ b q (13 + 5 * j) ∨ b p (14 + 5 * i) ≠ b q (14 + 5 * j))
    (rowConflict .channels earlier row = true ↔ ∃ q ∈ earlier, q.take 3 = row.take 3) ∧
    (rowConflict .signs earlier row = true ↔ ∃ q ∈ earlier, q.take 2 = row.take 2) ∧
    ((∀ q ∈ row :: earlier, rowValid .paths q = true) →
      (rowConflict .paths earlier row = true ↔ ∃ j, j < 4 ∧
        ((∃ q ∈ earlier, ∃ i, i < 4 ∧ differ q i row j) ∨ ∃ i, i < j ∧ differ row i row j))) ∧
    ∀ r ∈ [Region.gradeRules, .segments, .schedule, .gates], rowConflict r earlier row = false)

/-- CLEAR REGION: refused with the region's number while a segment of an ACTIVE SEGMENTS is not OPEN, or a gate of an
ACTIVE GATES holds an admission; otherwise the header is EMPTY and every row blank, the region leaves the start-up
list, the jobs of an ACTIVE one are told, and REPLY and report go out, behind the reports of a conversion (R20, R22,
R31, R32, R34, R41, R42). The order of the notices is the model's choice (log 40).

CLEAR ALL: refused whole, with the first blocked region's number, while an interlock holds. Otherwise it clears the
regions in region order, one in each of its steps, so that other events come between: the further steps are what an
empty queue does with nothing handed on (the model's choice, log 29). A region found blocked at its own clear ends it
with WRONG STATE, that region and those behind it as they are; at the seventh clear it ends with DONE. REPLY and the
reports of the regions cleared go out at the end. Meanwhile every other table request waits, a further CLEAR ALL too,
whatever its tag (R22, R31 to R33, R37, R42).

The step that ends a CLEAR ALL takes the table requests that have waited for its end, a further CLEAR ALL among
them, in the order in which they reached the Table Store, as if they came after it; those behind a CLEAR ALL that then
begins wait for its end, and the other requests wait on (R22, R33, R169).

The clear of an ACTIVE PATHS or SCHEDULE turns the claims of its sources into one CENTRE claim a segment: urgent
where it was or where one of them was, placed at its own time or, where there was none, at the earliest of theirs. The
closure state, the timers and the other claims stay, a NOTICE computes its time parameter afresh, and a segment without
such claims stays whole. The SEGMENT reports
of the conversion go out before the REPLY (R34, R109, R115, R176).

The model's own choices in it: logs 7, 20, 26, 29, 30, 40, 42. -/
def Obligations.ClearsEmptyRegionsAndConvertClaims : Prop :=
  (∀ (tag region : Byte) (s : State), s.steady → s.store.clearing = none →
    let c := Instr.clearRegion tag region
    (6 < region.toNat → exec c s = .next ((s.took c).reply 0x06 tag badArgument [])) ∧
    ∀ r ∈ regionOrder, region.toNat = Region.number r →
      let blocked := s.active r = true ∧
        ((r = .segments ∧ ∃ e ∈ s.sequencer.segments, e.2.state ≠ .opened) ∨
          (r = .gates ∧ ∃ e ∈ s.drives.gates, e.2.admission = .held))
      let notices : List Instr := match r with
        | .channels => [.channelsOutOfService, .graderChannelsNotice false, .budgetRegionNotice .channels false]
        | .gradeRules => [.gradeRulesOutOfService]
        | .segments => [.graderSegmentsOutOfService, .segmentsOutOfService, .segmentReferenceAbsent,
            .signerSegmentsNotice false, .budgetRegionNotice .segments false]
        | .paths => [.pathsOutOfService]
        | .schedule => []
        | .signs => [.signsOutOfService, .budgetRegionNotice .signs false]
        | .gates => [.gatesOutOfService, .sequencerGatesOutOfService, .budgetRegionNotice .gates false]
      let converts := s.active r = true ∧ r ∈ [.paths, .schedule]
      (blocked → exec c s = .next ((s.took c).reply 0x06 tag wrongState (byteOf (Region.number r)))) ∧
      (¬ blocked → completes c s fun t =>
        t.region r = { header := { state := .empty, count := 0, check := 0 }, rows := [] } ∧
        (∀ i, i < Region.capacity r → readRow (t.region r).rows i = blankRow) ∧
        (∀ q ∈ regionOrder, q ≠ r → t.region q = s.region q) ∧ t.store.site = s.store.site ∧
        t.store.startList = s.store.startList.filter (fun q => q != r) ∧
        (s.active r = false → t.besideSpace = (s.took c).besideSpace ∧
          (s.room 1 → t.handed = (s.took c).handed)) ∧
        (s.active r = true → ∀ e ∈ notices, e ∈ t.handed) ∧
        (s.active r = true → ¬ converts → t.besideSpace = (s.took c).besideSpace ++ notices ∧
          (s.room 1 → t.handed = (s.took c).handed ++ notices)) ∧
        (¬ converts → t.sequencer = s.sequencer ∧ (s.room 1 → leadsV s t (s.replyFrame 0x06 tag done [])) ∧
          (s.room 2 → addedV s t
            [s.replyFrame 0x06 tag done [],
              s.reportFrame 0x02 (byteOf (Region.number r) ++ [0, 0, 0, 0, 1])])))) ∧
  (∀ (tag : Byte) (d : Instr) (s : State), s.steady →
    let c := Instr.clearAll tag
    let blocked := fun r : Region => s.active r = true ∧
      ((r = .segments ∧ ∃ e ∈ s.sequencer.segments, e.2.state ≠ .opened) ∨
        (r = .gates ∧ ∃ e ∈ s.drives.gates, e.2.admission = .held))
    let clears := fun (t : State) (r : Region) =>
      t.region r = { header := { state := .empty, count := 0, check := 0 }, rows := [] } ∧
      (∀ q ∈ regionOrder, q ≠ r → t.region q = s.region q) ∧ t.store.site = s.store.site ∧
      t.store.startList = s.store.startList.filter (fun q => q != r)
    let notices : Region → List Instr := fun r => if s.active r = false then [] else match r with
      | .channels => [.channelsOutOfService, .graderChannelsNotice false, .budgetRegionNotice .channels false]
      | .gradeRules => [.gradeRulesOutOfService]
      | .segments => [.graderSegmentsOutOfService, .segmentsOutOfService, .segmentReferenceAbsent,
          .signerSegmentsNotice false, .budgetRegionNotice .segments false]
      | .paths => [.pathsOutOfService]
      | .schedule => []
      | .signs => [.signsOutOfService, .budgetRegionNotice .signs false]
      | .gates => [.gatesOutOfService, .sequencerGatesOutOfService, .budgetRegionNotice .gates false]
    let converts := fun r : Region => s.active r = true ∧ r ∈ [.paths, .schedule]
    let report := fun r : Region => s.reportFrame 0x02 (byteOf (Region.number r) ++ [0, 0, 0, 0, 1])
    (s.store.clearing = none →
      (blocked .segments → exec c s = .next ((s.took c).reply 0x07 tag wrongState [2])) ∧
      (¬ blocked .segments → blocked .gates → exec c s = .next ((s.took c).reply 0x07 tag wrongState [6])) ∧
      (¬ blocked .segments → ¬ blocked .gates → completes c s fun t =>
        clears t .channels ∧ t.store.clearing = some { tag := tag, cleared := 1 } ∧ t.line = s.line ∧
        t.handed = (s.took c).handed ++ notices .channels)) ∧
    ∀ run ∈ s.store.clearing,
      (waitsForClearAll d = true → exec d s = .next ((s.took d).withWaiting (s.waiting ++ [d]))) ∧
      (s.pending = [] → s.handed = [] → ∀ r ∈ regionOrder[run.cleared]?,
        (∀ q ∈ regionOrder.take run.cleared, (s.region q).header = { state := .empty, count := 0, check := 0 }) →
        let unasked := ∀ x ∈ s.waiting, waitsForClearAll x = false
        ∃ t, step s = .next t ∧ leavesOthers .storeAndJobs s t ∧
          (blocked r → unasked →
            t.store = { s.store with clearing := none } ∧ t.besideSpace = [] ∧ (s.room 1 → t.handed = []) ∧
            (s.room (run.cleared + 1) → addedV s t
              (s.replyFrame 0x07 run.tag wrongState (byteOf (Region.number r)) ::
                (regionOrder.take run.cleared).map report))) ∧
          (¬ blocked r → run.cleared ≤ 5 →
            clears t r ∧ t.store.clearing = some { run with cleared := run.cleared + 1 } ∧ t.waiting = s.waiting ∧
            (∀ e ∈ notices r, e ∈ t.handed) ∧ (¬ converts r → t.line = s.line ∧ t.handed = notices r)) ∧
          (¬ blocked r → run.cleared = 6 → unasked →
            clears t .gates ∧ t.store.clearing = none ∧ t.besideSpace = notices .gates ∧
            (s.room 1 → t.handed = notices .gates) ∧
            (s.room 8 → addedV s t (s.replyFrame 0x07 run.tag done [] :: regionOrder.map report))))) ∧
  (∀ (s : State), s.steady → s.pending = [] → s.handed = [] → ∀ run ∈ s.store.clearing,
    run.cleared = 6 ∨ (∃ r ∈ regionOrder[run.cleared]?, s.interlocked r = true) →
    step s = runsAll (s.waiting.filter waitsForClearAll)
      (step (s.withWaiting (s.waiting.filter fun x => !waitsForClearAll x)))) ∧
  (∀ (tag : Byte) (s : State), s.steady → s.store.clearing = none → s.active .segments = true → SegmentsOk s →
    (∀ c ∈ s.handed, isPathClaim c = false) →
    ∀ k ∈ [(Region.paths, (3 : Byte), 3, 18), (.schedule, 4, 19, 50)], s.active k.1 = true →
      completes (.clearRegion tag k.2.1) s fun t =>
        let frames := ((List.range 8).flatMap fun g =>
            match s.segment g, t.segment g with
            | some x, some y => s.segmentReports g x y 7
            | _, _ => []) ++
          [s.replyFrame 0x06 tag done [], s.reportFrame 0x02 (k.2.1 :: [0, 0, 0, 0, 1])]
        (s.room frames.length → addedV s t frames) ∧
        ∀ g, g < 8 → ∀ x ∈ s.segment g, ∀ y ∈ t.segment g,
          let mine := fun i : Nat => k.2.2.1 ≤ i ∧ i ≤ k.2.2.2
          y.state = x.state ∧ y.lead = x.lead ∧ y.grace = x.grace ∧ y.urgent = x.urgent ∧
          (y.parameter ≠ x.parameter → x.state = .notice ∧
            Instr.segmentNotice g .notice y.parameter ∈ t.handed) ∧
          (∀ i, i < 51 → 1 ≤ i → mapGet y.claims i = if mine i then none else mapGet x.claims i) ∧
          ((∀ i, i < 51 → mine i → mapGet x.claims i = none) → y = x) ∧
          (x.state = .notice → (∃ i, i < 51 ∧ mine i ∧ (mapGet x.claims i).isSome = true) →
            ∀ seg ∈ s.segmentRow g, parameterSays t seg y) ∧
          (∀ i, i < 51 → mine i → ∀ a ∈ mapGet x.claims i, ∃ b ∈ mapGet y.claims 0,
            (a.urgent = true → b.urgent = true) ∧
            (∀ z ∈ mapGet x.claims 0, b.placed = z.placed ∧ (z.urgent = true → b.urgent = true)) ∧
            (mapGet x.claims 0 = none → b.placed ≤ a.placed ∧
              ∃ e ∈ x.claims, mine e.1 ∧ e.2.placed = b.placed) ∧
            (b.urgent = true → ∃ e ∈ x.claims, (mine e.1 ∨ e.1 = 0) ∧ e.2.urgent = true)))

/-- SITE WRITE stores the value clamped into its field's range, a light channel above 63 as none, and answers with the
field and the value stored, from the old address; the other fields stay. A new base draw, light channel or light step
acts at the Allocator once it has started (R37, R38, R141, R144).

The model's own choices in it: log 46. -/
def Obligations.SiteWriteClampsTheValue : Prop :=
  ∀ (tag field : Byte) (value : BitVec 16) (s : State), s.steady → s.store.clearing = none →
    let c := Instr.siteWrite tag field value
    (7 < field.toNat → exec c s = .next ((s.took c).reply 0x08 tag badArgument [])) ∧
    ∀ f ∈ siteFields, field.toNat = SiteField.code f → completes c s fun t =>
      (f ≠ .lightChannel →
        (t.store.site.get f).toNat = max (SiteField.range f).1 (min value.toNat (SiteField.range f).2)) ∧
      (f = .lightChannel → t.store.site.get f = if value.toNat ≤ 63 then value else 0xFFFF) ∧
      (∀ g ∈ siteFields, g ≠ f → t.store.site.get g = s.store.site.get g) ∧
      t.store.regions = s.store.regions ∧ t.allocator.budget = s.allocator.budget ∧
      (s.room 1 → leadsV s t (s.replyFrame 0x08 tag done (field :: be 2 (t.store.site.get f).toNat))) ∧
      (f ∉ [.baseDraw, .lightChannel, .lightStep] →
        t.allocator = s.allocator ∧ t.besideSpace = (s.took c).besideSpace ∧
        t.line = ((s.took c).reply 0x08 tag done (field :: be 2 (t.store.site.get f).toNat)).line ∧
        (s.room 1 → t.handed = (s.took c).handed)) ∧
      (f = .baseDraw → s.allocator.started = true → t.allocator.figures = t.freshFigures) ∧
      (f ∈ [.lightChannel, .lightStep] → s.allocator.started = true → t.allocator.requested = t.freshRequested)

/-! ### Channels and grades -/

/-- A SAMPLE frame acts, entry by entry, only at a started Sample Intake with CHANNELS ACTIVE, with 1 to 8 entries and
the length they call for. For a channel its first matching entry alone counts, and only under a new sequence: a bad
entry lengthens the fault run and makes FAULT at the third in a row, a good one converts, smooths, and goes into the
ring; a good entry and every change of status are handed to the Grade Evaluator, a change of the light channel to the
Budget Allocator, and a change of status is reported, entry by entry (R46 to R50, R52 to R54, R57 to R59). Once
CHANNELS is cleared no entry is taken, although the notice still waits (the model's choice, log 42).

The model's own choices in it: log 42. -/
def Obligations.SampleEntriesAreTakenOnce : Prop :=
  ∀ (a : Arrival) (s : State), s.steady → ChannelsOk s →
    let c := Instr.sampleFrame a
    let n := field a.payload 1 1
    let seq := byteAt a.payload 0
    let ignored := s.intake.started = false ∨ s.intake.inService = false ∨ s.active .channels = false ∨
      .channelsOutOfService ∈ s.handed ∨
      n = 0 ∨ 8 < n ∨ a.payload.length ≠ 2 + 4 * n
    (ignored → exec c s = .next (s.took c)) ∧
    (¬ ignored →
      (∀ i, i < 64 → ∀ j, j < 64 → ∀ x ∈ s.channelRow i, ∀ y ∈ s.channelRow j,
        x.station = y.station → x.stationChannel = y.stationChannel → i = j) →
      let entries := fun row : ChannelRow => (List.range n).filter fun i =>
        row.station == a.source.toNat && row.stationChannel == field a.payload (2 + 4 * i) 1
      completes c s fun t =>
        let reports := (List.range n).flatMap fun i => (List.range 64).flatMap fun ch =>
            match s.channelRow ch, mapGet s.intake.channels ch, mapGet t.intake.channels ch with
            | some row, some r, some r' =>
              if (entries row).head? = some i then t.channelReports ch row.kind r r' else []
            | _, _, _ => []
        (s.room reports.length → addedV s t reports) ∧
        ∀ ch, ch < 64 → ∀ r ∈ mapGet s.intake.channels ch, ∀ row ∈ s.channelRow ch,
          ∃ r' ∈ mapGet t.intake.channels ch,
            let mine := entries row
            (mine = [] ∨ r.lastSeq = some seq → r' = r) ∧
            (∀ i ∈ mine.head?, r.lastSeq ≠ some seq →
              let raw := field a.payload (4 + 4 * i) 2
              let bad := byteAt a.payload (3 + 4 * i) ≠ 0 ∨ raw < row.rawLow ∨ row.rawHigh < raw
              let v := convert row.slope row.offset raw
              r'.lastSeq = some seq ∧ r'.lastRaw = some (BitVec.ofNat 16 raw) ∧
              (bad → r'.faultRun = min 255 (r.faultRun + 1) ∧ r'.value = r.value ∧ r'.filtered = r.filtered ∧
                r'.saturated = r.saturated ∧
                (r.status ≠ .fault → 3 ≤ r'.faultRun → r'.status = .fault ∧ r'.ring = [] ∧ r'.age = none) ∧
                (r.status = .fault ∨ r'.faultRun < 3 →
                  r'.status = r.status ∧ r'.ring = r.ring ∧ r'.age = r.age)) ∧
              (¬ bad → r'.status = .live ∧ r'.faultRun = 0 ∧ r'.value = v.1 ∧ r'.saturated = v.2 ∧
                r'.filtered = (if r.status = .live then smooth row.shift r.filtered v.1 else v.1) ∧
                r'.ring = (if r.ring.length < 8 then r.ring else r.ring.drop 1) ++ [v.1] ∧
                r'.age = some (s.now + 10 * row.maxAge)) ∧
              (¬ bad ∨ r'.status ≠ r.status →
                Instr.channelUpdate { channel := ch, status := r'.status, value := r'.value, filtered := r'.filtered
                                      rise := riseOf r'.ring } ∈ t.handed) ∧
              (s.store.site.light = some ch → (s.reference .channels ch).isSome = true →
                r'.status ≠ r.status ∨ r'.filtered ≠ r.filtered →
                Instr.lightChannelChange ch r'.status r'.filtered ∈ t.handed)))

/-- A LIVE channel whose age timer runs out becomes STALE: its ring emptied, its values held, the update handed on and
the report sent; no other channel changes (R56 to R58).

CHANNELS entering service gives every present row a record that is NEVER, with nothing handed on; leaving service
and the restart hand an update to NEVER for every channel that was not, and the light channel's change, the one
forgetting the records, the other building them again (R45, R60 to R62). The order, by channel index, is the model's
choice (log 51). A notice of a region that has been cleared since changes nothing (R35).

The model's own choices in it: logs 3, 7, 51, 54, 55. -/
def Obligations.ChannelsComeGoAndGoStale : Prop :=
  (∀ (ch : Nat) (s : State), s.steady →
    let c := Instr.ageTimerExpiry ch
    ((mapGet s.intake.channels ch).bind ChannelRec.age = none → exec c s = .next (s.took c)) ∧
    ∀ r ∈ mapGet s.intake.channels ch, ∀ e, r.age = some e → completes c s fun t =>
      t.time = max s.time (2 * e) ∧
      mapGet t.intake.channels ch = some { r with status := .stale, ring := [], age := none } ∧
      (∀ d, d < 64 → d ≠ ch → mapGet t.intake.channels d = mapGet s.intake.channels d) ∧
      (r.status = .live →
        Instr.channelUpdate { channel := ch, status := .stale, value := r.value, filtered := r.filtered
                              rise := none } ∈ t.handed ∧
        (s.room 1 → addedV s t [(s.reach e).reportFrame 0x03
          (byteOf ch ++ [((s.channelRow ch).map ChannelRow.kind).getD 0, 1, 2] ++ beInt 2 r.value ++
            beInt 2 r.filtered ++ flagByte r.saturated ++ byteOf r.faultRun ++
            presenceItem 2 (r.lastRaw.map BitVec.toNat))]))) ∧
  (∀ (s : State), s.steady →
    let fresh : ChannelRec := { status := .never, lastRaw := none, value := 0, filtered := 0, saturated := false
                                ring := [], age := none, faultRun := 0, lastSeq := none }
    let gone := s.intake.channels.filter fun e => e.2.status != .never
    let handedOn := gone.flatMap fun e => Instr.channelUpdate
      { channel := e.1, status := .never, value := 0, filtered := 0, rise := none } ::
        (if s.store.site.light = some e.1 then [.lightChannelChange e.1 .never 0] else [])
    (s.active .channels = false → exec .channelsIntoService s = .next (s.took .channelsIntoService)) ∧
    (s.active .channels = true → completes .channelsIntoService s fun t =>
      t.intake.started = s.intake.started ∧ t.intake.inService = true ∧
      t.handed = (s.took .channelsIntoService).handed ∧
      ∀ ch, ch < 64 → mapGet t.intake.channels ch =
        if (s.reference .channels ch).isSome = true then some fresh else none) ∧
    completes .channelsOutOfService s (fun t =>
      t.intake = { s.intake with inService := false, rows := [], channels := [] } ∧
      t.handed = (s.took .channelsOutOfService).handed ++ handedOn ∧ t.line = s.line) ∧
    completes .sampleIntakeRestart s (fun t =>
      t.intake = { s.intake with channels := s.intake.channels.map fun e => (e.1, fresh) } ∧
      t.handed = (s.took .sampleIntakeRestart).handed ++ handedOn ∧ t.line = s.line))

/-- A channel update decides afresh the flags of the rules that read the channel, by comparison with hysteresis or by
the stale treatment; every segment that a changed flag covers takes its new raw grade and settles, and a change of
effective grade is handed on and reported with cause RISE, in segment order. While SEGMENTS is not ACTIVE no grade is
raised; nor is that of a record from before a clear whose notice waits (R36, R63 to R68, R71, R72; log 42).

The model's own choices in it: log 42. -/
def Obligations.UpdatesDecideFlagsAndGrades : Prop :=
  ∀ (u : ChannelUpdate) (s : State), s.steady → GradesOk s → completes (.channelUpdate u) s fun t =>
    (s.room (s.riseReports t).length → addedV s t (s.riseReports t)) ∧
    (∀ i, i < 96 → ∀ b ∈ mapGet s.grader.flags i, ∃ b' ∈ mapGet t.grader.flags i,
      (s.ruleRow i = none → b' = b) ∧
      ∀ row ∈ s.ruleRow i,
        (row.channel ≠ u.channel → b' = b) ∧
        (row.channel = u.channel →
          ruleSays row (s.reference .channels u.channel).isSome u.status u.filtered u.rise b b')) ∧
    ∀ g, g < 8 → ∀ r ∈ mapGet s.grader.segments g, ∃ r' ∈ mapGet t.grader.segments g,
      let changed := ∃ i, i < 96 ∧ mapGet s.grader.flags i ≠ mapGet t.grader.flags i ∧
        ∃ row ∈ s.ruleRow i, maskHas row.mask g = true
      let inUse := s.active .segments = true ∧ .graderSegmentsOutOfService ∉ s.handed
      (¬ changed ∨ ¬ inUse → r' = r) ∧
      (changed → inUse → isRaw s t.grader.flags g r'.raw ∧
        settlesTo s.now (s.descentHold g) { r with raw := r'.raw } r' ∧
        (r'.effective ≠ r.effective → gradeHanded t g r.effective r'.effective))

/-- At the expiry of a descent hold the effective grade falls to the greater of raw grade and floor, the hold stops,
and the change is handed on and reported with cause HOLD EXPIRY (R69, R71, R72); the hold of a record from before a
clear of SEGMENTS expires no more (R74; log 42).

HOLD GRADE tests the segment index, the floor and the record in that order; otherwise it stores the floor, settles
the record, answers with it, and hands on and reports a change of effective grade with cause FLOOR behind the REPLY
(R68, R70 to R72).

The model's own choices in it: logs 3, 42. -/
def Obligations.HoldsAndFloorsKeepGradesUp : Prop :=
  (∀ (g : Nat) (s : State), s.steady →
    let c := Instr.descentHoldExpiry g
    let inUse := s.active .segments = true ∧ .graderSegmentsOutOfService ∉ s.handed
    (¬ inUse ∨ (mapGet s.grader.segments g).bind GradeRec.hold = none → exec c s = .next (s.took c)) ∧
    (inUse → ∀ r ∈ mapGet s.grader.segments g, ∀ e, r.hold = some e → completes c s fun t =>
      t.time = max s.time (2 * e) ∧
      mapGet t.grader.segments g = some { r with effective := max r.raw r.floor, hold := none } ∧
      (∀ h, h < 8 → h ≠ g → mapGet t.grader.segments h = mapGet s.grader.segments h) ∧
      t.grader.flags = s.grader.flags ∧
      (max r.raw r.floor ≠ r.effective →
        gradeHanded t g r.effective (max r.raw r.floor) ∧
        (s.room 1 → addedV s t [(s.reach e).reportFrame 0x04
          (byteOf g ++ byteOf r.effective ++ byteOf (max r.raw r.floor) ++ byteOf r.raw ++ byteOf r.floor ++
            [0xFF, 0xFF, 0xFF] ++ indexOrNone (s.decidingRule g r.raw) ++ [1])])))) ∧
  (∀ (tag segment floor : Byte) (s : State), s.steady → s.grader.started = true →
    let c := Instr.holdGrade tag segment floor
    let g := segment.toNat
    (7 < g ∨ 5 < floor.toNat → exec c s = .next ((s.took c).reply 0x10 tag badArgument [])) ∧
    (g ≤ 7 → floor.toNat ≤ 5 →
      s.active .segments = false ∨ .graderSegmentsOutOfService ∈ s.handed ∨ mapGet s.grader.segments g = none →
      exec c s = .next ((s.took c).reply 0x10 tag noTable [])) ∧
    (floor.toNat ≤ 5 → g ≤ 7 → s.active .segments = true → .graderSegmentsOutOfService ∉ s.handed →
      ∀ r ∈ mapGet s.grader.segments g,
      completes c s fun t => ∃ r' ∈ mapGet t.grader.segments g,
        (∀ h, h < 8 → h ≠ g → mapGet t.grader.segments h = mapGet s.grader.segments h) ∧
        t.grader.flags = s.grader.flags ∧
        (r.floor = floor.toNat → r' = r) ∧
        (r.floor ≠ floor.toNat → settlesTo s.now (s.descentHold g) { r with floor := floor.toNat } r') ∧
        (r'.effective ≠ r.effective → gradeHanded t g r.effective r'.effective) ∧
        let reply := s.replyFrame 0x10 tag done (byteOf g ++ [floor] ++ byteOf r.raw ++ byteOf r'.effective ++
          timerItem (r'.hold.map fun e => e - s.now))
        (s.room 1 → leadsV s t reply) ∧
        (s.room 2 → addedV s t (if r'.effective = r.effective then [reply] else
          [reply, s.reportFrame 0x04
            (byteOf g ++ byteOf r.effective ++ byteOf r'.effective ++ byteOf r.raw ++ [floor] ++
              timerItem (r'.hold.map fun e => e - s.now) ++ indexOrNone (s.decidingRule g r.raw) ++ [2])]))))

/-- GRADE RULES entering service gives each present rule a flag, decided against the channel as it stands; leaving
service forgets the flags; CHANNELS entering or leaving has every rule decided once from the flag it held. Each time
the raw grades of the segments concerned follow, their records settle, and changes are handed on and reported; the
restart decides every flag from de-asserted and starts every hold anew (R36, R66 to R68, R71 to R73, R75, R76). While
SEGMENTS is not ACTIVE, or the notice of its clear waits, no record changes (R63, R74; log 42). Each notice acts by
what it finds, in whichever order it comes (log 52); one of a region cleared since changes nothing (R35).

SEGMENTS entering service gives each present segment a settled record of floor 0 at the greater of the start-up
grade and its raw grade, handed on as a change from grade 0 without a report; leaving service forgets the records and
keeps the flags (R74).

The model's own choices in it: logs 7, 40, 42, 51, 52, 54, 55. -/
def Obligations.RulesAndGradeRecordsComeAndGo : Prop :=
  (∀ (s : State), s.steady → GradesOk s →
    let inUse := s.active .segments = true ∧ .graderSegmentsOutOfService ∉ s.handed
    let reported := fun t : State => s.room (s.riseReports t).length → addedV s t (s.riseReports t)
    let regraded := fun (t : State) (g : Nat) (held : Bool) (r r' : GradeRec) =>
      isRaw t t.grader.flags g r'.raw ∧
        settlesTo s.now (s.descentHold g) { r with raw := r'.raw, hold := if held then r.hold else none } r' ∧
        (r'.effective ≠ r.effective → gradeHanded t g r.effective r'.effective)
    let settled := fun (t : State) (held : Bool) => reported t ∧
      ∀ g, g < 8 → ∀ r ∈ mapGet s.grader.segments g, ∃ r' ∈ mapGet t.grader.segments g,
        (¬ inUse → r' = r) ∧ (inUse → regraded t g held r r')
    let ruled := fun (row : RuleRow) (b b' : Bool) =>
      ruleSays row (s.reference .channels row.channel).isSome
        (s.measured row.channel).status (s.measured row.channel).filtered (s.measured row.channel).rise b b'
    (s.active .gradeRules = false → exec .gradeRulesIntoService s = .next (s.took .gradeRulesIntoService)) ∧
    (s.active .gradeRules = true → completes .gradeRulesIntoService s fun t => t.grader.rulesIn = true ∧
      settled t true ∧
      ∀ i, i < 96 → (mapGet t.grader.flags i).isSome = (s.reference .gradeRules i).isSome ∧
        ∀ b ∈ mapGet t.grader.flags i, ∀ row ∈ s.reference .gradeRules i, ruled (Machine.ruleRow row) false b) ∧
    completes .gradeRulesOutOfService s (fun t => t.grader.rulesIn = false ∧ t.grader.flags = [] ∧ settled t true) ∧
    (∀ entered ∈ [true, false], completes (.graderChannelsNotice entered) s fun t => reported t ∧
      (∀ i, i < 96 → ∀ b ∈ mapGet s.grader.flags i, ∃ b' ∈ mapGet t.grader.flags i,
        ∀ row ∈ s.ruleRow i, ruled row b b') ∧
      ∀ g, g < 8 → ∀ r ∈ mapGet s.grader.segments g, ∃ r' ∈ mapGet t.grader.segments g,
        let changed := ∃ i, i < 96 ∧ mapGet s.grader.flags i ≠ mapGet t.grader.flags i ∧
          ∃ row ∈ s.ruleRow i, maskHas row.mask g = true
        (¬ changed ∨ ¬ inUse → r' = r) ∧ (changed → inUse → regraded t g true r r')) ∧
    completes .gradeEvaluatorRestart s (fun t => settled t false ∧
      ∀ i, i < 96 → ∀ b ∈ mapGet s.grader.flags i, ∃ b' ∈ mapGet t.grader.flags i,
        ∀ row ∈ s.ruleRow i, ruled row false b')) ∧
  (∀ (s : State), s.steady →
    (s.active .segments = false →
      exec .graderSegmentsIntoService s = .next (s.took .graderSegmentsIntoService)) ∧
    (s.active .segments = true → completes .graderSegmentsIntoService s fun t =>
      t.grader.flags = s.grader.flags ∧ t.grader.segmentsIn = true ∧
      t.line = s.line ∧
      ∀ g, g < 8 → (mapGet t.grader.segments g).isSome = (s.reference .segments g).isSome ∧
        ∀ r ∈ mapGet t.grader.segments g, isRaw s s.grader.flags g r.raw ∧ r.floor = 0 ∧
          r.effective = max s.store.site.startupGrade.toNat r.raw ∧
          r.hold = (if r.raw < r.effective then some (s.now + 10 * t.descentHold g) else none) ∧
          gradeHanded t g 0 r.effective) ∧
    completes .graderSegmentsOutOfService s (fun t =>
      t = (s.took .graderSegmentsOutOfService).withGrader
        { s.grader with segmentsIn := false, segmentRows := [], segments := [] }))

/-! ### Avalanche paths -/

/-- A level change of a local input is taken by its assignment. COUNTING: an active edge outside the dead time starts
the dead timer and is one event at every path that names the input. TRIPWIRE: a broken wire is a RELEASE event at
every such path, a mended one clears its slot faults. UNASSIGNED, or with PATHS not ACTIVE: the level is followed.
What changes at a path is handed on and reported, in path order. The dead timer's expiry lets the next edge count (R79
to R81, R84, R85, R87 to R89, R93, R94).

A DETECT frame acts only at a started Path Monitor with PATHS ACTIVE, with a payload of 3 bytes, a known class and
a count of 1 or more, and only on paths with a slot of that station and detector: a PULSE queues its count of events
where a COUNTING slot matches, a RELEASE is a RELEASE event, HEALTH FAULT and HEALTH OK set and clear the slots'
faults; changes are handed on and reported, in path order (R82 to R85, R87 to R89, R93, R94).

The model's own choices in it: logs 3, 21, 42, 51. -/
def Obligations.DetectionsReachThePaths : Prop :=
  (∀ (i : Nat) (level : Bool) (s : State), s.steady → PathsOk s →
    (∀ r ∈ mapGet s.monitor.inputs i, ∀ e, r.dead = some e → exec (.deadTimerExpiry i) s =
      .next (((s.took (.deadTimerExpiry i)).withTime (max s.time e)).withInput i { r with dead := none })) ∧
    ((mapGet s.monitor.inputs i).bind InputRec.dead = none →
      exec (.deadTimerExpiry i) s = .next (s.took (.deadTimerExpiry i))) ∧
    ∀ c ∈ [Instr.countingInputEdge i level, .tripwireInputEdge i level, .unassignedInputEdge i level],
      (mapGet s.monitor.inputs i = none → exec c s = .next (s.took c)) ∧
      ∀ r ∈ mapGet s.monitor.inputs i,
        (r.level = level → exec c s = .next (s.took c)) ∧
        (r.level ≠ level → s.active .paths = false ∨ .pathsOutOfService ∈ s.handed ∨ r.assignment = .unassigned →
          exec c s = .next ((s.took c).withInput i { r with level := level })) ∧
        (r.level ≠ level → s.active .paths = true → .pathsOutOfService ∉ s.handed → r.assignment ≠ .unassigned →
          completes c s fun t =>
          (s.room (s.allPathReports t 0).length → addedV s t (s.allPathReports t 0)) ∧
          ∃ r' ∈ mapGet t.monitor.inputs i, r'.level = level ∧ r'.assignment = r.assignment ∧
            (∀ j, j < 12 → j ≠ i → mapGet t.monitor.inputs j = mapGet s.monitor.inputs j) ∧
            ∀ p, p < 16 → ∀ x ∈ mapGet s.monitor.paths p, ∃ y ∈ mapGet t.monitor.paths p,
              let named := ∃ row ∈ s.pathRow p, ∃ sl ∈ row.slots, namesInput sl i
              (¬ named → y = x) ∧
              match r.assignment with
              | .unassigned => False
              | .counting rising dead =>
                let counts := level = rising ∧ r.dead = none
                (r'.dead = if counts ∧ dead ≠ 0 then some (s.time + dead) else r.dead) ∧
                (¬ counts → y = x) ∧
                (counts → named → ∀ row ∈ s.pathRow p,
                  pathEvaluates row s.now { x with queue := newest 1 s.now x.queue } y ∧ y.faults = x.faults ∧
                    pathSettled row y ∧ pathHanded t p row.mask x y)
              | .tripwire rising =>
                (level = rising → named → ∀ row ∈ s.pathRow p,
                  pathReleases row s.line.lineState s.now x y ∧ y.faults = x.faults ∧ pathSettled row y ∧
                    pathHanded t p row.mask x y) ∧
                (level ≠ rising → named → ∀ row ∈ s.pathRow p,
                  y.state = x.state ∧ y.queue = x.queue ∧ y.decision = x.decision ∧ y.confirm = x.confirm ∧
                    y.clear = x.clear ∧ pathSettled row y ∧ pathHanded t p row.mask x y ∧
                    ∀ j, j < 4 → ∀ sl ∈ row.slots[j]?, y.faults[j]? =
                      if sl.tripwire = true ∧ namesInput sl i then some false else x.faults[j]?))) ∧
  (∀ (a : Arrival) (d cls n : Byte) (s : State), s.steady → PathsOk s →
    let c := Instr.detectFrame a
    (a.payload.length ≠ 3 ∨ s.monitor.started = false ∨ s.monitor.inService = false ∨ s.active .paths = false ∨
        .pathsOutOfService ∈ s.handed →
      exec c s = .next (s.took c)) ∧
    (a.payload = [d, cls, n] → n = 0 ∨ cls.toNat = 0 ∨ 4 < cls.toNat → exec c s = .next (s.took c)) ∧
    (a.payload = [d, cls, n] → n ≠ 0 → 1 ≤ cls.toNat → cls.toNat ≤ 4 → s.monitor.started = true →
      s.monitor.inService = true → s.active .paths = true → .pathsOutOfService ∉ s.handed → completes c s fun t =>
        t.monitor.inputs = s.monitor.inputs ∧
        (s.room (s.allPathReports t 0).length → addedV s t (s.allPathReports t 0)) ∧
        ∀ p, p < 16 → ∀ x ∈ mapGet s.monitor.paths p, ∃ y ∈ mapGet t.monitor.paths p,
          (s.pathRow p = none → y = x) ∧
          ∀ row ∈ s.pathRow p,
            let hits := fun sl : Slot => sl.source == .remote a.source.toNat d.toNat
            (row.slots.any hits = false → y = x) ∧
            (row.slots.any hits = true → pathSettled row y ∧ pathHanded t p row.mask x y ∧
              (cls = 1 → y.faults = x.faults ∧
                ((row.slots.any fun sl => hits sl && !sl.tripwire) = true →
                  pathEvaluates row s.now { x with queue := newest n.toNat a.time x.queue } y) ∧
                ((row.slots.any fun sl => hits sl && !sl.tripwire) = false →
                  y.state = x.state ∧ y.queue = x.queue ∧ y.decision = x.decision)) ∧
              (cls = 2 → pathReleases row s.line.lineState s.now x y ∧ y.faults = x.faults) ∧
              (cls = 3 ∨ cls = 4 → y.state = x.state ∧ y.queue = x.queue ∧ y.decision = x.decision ∧
                y.confirm = x.confirm ∧ y.clear = x.clear ∧
                ∀ j, j < 4 → ∀ sl ∈ row.slots[j]?, y.faults[j]? =
                  if hits sl = true then some (cls == 3) else x.faults[j]?))))

/-- The time-driven events of a path: the age-out of its oldest events and the evaluation, the clear wait's end in
QUIET, the confirm wait's end in CLAIMED; each at its expiry, with its hand-offs and its report (R86 to R88, R90, R93,
R94).

PATHS entering service assigns the inputs from the slots that name them and builds each present path's record,
QUIET, or in RELEASE where it names a broken wire; leaving service turns every warning off and forgets paths and
assignments; a restart keeps a path in RELEASE and makes every other QUIET with no events. Building and restart report
their changes (R79, R88, R89, R93 to R96). The order of the warnings turned off, by path index, is the model's choice
(log 51).

The model's own choices in it: logs 3, 7, 38, 41, 51, 54, 55. -/
def Obligations.PathsComeGoAndTimeOut : Prop :=
  (∀ (p : Nat) (s : State), s.steady → p < 16 → ∀ x ∈ mapGet s.monitor.paths p, ∀ row ∈ s.pathRow p,
    let others := fun t : State =>
      t.monitor.inputs = s.monitor.inputs ∧
        ∀ q, q < 16 → q ≠ p → mapGet t.monitor.paths q = mapGet s.monitor.paths q
    let after := fun (t : State) (y : PathRec) (e : Nat) (cause : Byte) =>
      t.time = max s.time (2 * e) ∧ others t ∧ y.faults = x.faults ∧ pathSettled row y ∧
        pathHanded t p row.mask x y ∧ (s.room 1 → addedV s t ((s.reach e).pathReports p x y cause))
    (x.queue = [] → exec (.ageOut p) s = .next (s.took (.ageOut p))) ∧
    (x.clear = none → exec (.clearWaitExpiry p) s = .next (s.took (.clearWaitExpiry p))) ∧
    (x.confirm = none → exec (.confirmWaitExpiry p) s = .next (s.took (.confirmWaitExpiry p))) ∧
    (∀ e ∈ x.queue.head?, completes (.ageOut p) s fun t => ∃ y ∈ mapGet t.monitor.paths p,
      pathEvaluates row t.now { x with queue := x.queue.dropWhile fun u => u == e } y ∧
        after t y (e + 10 * row.window) 1) ∧
    (∀ e, x.clear = some e → completes (.clearWaitExpiry p) s fun t => ∃ y ∈ mapGet t.monitor.paths p,
      y.state = .quiet ∧ y.clear = none ∧ y.queue = x.queue ∧ y.decision = x.decision ∧ y.confirm = x.confirm ∧
        after t y e 2) ∧
    (∀ e, x.confirm = some e → completes (.confirmWaitExpiry p) s fun t => ∃ y ∈ mapGet t.monitor.paths p,
      y.decision = .claimed ∧ y.confirm = none ∧ y.state = x.state ∧ y.queue = x.queue ∧ y.clear = x.clear ∧
        after t y e 3)) ∧
  (∀ (s : State), s.steady → PathsOk s →
    let quiet : PathRec := { state := .quiet, queue := [], faults := [false, false, false, false], blind := false
                             warning := false, decision := .noDecision, confirm := none, clear := none }
    (s.active .paths = false → exec .pathsIntoService s = .next (s.took .pathsIntoService)) ∧
    (StoreOk s → s.active .paths = true → completes .pathsIntoService s fun t =>
      let reports := (List.range 16).flatMap fun p =>
        match mapGet t.monitor.paths p with
        | some y => t.pathReports p quiet y 6
        | none => []
      t.monitor.inService = true ∧ (s.room reports.length → addedV s t reports) ∧
      (∀ i, i < 12 → ∀ r ∈ mapGet s.monitor.inputs i, ∃ r' ∈ mapGet t.monitor.inputs i,
        r'.level = r.level ∧ r'.dead = none ∧
        ((∀ p, p < 16 → ∀ row ∈ t.pathRow p, ∀ sl ∈ row.slots, ¬ namesInput sl i) → r'.assignment = .unassigned) ∧
        ((∃ p, p < 16 ∧ ∃ row ∈ t.pathRow p, ∃ sl ∈ row.slots, namesInput sl i) →
          ∃ p, p < 16 ∧ ∃ row ∈ t.pathRow p, ∃ sl ∈ row.slots, namesInput sl i ∧
            r'.assignment = if sl.tripwire = true then .tripwire sl.rising else .counting sl.rising sl.dead)) ∧
      ∀ p, p < 16 → (mapGet t.monitor.paths p).isSome = (s.reference .paths p).isSome ∧
        ∀ y ∈ mapGet t.monitor.paths p, ∀ row ∈ t.pathRow p,
          let broken := ∃ sl ∈ row.slots, sl.tripwire = true ∧ ∃ i, i < 12 ∧ namesInput sl i ∧
            s.inputLevel i = sl.rising
          y.queue = [] ∧ y.faults = [false, false, false, false] ∧ y.clear = none ∧
          (broken → y.state = .release ∧ pathDecides row s.line.lineState s.now y) ∧
          ((∀ sl ∈ row.slots, ∀ i, i < 1024 → namesInput sl i → i < 12) → ¬ broken → y = quiet)) ∧
    completes .pathsOutOfService s (fun t =>
      t.monitor = { s.monitor with
        inService := false, rows := []
        inputs := s.monitor.inputs.map fun e => (e.1, { level := e.2.level, assignment := .unassigned, dead := none })
        paths := [] } ∧
      t.line = s.line ∧
      t.handed = (s.took .pathsOutOfService).handed ++
        (s.monitor.paths.filter fun e => e.2.warning).map fun e =>
          .warningNotice e.1 false ((((mapGet s.monitor.rows e.1).map Machine.pathRow).map PathRow.mask).getD 0)) ∧
    completes .pathMonitorRestart s (fun t =>
      t.monitor.inputs = s.monitor.inputs ∧
      (s.room (s.allPathReports t 7).length → addedV s t (s.allPathReports t 7)) ∧
      ∀ p, p < 16 → ∀ x ∈ mapGet s.monitor.paths p, ∀ row ∈ s.pathRow p, ∃ y ∈ mapGet t.monitor.paths p,
        y.faults = x.faults ∧ pathSettled row y ∧ pathHanded t p row.mask x y ∧
        (x.state = .release →
          y.state = .release ∧ y.queue = x.queue ∧ y.decision = x.decision ∧ y.confirm = x.confirm) ∧
        (x.state ≠ .release → y.state = .quiet ∧ y.queue = [] ∧ y.clear = none ∧ y.decision = .noDecision)))

/-- An ISOLATED line makes every waiting decision CLAIMED and stops its confirm wait; no other path's decision, state
or queue changes; the reports go out in path order (R90, R93, R94).

CONFIRM PATH and DECLINE PATH test the index, the record and the decision in that order, and make a waiting
decision CLAIMED or DECLINED, its wait stopped; the REPLY goes out before the report (R91, R93, R94).

CLEAR PATH empties the queue, withdraws the decision, and leaves a path that is not QUIET in CLEARING for its clear
wait; the slot of a wire that is broken now is faulted (R92 to R94).

The model's own choices in it: log 42. -/
def Obligations.WaitingPathsAreDecided : Prop :=
  (∀ (s : State), s.steady → PathsOk s → completes .lineIsolatedNotice s fun t =>
    t.monitor.inputs = s.monitor.inputs ∧
    (s.room (s.allPathReports t 4).length → addedV s t (s.allPathReports t 4)) ∧
    ∀ p, p < 16 → ∀ x ∈ mapGet s.monitor.paths p, ∀ row ∈ s.pathRow p, ∃ y ∈ mapGet t.monitor.paths p,
      y.state = x.state ∧ y.queue = x.queue ∧ y.faults = x.faults ∧ y.clear = x.clear ∧
      y.decision = (if x.decision = .waiting then .claimed else x.decision) ∧
      y.confirm = (if x.decision = .waiting then none else x.confirm) ∧
      pathSettled row y ∧ pathHanded t p row.mask x y) ∧
  (∀ (tag path : Byte) (s : State), s.steady → s.monitor.started = true →
    ∀ k ∈ [(Instr.confirmPath tag path, (0x18 : Byte), Decision.claimed),
        (.declinePath tag path, 0x19, .declined)],
      let p := path.toNat
      (15 < p → exec k.1 s = .next ((s.took k.1).reply k.2.1 tag badArgument [])) ∧
      (p ≤ 15 → s.active .paths = false ∨ .pathsOutOfService ∈ s.handed ∨ mapGet s.monitor.paths p = none →
        exec k.1 s = .next ((s.took k.1).reply k.2.1 tag noTable [])) ∧
      (p ≤ 15 → s.active .paths = true → .pathsOutOfService ∉ s.handed → ∀ x ∈ mapGet s.monitor.paths p,
        (x.decision ≠ .waiting → exec k.1 s = .next ((s.took k.1).reply k.2.1 tag wrongState [])) ∧
        (x.decision = .waiting → ∀ row ∈ s.pathRow p, completes k.1 s fun t =>
          ∃ y ∈ mapGet t.monitor.paths p,
            y.decision = k.2.2 ∧ y.confirm = none ∧ y.state = x.state ∧ y.queue = x.queue ∧ y.clear = x.clear ∧
            y.faults = x.faults ∧ pathSettled row y ∧ pathHanded t p row.mask x y ∧
            t.monitor.inputs = s.monitor.inputs ∧
            (∀ q, q < 16 → q ≠ p → mapGet t.monitor.paths q = mapGet s.monitor.paths q) ∧
            (s.room 2 → addedV s t
              (s.replyFrame k.2.1 tag done
                (path :: byteOf (PathState.num x.state) ++ byteOf (Decision.num k.2.2)) ::
                  s.pathReports p x y 5))))) ∧
  (∀ (tag path : Byte) (s : State), s.steady → s.monitor.started = true →
    let c := Instr.clearPath tag path
    let p := path.toNat
    (15 < p → exec c s = .next ((s.took c).reply 0x1A tag badArgument [])) ∧
    (p ≤ 15 → s.active .paths = false ∨ .pathsOutOfService ∈ s.handed ∨ mapGet s.monitor.paths p = none →
      exec c s = .next ((s.took c).reply 0x1A tag noTable [])) ∧
    (p ≤ 15 → ∀ x ∈ mapGet s.monitor.paths p, x.faults.length = 4 → ∀ row ∈ s.pathRow p, completes c s fun t =>
      ∃ y ∈ mapGet t.monitor.paths p,
        y.queue = [] ∧ y.confirm = none ∧ y.decision = .noDecision ∧
        (x.state = .quiet → y.state = .quiet ∧ y.clear = x.clear) ∧
        (x.state ≠ .quiet → y.state = .clearing ∧ y.clear = some (s.now + 10 * row.clearWait)) ∧
        (∀ j, j < 4 → ∀ sl ∈ row.slots[j]?, ∀ b ∈ x.faults[j]?, y.faults[j]? =
          some (b || (sl.tripwire && (List.range 1024).any fun i =>
            sl.source == .local i && s.inputLevel i == sl.rising))) ∧
        pathSettled row y ∧ pathHanded t p row.mask x y ∧ t.monitor.inputs = s.monitor.inputs ∧
        (∀ q, q < 16 → q ≠ p → mapGet t.monitor.paths q = mapGet s.monitor.paths q) ∧
        (s.room 2 → addedV s t
          (s.replyFrame 0x1A tag done (path :: byteOf (PathState.num y.state) ++ flagByte y.blind) ::
            s.pathReports p x y 5))))

/-! ### Segments and the schedule -/

/-- A placement adds the source's claim, urgent or normal, to every segment of its mask that does not hold it, and
changes no other claim; a CENTRE claim that is held takes the new class and keeps its time. An OPEN segment goes to
NOTICE with the lead of the claim's class, an urgent claim shortens the lead of a segment in NOTICE and ends its grace,
a segment in REOPENING goes to CLOSING at once; a CENTRE claim that turns from normal to urgent acts as the arrival of
an urgent one. A lead of 0 has expired with the event; the time parameter of a NOTICE is computed afresh (R99, R102 to
R107, R109). That the states of the gates are read from the Drives as they stand at the event, where a segment closes or
reopens, is the model's choice (log 18), as is the order of the hand-offs (log 34).

A removal takes the source's claim from every segment of its mask. A segment left without claims goes from NOTICE
to OPEN, from CLOSING to REOPENING, and from CLOSED to REOPENING where its grade is below the reopen limit, staying
blocked in CLOSED where it is not; a NOTICE that goes on computes its time parameter afresh (R99, R103 to R107, R109).

A grade event stores the grade and places or removes the GRADE claim where it says so: a fresh claim acts as the
arrival of an urgent one, and a removal that empties the set takes a segment from NOTICE to OPEN and from CLOSING to
REOPENING. A CLOSED segment without claims reopens below the reopen limit and stays blocked at or above it, the grade
and the emptied set seen together (R71, R99, R103 to R107, R109).

The model's own choices in it: logs 18, 26, 34, 42. -/
def Obligations.ClaimsArePlacedAndRemoved : Prop :=
  (∀ (source : ClaimSource) (urgent : Bool) (mask : Byte) (s : State), s.steady → SegmentsOk s →
    completes (.claimPlacement source urgent mask) s fun t =>
      t.sequencer.clock = s.sequencer.clock ∧ t.time = s.time ∧
      ∀ g, g < 8 → ∀ r ∈ s.segment g, ∀ row ∈ s.segmentRow g, ∃ r' ∈ t.segment g,
        let n := sourceNum source
        let held := mapGet r.claims n
        segmentHanded t g r r' ∧ r'.grade = r.grade ∧
        (∀ i, i < 51 → i ≠ n ∨ maskHas mask g = false → mapGet r'.claims i = mapGet r.claims i) ∧
        (maskHas mask g = false → r' = r) ∧
        (maskHas mask g = true → ∀ c ∈ held,
          let turns := source = .centre ∧ c.urgent ≠ urgent
          mapGet r'.claims n = some { c with urgent := if source = .centre then urgent else c.urgent } ∧
          (¬ turns → r' = r) ∧
          (turns → urgent = true → urgentArrives s t g row r r') ∧
          (turns → urgent = false → r' = { r with claims := r'.claims, parameter := r'.parameter } ∧
            (r.state = .notice → parameterSays t row r'))) ∧
        (maskHas mask g = true → held = none →
          mapGet r'.claims n = some { urgent := urgent, placed := s.now } ∧
          (urgent = true → urgentArrives s t g row r r') ∧
          (r.state = .opened → noticeBegins s t g row urgent r') ∧
          (r.state = .notice → urgent = false → r'.state = .notice ∧ r'.lead = r.lead ∧ r'.grace = r.grace ∧
            r'.unannounced = r.unannounced ∧ parameterSays t row r') ∧
          (r.state = .closing ∨ r.state = .closed → r'.state = r.state) ∧
          (r.state = .reopening → closesTo s t g r'))) ∧
  (∀ (source : ClaimSource) (mask : Byte) (s : State), s.steady → SegmentsOk s →
    completes (.claimRemoval source mask) s fun t =>
      t.sequencer.clock = s.sequencer.clock ∧ t.time = s.time ∧
      ∀ g, g < 8 → ∀ r ∈ s.segment g, ∀ row ∈ s.segmentRow g, ∃ r' ∈ t.segment g,
        let n := sourceNum source
        let last := ∀ i, i < 51 → i ≠ n → mapGet r.claims i = none
        (maskHas mask g = false ∨ mapGet r.claims n = none → r' = r) ∧
        (maskHas mask g = true → (mapGet r.claims n).isSome = true →
          segmentHanded t g r r' ∧ r'.grade = r.grade ∧
          (∀ i, i < 51 → mapGet r'.claims i = if i = n then none else mapGet r.claims i) ∧
          (¬ last → r'.state = r.state ∧ r'.lead = r.lead ∧ r'.grace = r.grace ∧
            (r.state = .notice → parameterSays t row r')) ∧
          (last → r.state = .notice → r'.state = .opened ∧ r'.lead = none ∧ r'.grace = none ∧
            r'.parameter = 0xFFFF) ∧
          (last → r.state = .closing → reopensTo s t g r') ∧
          (last → r.state = .closed → r.grade < row.reopenLimit → reopensTo s t g r') ∧
          (last → r.state = .closed → row.reopenLimit ≤ r.grade → r'.state = .closed ∧ r'.blocked = true))) ∧
  (∀ (g grade : Nat) (action : Option ClaimAction) (s : State), s.steady → SegmentsOk s →
    let c := Instr.gradeEvent g grade action
    (s.segment g = none → exec c s = .next (s.took c)) ∧
    ∀ r ∈ s.segment g, ∀ row ∈ s.segmentRow g, g < 8 → completes c s fun t =>
      (∀ h, h < 8 → h ≠ g → t.segment h = s.segment h) ∧
      ∃ r' ∈ t.segment g, r'.grade = grade ∧ segmentHanded t g r r' ∧
        let held := mapGet r.claims 2
        let last := ∀ i, i < 51 → i ≠ 2 → mapGet r.claims i = none
        (∀ i, i < 51 → i ≠ 2 → mapGet r'.claims i = mapGet r.claims i) ∧
        (action = none → mapGet r'.claims 2 = held) ∧
        (action = some .place → mapGet r'.claims 2 = some (held.getD { urgent := true, placed := s.now })) ∧
        (action = some .remove → mapGet r'.claims 2 = none) ∧
        (r.state = .closed → r'.claims = [] → (grade < row.reopenLimit → reopensTo s t g r') ∧
          (row.reopenLimit ≤ grade → r'.state = .closed ∧ r'.blocked = true)) ∧
        (r.state = .closed → r'.claims ≠ [] → r'.state = .closed ∧ r'.blocked = false) ∧
        (action = some .place → held = none → urgentArrives s t g row r r') ∧
        (action = some .remove → held.isSome = true → ¬ last → r.state ≠ .closed →
          r'.state = r.state ∧ r'.lead = r.lead ∧ r'.grace = r.grace ∧ r'.unannounced = r.unannounced ∧
            (r.state = .notice → parameterSays t row r')) ∧
        (action = some .remove → held.isSome = true → last → r.state = .notice →
          r'.state = .opened ∧ r'.lead = none ∧ r'.grace = none ∧ r'.parameter = 0xFFFF) ∧
        (action = some .remove → held.isSome = true → last → r.state = .closing → reopensTo s t g r') ∧
        (action = none ∨ (action = some .place ∧ held.isSome = true) ∨ (action = some .remove ∧ held = none) →
          r.state ≠ .closed → r' = { r with grade := grade }) ∧
        (action = none → s.room 1 → addedV s t (s.segmentReports g r r' 5)))

/-- CLOSE SEGMENT tests index, flag and record in that order and then does what the placement of a CENTRE claim of its
class on that segment does; RELEASE SEGMENT tests index and record, is refused where neither a CENTRE nor a RESTART
claim is held, and otherwise removes both. Either is answered with the state, the number of claims and whether one is
urgent, ahead of its report; the state is the one before a lead of 0 expires (R99 to R103, R115).
That the states of the gates are read from the Drives as they stand at the event, where a segment closes or reopens, is
the model's choice (log 18).

The model's own choices in it: logs 18, 26, 34, 42. -/
def Obligations.TheCentreClosesAndReleases : Prop :=
  ∀ (tag segment urgent : Byte) (s : State), s.steady → s.sequencer.started = true → SegmentsOk s →
    let c := Instr.closeSegment tag segment urgent
    let d := Instr.releaseSegment tag segment
    let g := segment.toNat
    (7 < g → exec c s = .next ((s.took c).reply 0x20 tag badArgument []) ∧
      exec d s = .next ((s.took d).reply 0x21 tag badArgument [])) ∧
    (g ≤ 7 → 1 < urgent.toNat → exec c s = .next ((s.took c).reply 0x20 tag badArgument [])) ∧
    (g ≤ 7 → s.segment g = none →
      (urgent.toNat ≤ 1 → exec c s = .next ((s.took c).reply 0x20 tag noTable [])) ∧
      exec d s = .next ((s.took d).reply 0x21 tag noTable [])) ∧
    (g ≤ 7 → urgent.toNat ≤ 1 → ∀ r ∈ s.segment g, completes c s fun t =>
      (match exec (.claimPlacement .centre (urgent == 1) (BitVec.ofNat 8 (2 ^ g))) s with
        | .next u => t.sequencer = u.sequencer
        | _ => False) ∧
      let closes : ClosureState := if s.allGates g .lowered = true then .closed else .closing
      let state : ClosureState := match r.state with
        | .opened => .notice
        | .notice =>
          if urgent = 1 ∧ r.grace.isSome = true ∧ ∀ b ∈ mapGet r.claims 0, b.urgent = false then closes else .notice
        | .closing => .closing
        | .closed => .closed
        | .reopening => closes
      ∃ r' ∈ t.segment g, ∃ b ∈ mapGet r'.claims 0, b.urgent = (urgent == 1) ∧
        let reply := s.replyFrame 0x20 tag done
          (segment :: byteOf (closureNum state) ++ byteOf r'.claims.length ++ flagByte r'.urgent)
        (s.room 1 → leadsV s t reply) ∧
        (r'.state = state → (state = .notice → r'.grace = r.grace) → s.room 2 →
          addedV s t (reply :: s.segmentReports g r r' 6))) ∧
    (g ≤ 7 → ∀ r ∈ s.segment g,
      (mapGet r.claims 0 = none → mapGet r.claims 1 = none →
        exec d s = .next ((s.took d).reply 0x21 tag wrongState [])) ∧
      ((mapGet r.claims 0).isSome = true ∨ (mapGet r.claims 1).isSome = true → completes d s fun t =>
        (∀ h, h < 8 → h ≠ g → t.segment h = s.segment h) ∧
        ∃ r' ∈ t.segment g, ∃ row ∈ s.segmentRow g,
          let last := ∀ i, i < 51 → 2 ≤ i → mapGet r.claims i = none
          segmentHanded t g r r' ∧ mapGet r'.claims 0 = none ∧ mapGet r'.claims 1 = none ∧
          (∀ i, i < 51 → 2 ≤ i → mapGet r'.claims i = mapGet r.claims i) ∧
          (¬ last → r'.state = r.state ∧ r'.lead = r.lead ∧ r'.grace = r.grace ∧
            (r.state = .notice → parameterSays t row r')) ∧
          (last → r.state = .notice → r'.state = .opened ∧ r'.lead = none ∧ r'.grace = none ∧
            r'.parameter = 0xFFFF) ∧
          (last → r.state = .closing ∨ (r.state = .closed ∧ r.grade < row.reopenLimit) → reopensTo s t g r') ∧
          (last → r.state = .closed → row.reopenLimit ≤ r.grade → r'.state = .closed ∧ r'.blocked = true) ∧
          (s.room 2 → addedV s t (s.replyFrame 0x21 tag done
            (segment :: byteOf (closureNum r'.state) ++ byteOf r'.claims.length ++ flagByte r'.urgent) ::
              s.segmentReports g r r' 6))))

/-- At the expiry of the lead a segment in NOTICE goes to CLOSING where it holds an urgent claim, has no approach sign,
or one is CONFIRMED with its notice or closed face; else its grace runs, the time parameter left as it stands. The
grace's expiry closes it unannounced, and a confirmation that counts closes it before (R97, R104, R109, R115). That a sign's record from before a clear of SIGNS does
not count while the Publisher's notice waits, also where SIGNS is ACTIVE again, is the model's choice (log 42).

A gate's state notice sets its segment's gate fault flag exactly while a configured gate is in FAULT, takes a
segment in CLOSING whose gates are all LOWERED to CLOSED, and one in REOPENING whose gates are all RAISED to OPEN
(R105 to R108, R113, R115).

The model's own choices in it: logs 3, 18, 34, 42. -/
def Obligations.NoticesEndInClosingAndGatesMoveTheSegment : Prop :=
  (∀ (g sign : Nat) (face : Byte) (s : State), s.steady → SegmentsOk s →
    (∀ r ∈ s.segment g, ∀ row ∈ s.segmentRow g,
      let counts := fun (x : SignRow) (f : Byte) => (f = x.notice ∨ f = x.closed) ∧ f ≠ 0
      (r.lead = none → exec (.leadTimerExpiry g) s = .next (s.took (.leadTimerExpiry g))) ∧
      (r.grace = none → exec (.graceTimerExpiry g) s = .next (s.took (.graceTimerExpiry g))) ∧
      (∀ e, r.lead = some e → completes (.leadTimerExpiry g) s fun t =>
        t.time = max s.time (2 * e) ∧ (∀ h, h < 8 → h ≠ g → t.segment h = s.segment h) ∧
        ∃ r' ∈ t.segment g, r'.claims = r.claims ∧ segmentHanded t g r r' ∧
          (r.urgent = true ∨ signsAllow s g → closesTo s t g r' ∧ r'.unannounced = r.unannounced ∧
            (s.room 1 → addedV s t ((s.reach e).segmentReports g r r' 1))) ∧
          (r.urgent = false → ¬ signsAllow s g → 1 ≤ row.grace →
            r' = { r with lead := none, grace := some (t.now + 10 * row.grace) }) ∧
          (r.urgent = false → ¬ signsAllow s g → row.grace = 0 →
            closesTo s t g r' ∧ r'.unannounced = true)) ∧
      (∀ e, r.grace = some e → completes (.graceTimerExpiry g) s fun t =>
        t.time = max s.time (2 * e) ∧ (∀ h, h < 8 → h ≠ g → t.segment h = s.segment h) ∧
        ∃ r' ∈ t.segment g, r'.claims = r.claims ∧ segmentHanded t g r r' ∧ closesTo s t g r' ∧
          r'.unannounced = true ∧ (s.room 1 → addedV s t ((s.reach e).segmentReports g r r' 3))) ∧
      (∀ x ∈ (s.reference .signs sign).map Machine.signRow, x.segment = g →
        completes (.confirmationNotice sign face) s fun t =>
          (∀ h, h < 8 → h ≠ g → t.segment h = s.segment h) ∧
          ∃ r' ∈ t.segment g, segmentHanded t g r r' ∧
            (x.approach = true → counts x face → r.grace.isSome = true → closesTo s t g r' ∧
              r'.claims = r.claims ∧ r'.unannounced = r.unannounced ∧
              (s.room 1 → addedV s t (s.segmentReports g r r' 2))) ∧
            (x.approach = false ∨ ¬ counts x face ∨ r.grace = none → r' = r))) ∧
    (s.reference .signs sign = none →
      exec (.confirmationNotice sign face) s = .next (s.took (.confirmationNotice sign face)))) ∧
  (∀ (k : Nat) (s : State), s.steady → SegmentsOk s →
    let c := Instr.gateStateNotice k
    (s.sequencerGateRow k = none → exec c s = .next (s.took c)) ∧
    (∀ x ∈ s.sequencerGateRow k, completes c s fun t =>
      let g := x.segment
      (∀ h, h < 8 → h ≠ g → t.segment h = s.segment h) ∧
      (g < 8 → ∀ r ∈ s.segment g, ∀ row ∈ s.segmentRow g, ∃ r' ∈ t.segment g,
        segmentHanded t g r r' ∧ r'.claims = r.claims ∧
        (r'.gateFault = true ↔ ∃ j ∈ s.configuredGates g, s.gateState j = .fault) ∧
        (s.room 1 → addedV s t (s.segmentReports g r r' 4)) ∧
        (r.state = .closing → s.allGates g .lowered = true → r.claims ≠ [] → r'.state = .closed) ∧
        (r.state = .closing → s.allGates g .lowered = true → r.claims = [] →
          (r.grade < row.reopenLimit → reopensTo s t g r') ∧
          (row.reopenLimit ≤ r.grade → r'.state = .closed ∧ r'.blocked = true)) ∧
        (r.state = .closing → s.allGates g .lowered = false → r'.state = .closing) ∧
        (r.state = .reopening → s.allGates g .raised = true →
          r'.state = .opened ∧ r'.unannounced = false ∧ r'.parameter = 0xFFFF) ∧
        (r.state = .reopening → s.allGates g .raised = false → r'.state = .reopening) ∧
        (r.state = .opened ∨ r.state = .notice ∨ r.state = .closed → r' = { r with gateFault := r'.gateFault }))))

/-- The clock goes on by a second, over midnight and over day 65535, and the schedule is evaluated: the claims of the
windows that are due stand and no others, and each segment acts on those that come and go as on a placement and on an
emptied set; while the clock is UNSET nothing happens. SET TIME refuses a second of 86400 or more, silently where it was broadcast, and otherwise sets the
clock, evaluates the schedule, has every NOTICE compute its time parameter afresh, and answers with the clock before and
after; SCHEDULE entering service is evaluated at
once, and a notice of it that has been cleared since has nothing evaluated (R99, R103, R105 to R107, R109 to R111,
R114).

The model's own choices in it: logs 3, 18, 26, 42, 46. -/
def Obligations.TheScheduleIsEvaluated : Prop :=
  ∀ (tag : Byte) (broadcast : Bool) (day : BitVec 16) (second : BitVec 24) (s : State), s.steady → SegmentsOk s →
    let c := Instr.setTime tag broadcast day second
    let evaluated := fun t : State => ∀ g, g < 8 → ∀ r ∈ s.segment g, ∀ seg ∈ s.segmentRow g,
      ∃ r' ∈ t.segment g, scheduleEvaluated t g seg r r' ∧ scheduleMoves s t g seg r r' ∧ segmentHanded t g r r' ∧
        (∀ i, i < 19 → mapGet r'.claims i = mapGet r.claims i) ∧ r'.grade = r.grade
    let asBefore := fun t : State => ∀ g, g < 8 → ∀ r ∈ s.segment g, ∀ r' ∈ t.segment g, r'.claims = r.claims → r' = r
    (s.sequencer.clock = none → exec .clockSecond s = .next (s.took .clockSecond)) ∧
    (∀ x ∈ s.sequencer.clock, completes .clockSecond s fun t =>
      t.time = max s.time (2 * x.next) ∧ evaluated t ∧ asBefore t ∧
      t.sequencer.clock = some
        { next := x.next + 10
          second := if x.second < 86399 then x.second + 1 else 0
          day := if x.second < 86399 then x.day else if x.day < 65535 then x.day + 1 else 0 }) ∧
    (s.sequencer.started = true → 86400 ≤ second.toNat →
      (broadcast = true → exec c s = .next (s.took c)) ∧
      (broadcast = false → exec c s = .next ((s.took c).reply 0x22 tag badArgument []))) ∧
    (s.sequencer.started = true → second.toNat ≤ 86399 → completes c s fun t =>
      t.time = s.time ∧ evaluated t ∧
      (∀ g, g < 8 → ∀ seg ∈ s.segmentRow g, ∀ r' ∈ t.segment g, r'.state = .notice → parameterSays t seg r') ∧
      t.sequencer.clock = some { day := day.toNat, second := second.toNat, next := s.now + 10 } ∧
      (broadcast = false → s.room 1 → leadsV s t (s.replyFrame 0x22 tag done
        (clockItem s.sequencer.clock ++ be 2 day.toNat ++ be 3 second.toNat)))) ∧
    (s.active .schedule = false → exec .scheduleIntoService s = .next (s.took .scheduleIntoService)) ∧
    (s.active .schedule = true → completes .scheduleIntoService s fun t =>
      (∀ e, e < 32 → mapGet t.sequencer.scheduleRows e = s.reference .schedule e) ∧ t.time = s.time ∧ evaluated t ∧ asBefore t ∧
        t.sequencer.scheduleIn = true ∧ t.sequencer.clock = s.sequencer.clock)

/-- SEGMENTS entering service builds each present segment's record and derives its state: closed at once under a
RESTART claim where a configured gate is not RAISED, else OPEN with its gates given RAISE, and then the standing GRADE,
PATH and SCHEDULE claims placed on it, with the first of which an OPEN one enters NOTICE; a grade the Evaluator has not yet built reads as 0, one from before a clear among
them (R74; log 42). Leaving service forgets every record (R98, R99, R103, R109, R112).

The built gates handed over, each segment is derived against them by its state; GATES leaving service makes every
segment gateless, so that one in CLOSING is CLOSED and one in REOPENING is OPEN; built states of a region cleared since
change nothing (R35, R105 to R108, R113).

The model's own choices in it: logs 7, 18, 26, 28, 42, 54. -/
def Obligations.SegmentsComeAndGoWithTheirGates : Prop :=
  (∀ (s : State), s.steady → StoreOk s → PathsOk s →
    (s.active .segments = false → exec .segmentsIntoService s = .next (s.took .segmentsIntoService)) ∧
    (s.active .segments = true → completes .segmentsIntoService s fun t =>
      t.sequencer.inService = true ∧ t.sequencer.clock = s.sequencer.clock ∧ t.time = s.time ∧
      ∀ g, g < 8 → (mapGet t.sequencer.segments g).isSome = (s.reference .segments g).isSome ∧
        ∀ r ∈ t.segment g, ∀ row ∈ t.segmentRow g,
          let down := ∃ k ∈ s.configuredGates g, s.gateState k ≠ .raised
          r.grade = (if .graderSegmentsOutOfService ∈ s.handed then 0
            else ((mapGet s.grader.segments g).map GradeRec.effective).getD 0) ∧
          (r.gateFault = true ↔ ∃ k ∈ s.configuredGates g, s.gateState k = .fault) ∧
          (down → mapGet r.claims 1 = some { urgent := true, placed := s.now } ∧ closesTo s t g r) ∧
          (¬ down → mapGet r.claims 1 = none ∧ gatesOrdered s t g .raise) ∧
          mapGet r.claims 0 = none ∧
          (mapGet r.claims 2 = if r.grade = 5 ∧ row.gradeCloses = true
            then some { urgent := true, placed := s.now } else none) ∧
          (∀ p, p < 16 → mapGet r.claims (3 + p) =
            if (∃ x ∈ mapGet s.monitor.paths p, x.decision = .claimed) ∧
                ∃ x ∈ s.pathRow p, maskHas x.mask g = true
            then some { urgent := true, placed := s.now } else none) ∧
          scheduleEvaluated t g row { r with claims := [] } r ∧
          (r.claims = [] → r = { r with state := .opened, lead := none, grace := none, parameter := 0xFFFF
                                        blocked := false, unannounced := false }) ∧
          (r.claims ≠ [] → r.state ≠ .opened ∧ r.state ≠ .reopening) ∧
          (¬ down → r.claims ≠ [] → noticeBegins s t g row r.urgent r) ∧
          (r.urgent = true → Instr.urgencyNotice g true ∈ t.handed)) ∧
    completes .segmentsOutOfService s (fun t => t = (s.took .segmentsOutOfService).withSequencer
      { s.sequencer with inService := false, segmentRows := [], segments := [], withheld := [] })) ∧
  (∀ (s : State), s.steady → SegmentsOk s →
    (s.active .gates = false → exec .gatesBuiltNotice s = .next (s.took .gatesBuiltNotice)) ∧
    (s.active .gates = true → completes .gatesBuiltNotice s fun t =>
      t.sequencer.gatesBuilt = true ∧ t.sequencer.gateRows = s.drives.rows ∧ t.sequencer.clock = s.sequencer.clock ∧
      ∀ g, g < 8 → ∀ r ∈ s.segment g, ∀ row ∈ s.segmentRow g, ∃ r' ∈ t.segment g,
        segmentHanded t g r r' ∧ r'.grade = r.grade ∧
        (r'.gateFault = true ↔ ∃ k ∈ t.configuredGates g, s.gateState k = .fault) ∧
        (∀ i, i < 51 → i ≠ 1 → mapGet r'.claims i = mapGet r.claims i) ∧
        (r.state = .opened → (∃ k ∈ t.configuredGates g, s.gateState k ≠ .raised) →
          closesTo t t g r' ∧ mapGet r'.claims 1 = some { urgent := true, placed := s.now }) ∧
        (r.state = .opened → (∀ k ∈ t.configuredGates g, s.gateState k = .raised) →
          r'.state = .opened ∧ r'.claims = r.claims ∧ gatesOrdered t t g .raise) ∧
        (r.state = .notice → r'.state = .notice ∧ r'.lead = r.lead ∧ r'.grace = r.grace ∧ r'.claims = r.claims ∧
          ∀ k ∈ t.configuredGates g, (s.gateState k = .raised → Instr.orderEvent k .raise ∈ t.handed) ∧
            (s.gateState k ≠ .raised → k ∈ t.sequencer.withheld)) ∧
        (r.state = .closing → r.claims ≠ [] → gatesOrdered t t g .lower ∧
          r'.state = if t.allGates g .lowered = true then .closed else .closing) ∧
        (r.state = .reopening → gatesOrdered t t g .raise ∧
          r'.state = if t.allGates g .raised = true then .opened else .reopening) ∧
        (r.state = .closed → gatesOrdered t t g .lower ∧
          r'.state = if t.allGates g .lowered = true then .closed else .closing)) ∧
    completes .sequencerGatesOutOfService s (fun t =>
      t.sequencer.gatesBuilt = false ∧ t.sequencer.gateRows = [] ∧ t.sequencer.withheld = [] ∧
      t.sequencer.clock = s.sequencer.clock ∧
      ∀ g, g < 8 → ∀ r ∈ s.segment g, ∀ row ∈ s.segmentRow g, ∃ r' ∈ t.segment g,
        segmentHanded t g r r' ∧ r'.gateFault = false ∧ r'.claims = r.claims ∧ r'.grade = r.grade ∧
        (r.state = .closing → r.claims ≠ [] → r'.state = .closed) ∧
        (r.state = .reopening → r'.state = .opened ∧ r'.unannounced = false) ∧
        (r.state ∉ [.closing, .reopening] → r'.state = r.state ∧ r'.lead = r.lead ∧ r'.grace = r.grace)))

/-! ### Snow gates -/

/-- An order event is recorded and acted on by the gate's state, an order equal to the one held changes nothing: LOWER
takes a gate at rest to HELD, reverses a raising and leaves one LOWERED where it is; RAISE asks for a raise, reverses a
lowering, and takes a HELD gate through the rest reading; NONE withdraws a request. A segment reference that is absent
makes the order NONE (R36, R119, R121 to R123, R130, R131, R134).

The model's own choices in it: logs 15, 32. -/
def Obligations.OrdersActByState : Prop :=
  ∀ (k : Nat) (o : GateOrder) (s : State), s.steady → GatesOk s →
    let c := Instr.orderEvent k o
    (s.gateOf k = none → exec c s = .next (s.took c)) ∧
    (∀ x ∈ s.gateOf k,
      let g := x.1
      let row := x.2
      (g.order = o → exec c s = .next (s.took c)) ∧
      (g.order ≠ o → k < 4 → completes c s fun t => ∃ g' ∈ mapGet t.drives.gates k,
        g'.order = o ∧ g'.travels = g.travels ∧ t.drives.pins = s.drives.pins ∧ gateFrame s t k g g' ∧
        (o = .raise → g'.retries = 0) ∧
        (o = .noOrder → g'.state = g.state ∧ g'.phase = g.phase ∧
          (g.admission = .requested → g'.admission = .noAdmission ∧ givenUp t k g) ∧
          (g.admission ≠ .requested → g'.admission = g.admission)) ∧
        (o = .lower →
          (g.state = .raised ∨ g.state = .unhomed → entersHeld t k row g' ∧ givenUp t k g) ∧
          (g.state = .lowered → g'.state = .lowered ∧ g'.admission = .noAdmission ∧ givenUp t k g) ∧
          (g.state = .held → g'.state = .held ∧ (g.admission = .noAdmission → wayIsClear s k row g →
            g'.admission = .requested ∧ Instr.admissionRequest k .lowering row.draw ∈ t.handed)) ∧
          (g.state = .raising → g.phase ≠ .settle → reverses s.now row g g') ∧
          (g.state ∈ [.lowering, .stopping, .stopped, .fault] ∨ g.phase = .settle → g' = { g with order := o })) ∧
        (o = .raise →
          (g.state = .unhomed ∨ g.state = .lowered → g'.state = g.state ∧ g'.admission = .requested ∧
            (g.admission = .noAdmission → Instr.admissionRequest k .raising row.draw ∈ t.handed)) ∧
          (g.state = .held → restsAs row (s.gatePins k) g g' ∧ givenUp t k g ∧ g'.vehicleTimer = none ∧
            (g'.state = .raised → g'.admission = .noAdmission) ∧
            (g'.state ≠ .raised → g'.admission = .requested ∧
              Instr.admissionRequest k .raising row.draw ∈ t.handed)) ∧
          (g.state = .lowering → g.phase ≠ .settle → reverses s.now row g g') ∧
          (g.state ∈ [.raised, .raising, .stopping, .stopped, .fault] ∨ g.phase = .settle →
            g' = { g with order := o, retries := 0 })))) ∧
    completes .segmentReferenceAbsent s (fun t => t.drives.pins = s.drives.pins ∧
      ∀ j, j < 4 → ∀ g ∈ mapGet s.drives.gates j, ∃ g' ∈ mapGet t.drives.gates j, g'.state = g.state ∧
        (s.gateOf j = none ∨ (s.gateSegment j).isSome = true → g' = g) ∧
        ((s.gateOf j).isSome = true → s.gateSegment j = none → g'.order = .noOrder) ∧
        ((s.gateOf j).isSome = true → s.gateSegment j = none → g.order ≠ .noOrder →
          g'.admission = (if g.admission = .requested then .noAdmission else g.admission) ∧
          (g.admission = .requested → Instr.requestWithdrawn j ∈ t.handed)))

/-- A grant to a HELD gate that waits for it begins a lowering while the way is clear, and is handed back where it is
not; one to a gate that waits to raise begins a raising; any other grant is handed back (R123, R124, R128, R138).

The outputs and the admission of a gate are those of its state and phase: the motor is on toward the travel's end,
the brake released and the admission held in START and RUN; the motor is off and the brake applied in every other state,
with the admission held in STOPPING, none or requested in UNHOMED, LOWERED and HELD, and none elsewhere (R119).

The model's own choices in it: logs 17, 43, 49. -/
def Obligations.GrantsBeginTravels : Prop :=
  (∀ (k : Nat) (dir : Direction) (s : State), s.steady →
    let c := Instr.grant k dir
    (s.gateOf k = none → exec c s = .next ((s.took c).hand (.handBack k))) ∧
    ∀ x ∈ s.gateOf k,
      let g := x.1
      let row := x.2
      let raises := dir = .raising ∧ g.state ∈ [.unhomed, .lowered, .raised]
      let lowers := dir = .lowering ∧ g.state = .held
      (g.admission ≠ .requested ∨ (¬ raises ∧ ¬ lowers) → exec c s = .next ((s.took c).hand (.handBack k))) ∧
      (g.admission = .requested → raises → completes c s fun t => ∃ g' ∈ mapGet t.drives.gates k,
        gateFrame s t k g g' ∧ beginsTravel s.now .raising row g g') ∧
      (g.admission = .requested → lowers → wayIsClear s k row g →
        completes c s fun t => ∃ g' ∈ mapGet t.drives.gates k,
          gateFrame s t k g g' ∧ beginsTravel s.now .lowering row g g') ∧
      (g.admission = .requested → lowers → ¬ wayIsClear s k row g →
        completes c s fun t => ∃ g' ∈ mapGet t.drives.gates k,
          gateFrame s t k g g' ∧ g' = { g with admission := .noAdmission } ∧ Instr.handBack k ∈ t.handed)) ∧
  (∀ (k : Nat) (s : State), s.power = true → GatesOk s → ∀ g ∈ mapGet s.drives.gates k,
    (g.phase = .start ∨ g.phase = .run → s.gateBrakeApplied k = false ∧ g.admission = .held ∧
      (g.state = .lowering → s.gateMotor k = some .lowering) ∧ (g.state = .raising → s.gateMotor k = some .raising) ∧
      (g.state = .lowering ∨ g.state = .raising)) ∧
    (g.phase = .noPhase ∨ g.phase = .settle → s.gateBrakeApplied k = true ∧ s.gateMotor k = none ∧
      (g.admission = .held ↔ g.state = .stopping) ∧
      (g.admission = .requested → g.state = .unhomed ∨ g.state = .lowered ∨ g.state = .held)))

/-- An encoder edge that moves one place along the cycle counts by the direction, then the switch that is active alone
sets the count and homes the gate; one that moves two places is an error of a travel, and a FAULT at the sixteenth. A
lowering ends at the travel count of a homed gate, a raising at the home switch, in a settle or, with a settle time of
0, as at the end of one (log 34); a raising that has passed its end goes to FAULT; a counted edge in RUN restarts the
stall timer (R120, R121, R124 to R129).

The model's own choices in it: logs 22, 34. -/
def Obligations.EncoderEdgesMoveTheCount : Prop :=
  ∀ (k : Nat) (a b home closedEnd : Bool) (s : State), s.steady → GatesOk s → k < 4 →
    let c := Instr.encoderEdge k a b home closedEnd
    let p := s.gatePins k
    let places := (quadrature a b + 4 - quadrature p.encoderA p.encoderB) % 4
    completes c s fun t =>
      t.gatePins k = { p with encoderA := a, encoderB := b, home := home, closedEnd := closedEnd } ∧
      (∀ j, j < 4 → j ≠ k → t.gatePins j = s.gatePins j) ∧
      (s.gateOf k = none ∨ places = 0 → t.drives.gates = s.drives.gates ∧ t.handed = (s.took c).handed) ∧
      ∀ x ∈ s.gateOf k, ∃ g' ∈ mapGet t.drives.gates k,
        let g := x.1
        let row := x.2
        let travelling := g.state = .lowering ∨ g.state = .raising
        let moving := travelling ∧ g.phase ≠ .settle
        let up : Bool := (places == 1) != row.reversed
        let count : Int := if home = true ∧ closedEnd = false then 0
          else if closedEnd = true ∧ home = false then row.travelCount
          else g.count + (if up then 1 else -1)
        let homed : Bool := g.homed || (home != closedEnd)
        let counted := { g with count := count, homed := homed }
        let told := fun causes => s.room 1 → addedV s t (s.gateReports k g g' causes)
        gateFrame s t k g g' ∧
        (places = 2 → ¬ travelling → g' = g) ∧
        (places = 2 → travelling → g.encoderErrors < 15 → g' = { g with encoderErrors := g.encoderErrors + 1 }) ∧
        (places = 2 → travelling → 15 ≤ g.encoderErrors → faultsWith t k .encoder g g' ∧ g'.encoderErrors = 16 ∧
          told [6]) ∧
        (places = 1 ∨ places = 3 →
          (¬ moving → g' = counted) ∧
          (moving → g.state = .lowering → homed = true → row.travelCount ≤ count →
            (1 ≤ row.settleTime → entersSettle t k .lowering row g g' ∧ g'.count = count ∧ g'.homed = homed) ∧
            (row.settleTime = 0 → givenUp t k g ∧ settleEnds (t.gatePins k) t k .lowering row counted g' told)) ∧
          (moving → g.state = .lowering → homed = false ∨ count < row.travelCount →
            g' = { counted with
              stallTimer := if g.phase = .run then some (s.now + row.stallTime) else g.stallTimer }) ∧
          (moving → g.state = .raising → home = true → closedEnd = false →
            (1 ≤ row.settleTime → entersSettle t k .raising row g g' ∧ g'.count = 0 ∧ g'.homed = true) ∧
            (row.settleTime = 0 → givenUp t k g ∧ settleEnds (t.gatePins k) t k .raising row counted g' told)) ∧
          (moving → g.state = .raising → home = false ∨ closedEnd = true →
            homed = true ∧ count ≤ -(row.tolerance : Int) → faultsWith t k .home counted g' ∧ told [5]) ∧
          (moving → g.state = .raising → home = false ∨ closedEnd = true →
            ¬ (homed = true ∧ count ≤ -(row.tolerance : Int)) →
            g' = { counted with
              stallTimer := if g.phase = .run then some (s.now + row.stallTime) else g.stallTimer }))

/-- The expiries of a travel: the start delay into RUN with its two timers, the stall and the travel limit into FAULT
STALL and TIMEOUT, each at its time; with no such timer nothing happens (R124, R128, R129, R137).

The end of a settle. A lowering is LOWERED where the closed-end switch is active or the count within the tolerance,
else in FAULT; a raising is RAISED, going on to HELD under a LOWER order, but one that an obstacle caused counts a retry
under a LOWER order, and is HELD, or in FAULT at the third. A travel that began at START is counted (R122, R125, R126,
R129, R131, R137).

The end of the reversal dwell: the gate takes the direction of the obstacle raise or of its order, settles where
that end is reached (or ends there at once, with a settle time of 0, log 34), waits in HELD where a lowering's way is
not clear, and else begins the travel with the admission it kept (R121, R123, R124, R130). With order NONE and no
obstacle raise it hands its admission back and rests as the rest reading gives (the model's choice, log 16).

The model's own choices in it: logs 3, 16, 34, 39. -/
def Obligations.TravelsTimeOutEndAndReverse : Prop :=
  (∀ (k : Nat) (s : State), s.steady → GatesOk s →
    (s.gateOf k = none → ∀ c ∈ [Instr.startDelayExpiry k, .stallTimerExpiry k, .travelTimerExpiry k,
      .settleExpiry k, .reversalDwellExpiry k, .vehicleWaitExpiry k], exec c s = .next (s.took c)) ∧
    ∀ x ∈ s.gateOf k, k < 4 →
      let g := x.1
      let row := x.2
      (g.phase ≠ .start → exec (.startDelayExpiry k) s = .next (s.took (.startDelayExpiry k))) ∧
      (g.phase ≠ .run → exec (.stallTimerExpiry k) s = .next (s.took (.stallTimerExpiry k)) ∧
        exec (.travelTimerExpiry k) s = .next (s.took (.travelTimerExpiry k))) ∧
      (g.phase = .start → ∀ e, g.phaseTimer = some e → completes (.startDelayExpiry k) s fun t =>
        t.time = max s.time (2 * e) ∧ ∃ g' ∈ mapGet t.drives.gates k, gateFrame s t k g g' ∧
          g' = { g with phase := .run, phaseTimer := none, stallTimer := some (t.now + row.stallTime)
                        travelTimer := some (t.now + 10 * row.travelLimit) }) ∧
      (∀ e, g.stallTimer = some e → completes (.stallTimerExpiry k) s fun t =>
        t.time = max s.time (2 * e) ∧ ∃ g' ∈ mapGet t.drives.gates k, gateFrame s t k g g' ∧
          faultsWith t k .stall g g' ∧ (s.room 1 → addedV s t ((s.reach e).gateReports k g g' [2]))) ∧
      (∀ e, g.travelTimer = some e → completes (.travelTimerExpiry k) s fun t =>
        t.time = max s.time (2 * e) ∧ ∃ g' ∈ mapGet t.drives.gates k, gateFrame s t k g g' ∧
          faultsWith t k .timeout g g' ∧ (s.room 1 → addedV s t ((s.reach e).gateReports k g g' [3])))) ∧
  (∀ (k : Nat) (s : State), s.steady → GatesOk s → k < 4 → ∀ x ∈ s.gateOf k,
    let g := x.1
    let row := x.2
    let c := Instr.settleExpiry k
    (g.phase ≠ .settle → exec c s = .next (s.took c)) ∧
    (g.phase = .settle → ∀ e, g.phaseTimer = some e → completes c s fun t =>
      t.time = max s.time (2 * e) ∧ (g.state = .lowering ∨ g.state = .raising) ∧
      ∃ g' ∈ mapGet t.drives.gates k, gateFrame s t k g g' ∧
        settleEnds (s.gatePins k) t k (if g.state = .lowering then .lowering else .raising) row g g'
          fun causes => s.room 1 → addedV s t ((s.reach e).gateReports k g g' causes))) ∧
  (∀ (k : Nat) (s : State), s.steady → GatesOk s → k < 4 → ∀ x ∈ s.gateOf k,
    let g := x.1
    let row := x.2
    let c := Instr.reversalDwellExpiry k
    (g.state ≠ .stopping → exec c s = .next (s.took c)) ∧
    (g.state = .stopping → ∀ e, g.phaseTimer = some e → completes c s fun t =>
      t.time = max s.time (2 * e) ∧ ∃ g' ∈ mapGet t.drives.gates k, gateFrame s t k g g' ∧
        let p := s.gatePins k
        let u := s.reach e
        let ends := fun dir => givenUp t k g ∧ settleEnds p t k dir row { g with begun := false } g' fun causes =>
          s.room 1 → addedV s t (u.gateReports k g g' causes)
        (g.obstacleRaise = true ∨ g.order = .raise →
          (endReached row p g .raising → 1 ≤ row.settleTime → entersSettle t k .raising row g g') ∧
          (endReached row p g .raising → row.settleTime = 0 → ends .raising) ∧
          (¬ endReached row p g .raising → beginsTravel t.now .raising row g g')) ∧
        (g.obstacleRaise = false → g.order = .lower →
          (endReached row p g .lowering → 1 ≤ row.settleTime → entersSettle t k .lowering row g g') ∧
          (endReached row p g .lowering → row.settleTime = 0 → ends .lowering) ∧
          (¬ endReached row p g .lowering → wayIsClear u k row g → beginsTravel t.now .lowering row g g') ∧
          (¬ endReached row p g .lowering → ¬ wayIsClear u k row g →
            entersHeld t k row g' ∧ Instr.handBack k ∈ t.handed)) ∧
        (g.obstacleRaise = false → g.order = .noOrder →
          restsAs row p g g' ∧ g'.phase = .noPhase ∧ g'.admission = .noAdmission ∧ Instr.handBack k ∈ t.handed ∧
            timersStopped g' ∧ g'.order = .noOrder ∧ g'.travels = g.travels ∧
            (s.room 1 → addedV s t []))))

/-- The safety edge reverses a lowering in START or RUN, with the obstacle raise flag and a report, and acts on no
other travel; a HELD gate asks as its way comes to be clear; the same level changes nothing (R123, R130, R131, R137).

A loop edge latches the elapsed time of the phase that ends and starts the next; a falling edge clears the loop
fault with a report. The loop fault is set when the loop has been high for the presence limit, with a report; clearance
that comes to hold, by the fault or by the clear interval, has a HELD gate ask; the vehicle wait's expiry gives its one
report (R123, R132 to R134, R137).

The model's own choices in it: logs 3, 15, 22. -/
def Obligations.SafetyEdgeAndPresenceAreWatched : Prop :=
  (∀ (k : Nat) (active : Bool) (s : State), s.steady → GatesOk s → k < 4 →
    let c := Instr.safetyEdgeChange k active
    ((s.gatePins k).safety = active → exec c s = .next (s.took c)) ∧
    ((s.gatePins k).safety ≠ active → completes c s fun t =>
      t.gatePins k = { s.gatePins k with safety := active } ∧
      (∀ j, j < 4 → j ≠ k → t.gatePins j = s.gatePins j) ∧
      (s.gateOf k = none → t.drives.gates = s.drives.gates) ∧
      ∀ x ∈ s.gateOf k, ∃ g' ∈ mapGet t.drives.gates k,
        let g := x.1
        let row := x.2
        gateFrame s t k g g' ∧
        (active = true → g.state = .lowering → g.phase ≠ .settle →
          reverses s.now row g g' ∧ g'.obstacleRaise = true ∧ g'.order = g.order ∧
          (s.room 1 → addedV s t (s.gateReports k g g' [9]))) ∧
        (active = true → g.state ≠ .lowering ∨ g.phase = .settle → g' = g) ∧
        (active = false → g.state = .held → g.order = .lower → g.admission = .noAdmission →
          clearanceNow s.now row g → g' = { g with admission := .requested, vehicleTimer := none } ∧
            Instr.admissionRequest k .lowering row.draw ∈ t.handed) ∧
        (active = false → g.state ≠ .held ∨ g.admission ≠ .noAdmission → g' = g))) ∧
  (∀ (k : Nat) (level : Bool) (s : State), s.steady → GatesOk s → k < 4 →
    let asks := fun (t : State) (row : GateRow) (h g' : GateRec) =>
      if h.state = .held ∧ h.order = .lower ∧ h.admission = .noAdmission ∧ (s.gatePins k).safety = false then
        g' = { h with admission := .requested, vehicleTimer := none } ∧
          Instr.admissionRequest k .lowering row.draw ∈ t.handed
      else g' = h
    completes (.loopEdge k level) s (fun t =>
      t.gatePins k = { s.gatePins k with loop := level } ∧
      (∀ j, j < 4 → j ≠ k → t.gatePins j = s.gatePins j) ∧
      (s.gateOf k = none → t.drives.gates = s.drives.gates) ∧
      ∀ x ∈ s.gateOf k, ∃ g' ∈ mapGet t.drives.gates k, gateFrame s t k x.1 g' ∧
        (x.1.presence = none → g' = x.1) ∧
        ∀ p ∈ x.1.presence,
          let elapsed := min 65535 (s.now - p.since)
          (p.level = level → g' = x.1) ∧
          (p.level = false → level = true → g' = { x.1 with
            presence := some { p with level := true, lastLow := elapsed, since := s.now } }) ∧
          (p.level = true → level = false → g' = { x.1 with
            presence := some { p with level := false, lastHigh := elapsed, since := s.now, loopFault := false } } ∧
            (s.room 1 → addedV s t (s.gateReports k x.1 g' (if p.loopFault = true then [11] else []))))) ∧
    ∀ x ∈ s.gateOf k,
      let g := x.1
      let row := x.2
      (g.vehicleTimer = none → exec (.vehicleWaitExpiry k) s = .next (s.took (.vehicleWaitExpiry k))) ∧
      (∀ e, g.vehicleTimer = some e → completes (.vehicleWaitExpiry k) s fun t =>
        t.time = max s.time (2 * e) ∧ ∃ g' ∈ mapGet t.drives.gates k, gateFrame s t k g g' ∧
          g' = { g with vehicleTimer := none } ∧ (s.room 1 → addedV s t ((s.reach e).gateReports k g g' [12]))) ∧
      (g.presence = none → exec (.loopFaultSet k) s = .next (s.took (.loopFaultSet k)) ∧
        exec (.presenceClearance k) s = .next (s.took (.presenceClearance k))) ∧
      ∀ p ∈ g.presence,
        (p.level = false ∨ p.loopFault = true → exec (.loopFaultSet k) s = .next (s.took (.loopFaultSet k))) ∧
        (p.level = true → p.loopFault = false → completes (.loopFaultSet k) s fun t =>
          t.time = max s.time (2 * (p.since + 10 * row.presenceLimit)) ∧ ∃ g' ∈ mapGet t.drives.gates k,
            gateFrame s t k g g' ∧ asks t row { g with presence := some { p with loopFault := true } } g' ∧
            (s.room 1 → addedV s t
              ((s.reach (p.since + 10 * row.presenceLimit)).gateReports k g g' [10]))) ∧
        (g.state ≠ .held ∨ p.level = true ∨ p.loopFault = true →
          exec (.presenceClearance k) s = .next (s.took (.presenceClearance k))) ∧
        (g.state = .held → p.level = false → p.loopFault = false → completes (.presenceClearance k) s fun t =>
          t.time = max s.time (2 * (p.since + 10 * row.clearInterval)) ∧ ∃ g' ∈ mapGet t.drives.gates k,
            gateFrame s t k g g' ∧ asks t row g g'))

/-- GATE STOP: the index and the record are tested; any gate is then STOPPED with its timers stopped and its request or
admission given up, its order, count, homed flag, cause and counts kept; the REPLY with the state before goes out ahead
of the report (R129, R135, R137).

GATE RESUME: only a STOPPED or FAULT gate is resumed. Without an order it rests by the reading; at the end its order
calls for it settles; and else it waits HELD, or takes the rest reading and asks to raise, where its travel breaks no
law: a lowering only in a CLOSING segment, a raising only for an empty claim set. Cause, error count and retry count are
cleared, and the REPLY with the state after goes out, ahead of the report of a settle that ends at once, with a settle
time of 0 (log 34) (R121, R123, R124, R136).

The model's own choices in it: logs 24, 31, 34, 46. -/
def Obligations.GatesAreStoppedAndResumed : Prop :=
  (∀ (tag gate : Byte) (s : State), s.steady → s.drives.started = true →
    let c := Instr.gateStop tag gate
    let k := gate.toNat
    (3 < k → exec c s = .next ((s.took c).reply 0x28 tag badArgument [])) ∧
    (k ≤ 3 → s.gateOf k = none → exec c s = .next ((s.took c).reply 0x28 tag noTable [])) ∧
    (k ≤ 3 → ∀ x ∈ s.gateOf k, completes c s fun t => ∃ g' ∈ mapGet t.drives.gates k,
      let g := x.1
      gateFrame s t k g g' ∧ t.drives.pins = s.drives.pins ∧ givenUp t k g ∧
      g' = { g with state := .stopped, phase := .noPhase, admission := .noAdmission, obstacleRaise := false
                    phaseTimer := none, stallTimer := none, travelTimer := none, vehicleTimer := none
                    begun := false } ∧
      (s.room 2 → g.state ≠ .stopped → addedV s t
        (s.replyFrame 0x28 tag done
          (gate :: byteOf (GateState.num g.state) ++ countItem g.count ++ byteOf (FaultCause.num g.cause)) ::
            s.gateReports k g g' [8])))) ∧
  (∀ (tag gate : Byte) (s : State), s.steady → s.drives.started = true →
    let c := Instr.gateResume tag gate
    let k := gate.toNat
    (3 < k → exec c s = .next ((s.took c).reply 0x29 tag badArgument [])) ∧
    (k ≤ 3 → s.gateOf k = none → exec c s = .next ((s.took c).reply 0x29 tag noTable [])) ∧
    (k ≤ 3 → ∀ x ∈ s.gateOf k,
      let g := x.1
      let row := x.2
      let p := s.gatePins k
      let met := (g.order = .lower ∧ endReached row p g .lowering) ∨ (g.order = .raise ∧ endReached row p g .raising)
      let lawful := (g.order = .lower ∧ ∃ r ∈ s.segment row.segment, r.state = .closing) ∨
        (g.order = .raise ∧ ∀ r ∈ s.segment row.segment, r.claims = [])
      let refused := g.state ∉ [.stopped, .fault] ∨ (g.order ≠ .noOrder ∧ ¬ met ∧ ¬ lawful)
      let dir := if g.order = .lower then Direction.lowering else .raising
      let reply := fun g' : GateRec => s.replyFrame 0x29 tag done
        (gate :: byteOf (GateState.num g'.state) ++ countItem g'.count ++ flagByte g'.homed)
      (refused → exec c s = .next ((s.took c).reply 0x29 tag wrongState [])) ∧
      (¬ refused → GatesOk s → completes c s fun t => ∃ g' ∈ mapGet t.drives.gates k,
        gateFrame s t k g g' ∧ g'.order = g.order ∧ g'.travels = g.travels ∧
        (g.order = .noOrder → restsAs row p g g' ∧ g'.admission = .noAdmission) ∧
        g'.cause = .noCause ∧ g'.encoderErrors = 0 ∧ g'.retries = 0 ∧ (s.room 1 → leadsV s t (reply g')) ∧
        (¬ (met ∧ row.settleTime = 0) → s.room 1 → addedV s t [reply g']) ∧
        (met → 1 ≤ row.settleTime → entersSettle t k (travelState dir) row g g' ∧ g'.begun = false) ∧
        (met → row.settleTime = 0 → settleEnds p t k dir row
          { g with cause := .noCause, encoderErrors := 0, retries := 0, begun := false } g' fun causes =>
            s.room 2 → addedV s t (reply g' :: s.gateReports k g g' causes)) ∧
        (¬ met → g.order = .lower → entersHeld t k row g') ∧
        (¬ met → g.order = .raise → restsAs row p g g' ∧ g'.admission = .requested ∧
          Instr.admissionRequest k .raising row.draw ∈ t.handed))))

/-- GATES entering service builds each present row's gate from its switches, homed flag clear before the reading, its
presence monitor reset and its travels kept, and hands the built states over without a report; leaving service makes
every gate UNCONFIGURED, giving up what it holds and keeping its travels; a notice of a region cleared since changes
nothing (R35, R119, R121, R132, R137, R138).

The model's own choices in it: logs 13, 50, 54. -/
def Obligations.GatesComeAndGo : Prop :=
  ∀ (s : State), s.steady → GatesOk s →
    (s.active .gates = false → exec .gatesIntoService s = .next (s.took .gatesIntoService)) ∧
    (s.active .gates = true → completes .gatesIntoService s fun t =>
      t.drives.pins = s.drives.pins ∧ t.line = s.line ∧
      t.handed = (s.took .gatesIntoService).handed ++ [.gatesBuiltNotice] ∧
      ∀ k, k < 4 → ∀ g ∈ mapGet s.drives.gates k, ∃ g' ∈ mapGet t.drives.gates k,
        (s.reference .gates k = none → g' = g) ∧
        ∀ row ∈ (s.reference .gates k).map Machine.gateRow,
          g'.travels = g.travels ∧ g'.phase = .noPhase ∧ g'.order = .noOrder ∧
          g'.admission = .noAdmission ∧ g'.cause = .noCause ∧ g'.encoderErrors = 0 ∧ g'.retries = 0 ∧
          restsAs row (s.gatePins k) { g with homed := false, count := g'.count } { g' with count := g'.count } ∧
          (row.loopFitted = false → g'.presence = none) ∧
          (row.loopFitted = true → g'.presence = some
            { level := (s.gatePins k).loop, since := s.now, loopFault := false
              lastHigh := if (s.gatePins k).loop = true then 65535 else 0
              lastLow := if (s.gatePins k).loop = true then 0 else 65535 })) ∧
    completes .gatesOutOfService s (fun t =>
      t.drives.pins = s.drives.pins ∧ t.drives.rows = [] ∧ t.line = s.line ∧
      ∀ k, k < 4 → ∀ g ∈ mapGet s.drives.gates k, ∃ g' ∈ mapGet t.drives.gates k,
        g'.state = .unconfigured ∧ g'.travels = g.travels ∧ g'.admission = .noAdmission ∧ g'.order = .noOrder ∧
        timersStopped g' ∧ givenUp t k g ∧
        (g.state ≠ .unconfigured → Instr.gateStateNotice k ∈ t.handed))

/-! ### The supply budget -/

/-- SET BUDGET stores the value, 4000 at most, recomputes, and answers with B, F, C, E and the below-floor flag ahead of
the report of a changed flag; no admission is withdrawn (R140, R143 to R145, R149, R169). -/
def Obligations.SetBudgetStoresAndRecomputes : Prop :=
  ∀ (tag : Byte) (budget : BitVec 16) (s : State), s.steady →
    let c := Instr.setBudget tag budget
    (s.allocator.started = false → exec c s = .next ((s.took c).withWaiting (s.waiting ++ [c]))) ∧
    (s.allocator.started = true → completes c s fun t =>
      let a := t.allocator
      let reply := s.replyFrame 0x30 tag done
        (figureItem a.budget ++ figureItem a.figures.floor ++ figureItem a.figures.ceiling ++
          figureItem a.figures.effective ++ flagByte a.belowFloor)
      a.budget = min 4000 budget.toNat ∧ a.requested = s.allocator.requested ∧ a.lit = s.allocator.lit ∧
        recomputes s t s.allocator.granted s.allocator.queue ∧
        s.allocator.admitted.isPrefixOf a.admitted = true ∧ (s.room 1 → leadsV s t reply) ∧
        (s.room 2 → addedV s t (reply :: s.budgetReports s.allocator.belowFloor a 0)))

/-- A request joins the motion queue at its place, one entry a gate; a hand-back takes the gate's draw out of H; a
withdrawal takes its entry out. The head is examined at a hand-back and at every change of the head, and heads that fit
are granted in order; once GATES is cleared none is granted (R32, R145 to R148). A request that finds GATES not ACTIVE
is dropped, and one that comes before GATES' notice is taken has the notice's effect first, behind that of a clear whose
notice still waits (R32, R150; log 44).

An urgency notice gives the queued lowerings of the segment's gates their new class and place, and a changed head
is examined; while SEGMENTS is not ACTIVE, no urgency is taken, and where it is ACTIVE again while the notice of a clear
still waits, that notice has its effect first (R147, R148, R150; log 44).

The model's own choices in it: logs 17, 44. -/
def Obligations.MotorCurrentIsGrantedInOrder : Prop :=
  (∀ (k : Nat) (dir : Direction) (draw : Nat) (s : State), s.steady → QueueOk s →
    let c := Instr.admissionRequest k dir draw
    let a := s.allocator
    let others := a.queue.filter fun e => e.gate != k
    let urgent := dir == .lowering && (s.allocatorGateRow k).any fun row => a.urgent.contains row.segment
    let e := match a.queue.find? (fun e => e.gate == k) with
      | some e => { e with direction := dir, urgent := urgent }
      | none =>
        { gate := k, direction := dir, draw := draw, urgent := urgent, time := s.now, joined := nextJoined a.queue }
    let q := placeEntry e others
    (s.active .gates = false → exec c s = .next (s.took c)) ∧
    let note := Instr.budgetRegionNotice .gates
    let others' := fun t : State => t.handed.filter fun x => decide (x ∉ [c, note true, note false, .spaceSignal .v])
    (s.active .gates = true → a.gatesIn = false ∨ note false ∈ s.handed →
      completes c s fun t => completes (note true) s fun u => completes c u fun v =>
        t.allocator = v.allocator ∧ t.line = v.line ∧ others' t = others' v) ∧
    (s.active .gates = true → a.gatesIn = true → note false ∉ s.handed → inOrder q ∧ (∀ x ∈ others, x ∈ q) ∧ e ∈ q ∧
      q.length = others.length + 1 ∧
      completes c s fun t => t.allocator.figures = a.figures ∧ t.line = s.line ∧ examines q a.admitted t) ∧
    completes (.handBack k) s (fun t => t.allocator.figures = a.figures ∧ t.line = s.line ∧
      examines a.queue (a.admitted.eraseP fun e => e.1 == k) t) ∧
    completes (.requestWithdrawn k) s (fun t => t.allocator.figures = a.figures ∧ t.line = s.line ∧
      (others.head? ≠ a.queue.head? → examines others a.admitted t) ∧
      (others.head? = a.queue.head? → t.allocator.queue = others ∧ t.allocator.admitted = a.admitted))) ∧
  (∀ (g : Nat) (urgent : Bool) (s : State), s.steady → QueueOk s →
    let c := Instr.urgencyNotice g urgent
    let a := s.allocator
    (s.active .segments = false → exec c s = .next (s.took c)) ∧
    let gone := Instr.budgetRegionNotice .segments false
    (s.active .segments = true → gone ∈ s.handed →
      completes c s fun t => completes gone (s.withHanded (s.handed.filter fun x => x != gone)) fun u =>
        completes c u fun v => t.allocator = v.allocator ∧ t.line = v.line ∧ t.handed = v.handed) ∧
    (s.active .segments = true → gone ∉ s.handed → completes c s fun t =>
      let q := placeAll (a.queue.map (classedAs s t.allocator.urgent))
      (∀ n, n ∈ t.allocator.urgent ↔ (n = g ∧ urgent = true) ∨ (n ≠ g ∧ n ∈ a.urgent)) ∧
      inOrder q ∧ q.length = a.queue.length ∧ (∀ e ∈ a.queue, classedAs s t.allocator.urgent e ∈ q) ∧
      t.allocator.figures = a.figures ∧ t.line = s.line ∧
      (q.head? ≠ a.queue.head? → examines q a.admitted t) ∧
      (q.head? = a.queue.head? → t.allocator.queue = q ∧ t.allocator.admitted = a.admitted)))

/-- A change of a sign's lit state changes the lit set, one of the light channel the requested level, and each change
recomputes the figures; a lit notice for a sign with no present row is dropped, and one that comes before SIGNS'
notice has the notice's effect first, behind that of a clear whose notice still waits (R141, R142, R144, R149, R150;
log 44).

The Allocator's regions: SIGNS comes with an empty lit set and goes with it, GATES comes with the configured draws
and goes with every queued request, CHANNELS has the requested level computed afresh, and SEGMENTS leaving discards the
urgency; a notice whose effect has been taken, or of a region that has been cleared since, changes nothing. An entry
notice taken ahead of the notice of a clear has that one's effect first, and it then no longer waits (R35, R141, R144,
R147, R150; log 44).

The model's own choices in it: logs 27, 44. -/
def Obligations.LightLitSignsAndRegionsRecompute : Prop :=
  (∀ (g : Nat) (lit : Bool) (status : ChannelStatus) (filtered : Int) (s : State), s.steady →
    let a := s.allocator
    let c := Instr.litNotice g lit
    let d := Instr.lightChannelChange g status filtered
    let level := if (s.reference .channels g).isSome = true ∧ status = .live then
        (min 7 (1 + max filtered 0 / (s.store.site.lightStep.toNat : Int))).toNat
      else 7
    let note := Instr.budgetRegionNotice .signs
    let others := fun t : State => t.handed.filter fun x => decide (x ∉ [c, note true, note false, .spaceSignal .v])
    (s.active .signs = true → a.signsIn = false ∨ note false ∈ s.handed →
      completes c s fun t => completes (note true) s fun u => completes c u fun v =>
        t.allocator = v.allocator ∧ t.line = v.line ∧ others t = others v) ∧
    (s.active .signs = false ∨ (a.signsIn = true ∧ note false ∉ s.handed) →
      (s.allocatorSignRow g = none → exec c s = .next (s.took c)) ∧
      (∀ row ∈ s.allocatorSignRow g, completes c s fun t =>
        (∀ n, n ∈ t.allocator.lit ↔ (n = g ∧ lit = true) ∨ (n ≠ g ∧ n ∈ a.lit)) ∧
        t.allocator.requested = a.requested ∧ t.allocator.budget = a.budget ∧
        (t.allocator.lit = a.lit → t = s.took c) ∧
        (t.allocator.lit ≠ a.lit → recomputes s t a.granted a.queue ∧
          (s.room 1 → addedV s t (s.budgetReports a.belowFloor t.allocator 1))))) ∧
    (s.store.site.light ≠ some g ∨ level = a.requested → exec d s = .next (s.took d)) ∧
    (s.store.site.light = some g → level ≠ a.requested → completes d s fun t =>
      t.allocator.requested = level ∧ t.allocator.lit = a.lit ∧ t.allocator.budget = a.budget ∧
        recomputes s t a.granted a.queue ∧
        (s.room 1 → addedV s t (s.budgetReports a.belowFloor t.allocator 2)))) ∧
  (∀ (s : State), s.steady → QueueOk s →
    let a := s.allocator
    let note := Instr.budgetRegionNotice
    let others := fun t : State => t.handed.filter fun x => x != .spaceSignal .v
    let early := fun r : Region => s.withHanded (s.handed.filter fun x => x != note r false)
    (∀ r ∈ [Region.signs, .gates, .segments], s.active r = true → note r false ∈ s.handed →
      completes (note r true) s fun t => completes (note r false) (early r) fun u =>
        completes (note r true) u fun v => t.allocator = v.allocator ∧ t.line = v.line ∧ others t = others v) ∧
    (s.active .signs = false ∨ (a.signsIn = true ∧ note .signs false ∉ s.handed) →
      exec (note .signs true) s = .next (s.took (note .signs true))) ∧
    (a.signsIn = false → s.active .signs = true → note .signs false ∉ s.handed → completes (note .signs true) s fun t =>
      t.allocator.signsIn = true ∧ t.allocator.lit = [] ∧
        (∀ g, g < 24 → mapGet t.allocator.signRows g = s.reference .signs g) ∧ recomputes s t [] a.queue ∧
        (s.room 1 → addedV s t (s.budgetReports a.belowFloor t.allocator 1))) ∧
    completes (note .signs false) s (fun t =>
      t.allocator.signsIn = false ∧ t.allocator.signRows = [] ∧ t.allocator.lit = [] ∧
        t.allocator.granted = [] ∧ recomputes s t [] a.queue ∧
        (s.room 1 → addedV s t (s.budgetReports a.belowFloor t.allocator 1))) ∧
    (s.active .gates = false ∨ (a.gatesIn = true ∧ note .gates false ∉ s.handed) →
      exec (note .gates true) s = .next (s.took (note .gates true))) ∧
    (a.gatesIn = false → s.active .gates = true → note .gates false ∉ s.handed → completes (note .gates true) s fun t =>
      t.allocator.gatesIn = true ∧ (∀ k, k < 4 → mapGet t.allocator.gateRows k = s.reference .gates k) ∧
        recomputes s t a.granted a.queue ∧
        (s.room 1 → addedV s t (s.budgetReports a.belowFloor t.allocator 4))) ∧
    completes (note .gates false) s (fun t =>
      t.allocator.gatesIn = false ∧ t.allocator.gateRows = [] ∧ t.allocator.queue = [] ∧ recomputes s t a.granted [] ∧
        (s.room 1 → addedV s t (s.budgetReports a.belowFloor t.allocator 4))) ∧
    (∀ entered ∈ [true, false], completes (note .channels entered) s fun t =>
      t.allocator.requested = t.freshRequested ∧
        recomputes s t a.granted a.queue ∧
        (s.room 1 → addedV s t (s.budgetReports a.belowFloor t.allocator 2))) ∧
    completes (note .segments false) s (fun t =>
      let q := placeAll (a.queue.map (classedAs s []))
      t.allocator.urgent = [] ∧ t.allocator.figures = a.figures ∧ inOrder q ∧ (∀ e ∈ q, e.urgent = false) ∧
        (q.head? ≠ a.queue.head? → examines q a.admitted t) ∧
        (q.head? = a.queue.head? → t.allocator.queue = q ∧ t.allocator.admitted = a.admitted)) ∧
    (s.active .segments = false ∨ note .segments false ∉ s.handed →
      exec (note .segments true) s = .next (s.took (note .segments true))) ∧
    ∀ x ∈ [(Region.gradeRules, true), (.gradeRules, false), (.paths, true), (.paths, false),
        (.schedule, true), (.schedule, false)],
      exec (note x.1 x.2) s = .next (s.took (note x.1 x.2)))

/-! ### Sign publication -/

/-- Segment, grade and warning notices, and SEGMENTS coming and going, change the view, and the winner of every sign
they concern is decided afresh, with its lit notice and what its phase allows of a new cycle; a notice for a segment
with no present row is dropped, and no other sign changes (R154, R155, R157, R166). That an owner's record from before
a clear of SEGMENTS reads as one not yet built is the model's choice (log 42).

A grant notice gives a sign its granted level, which changes the desired record of a lit sign only, and acts by the
sign's phase (R157).

The model's own choices in it: log 42. -/
def Obligations.NoticesActAtTheSigns : Prop :=
  (∀ (g p grade : Nat) (state : ClosureState) (parameter : BitVec 16) (on : Bool) (mask : Byte) (s : State),
    s.steady → SignsOk s →
    let decides := fun (t : State) (concerned : Nat → Bool) => t.publisher.sweep = s.publisher.sweep ∧
      ∀ h, h < 24 → (mapGet t.publisher.signs h).isSome = (mapGet s.publisher.signs h).isSome ∧
        ∀ r ∈ mapGet s.publisher.signs h, ∃ r' ∈ mapGet t.publisher.signs h,
          (s.signRow h = none → r' = r) ∧
          ∀ row ∈ s.signRow h, if concerned row.segment = true then decidedAfresh false s t h row r.forced r r'
            else r' = r
    let viewed := fun (f : SegmentView → SegmentView) (t : State) =>
      t.publisher.pathView = s.publisher.pathView ∧ decides t (fun n => n == g) ∧
      mapGet t.publisher.segmentView g = (mapGet s.publisher.segmentView g).map f ∧
      ∀ n, n < 8 → n ≠ g → mapGet t.publisher.segmentView n = mapGet s.publisher.segmentView n
    let c := Instr.segmentNotice g state parameter
    let d := Instr.gradeNotice g grade
    (mapGet s.publisher.segmentView g = none →
      exec c s = .next (s.took c) ∧ exec d s = .next (s.took d)) ∧
    ((mapGet s.publisher.segmentView g).isSome = true →
      completes c s (viewed fun v => { v with state := state, parameter := parameter }) ∧
      completes d s (viewed fun v => { v with grade := grade })) ∧
    completes (.warningNotice p on mask) s (fun t =>
      t.publisher.segmentView = s.publisher.segmentView ∧ decides t (maskHas mask) ∧
      mapGet t.publisher.pathView p = some { warning := on, mask := mask } ∧
      ∀ n, n < 16 → n ≠ p → mapGet t.publisher.pathView n = mapGet s.publisher.pathView n) ∧
    ∀ entered ∈ [true, false], completes (.signerSegmentsNotice entered) s fun t =>
      t.publisher.pathView = s.publisher.pathView ∧ decides t (fun _ => true) ∧
      ∀ n, n < 8 → mapGet t.publisher.segmentView n =
        if entered = true ∧ (s.reference .segments n).isSome = true then some
          { state := ((s.segment n).map SegmentRec.state).getD .opened
            parameter := ((s.segment n).map SegmentRec.parameter).getD 0xFFFF
            grade := if s.active .segments = true ∧ .graderSegmentsOutOfService ∉ s.handed
              then ((mapGet s.grader.segments n).map GradeRec.effective).getD 0 else 0 }
        else none) ∧
  (∀ (g level : Nat) (s : State), s.steady → SignsOk s → g < 24 →
    let c := Instr.grantNotice g level
    (s.sign g = none → exec c s = .next (s.took c)) ∧
    ∀ r ∈ s.sign g, ∀ row ∈ s.signRow g, completes c s fun t => ∃ r' ∈ mapGet t.publisher.signs g,
      signFrame s t g ∧ t.publisher.sweep = s.publisher.sweep ∧ r'.granted = level ∧ r'.forced = r.forced ∧
        r'.winner = r.winner ∧ desireActs true s t g row r r')

/-- FORCE FACE sets, replaces or cancels a forced face, which decides the sign's winner afresh, a forced face of 0
included; a cancellation where no face is forced is answered and changes nothing; the forced timer's expiry cancels the
forced face too (R155 to R157, R169).

The model's own choices in it: logs 3, 42, 46. -/
def Obligations.ForcedFacesComeFirst : Prop :=
  ∀ (tag sign face : Byte) (duration : BitVec 16) (s : State), s.steady → SignsOk s → s.publisher.started = true →
    let g := sign.toNat
    let c := Instr.forceFace tag sign face duration
    let d := Instr.forcedTimerExpiry g
    (23 < g → exec c s = .next ((s.took c).reply 0x38 tag badArgument [])) ∧
    (g ≤ 23 → s.sign g = none → exec c s = .next ((s.took c).reply 0x38 tag noTable []) ∧
      exec d s = .next (s.took d)) ∧
    (g ≤ 23 → ∀ r ∈ s.sign g, ∀ row ∈ s.signRow g,
      let forced := if duration = 0 then none else some (face, s.now + 10 * duration.toNat)
      (duration = 0 → r.forced = none → exec c s = .next ((s.took c).reply 0x38 tag done
        (sign :: byteOf (WinnerKind.num r.winner.kind) ++ [r.winner.face] ++ timerItem none))) ∧
      (duration ≠ 0 ∨ r.forced.isSome = true → completes c s fun t => ∃ r' ∈ mapGet t.publisher.signs g,
        signFrame s t g ∧ t.publisher.sweep = s.publisher.sweep ∧ decidedAfresh true s t g row forced r r' ∧
          (s.room 2 → s.replyFrame 0x38 tag done
            (sign :: byteOf (WinnerKind.num r'.winner.kind) ++ [r'.winner.face] ++
              timerItem (if duration = 0 then none else some (10 * duration.toNat))) ∈ t.line.portV.localQ)) ∧
      (r.forced = none → exec d s = .next (s.took d)) ∧
      ∀ f ∈ r.forced, completes d s fun t => ∃ r' ∈ mapGet t.publisher.signs g,
        t.time = max s.time (2 * f.2) ∧ signFrame s t g ∧ t.publisher.sweep = s.publisher.sweep ∧
          decidedAfresh true s t g row none r r')

/-- A FACE REPORT is ignored unless it passes its tests and comes from a sign that is AWAITING, with the published
token. One that matches confirms the sign, with a confirmation notice, and ends the cycle; one that does not sets the
mismatch flag and the next attempt follows at once, or at the third the cycle ends in FAULT (R159 to R163).

The expiry of the reply timer fails the attempt: the next one follows at once, and the third ends the cycle FAULT
where a mismatch was seen, else UNREACHABLE; a sweep that waits at the sign has no part in it but at the cycle's end.
The expiry of the republish timer starts a new cycle whatever the status
(R160, R161, R163).

The model's own choices in it: logs 3, 46. -/
def Obligations.AttemptsAreDecided : Prop :=
  (∀ (a : Arrival) (g : Nat) (s : State), s.steady → SignsOk s →
    let c := Instr.faceReport a
    let names := fun (h : Nat) => ∃ row ∈ s.signRow h, row.address = a.source.toNat
    (s.publisher.started = false ∨ parseFaceReport a.payload = none ∨
        (∀ h, h < 24 → (s.sign h).isSome = true → ¬ names h) → exec c s = .next (s.took c)) ∧
    (parseFaceReport a.payload = none ↔ a.payload.length ≠ 4 ∨ 7 < (byteAt a.payload 2).toNat ∨
      3 < (byteAt a.payload 3).toNat) ∧
    (s.publisher.started = true → g < 24 → (∀ h, h < 24 → names h → h = g) → ∀ r ∈ s.sign g, ∀ row ∈ s.signRow g,
      row.address = a.source.toNat → ∀ f ∈ parseFaceReport a.payload,
      let fails := f.face ≠ r.published.face ∨ f.level ≠ r.published.level
      (r.phase ≠ .awaiting ∨ f.token ≠ r.token → exec c s = .next (s.took c)) ∧
      (r.phase = .awaiting → f.token = r.token → sweepElsewhere s g ∨ (fails ∧ r.attempts < 3) → completes c s fun t =>
        ∃ r' ∈ mapGet t.publisher.signs g,
          signFrame s t g ∧ t.publisher.sweep = s.publisher.sweep ∧ r'.condition = f.condition ∧
          f.token.toNat = (byteAt a.payload 0).toNat ∧ f.face = byteAt a.payload 1 ∧
          f.level = (byteAt a.payload 2).toNat ∧ Condition.num f.condition = (byteAt a.payload 3).toNat + 1 ∧
          (¬ fails → r'.status = .confirmed ∧ r'.confirmed = some (f.face, f.level) ∧
            Instr.confirmationNotice g f.face ∈ t.handed ∧ cycleEnds s t g row r r') ∧
          (fails → r'.confirmed = r.confirmed ∧
            (r.attempts < 3 → r'.status = r.status ∧ r'.mismatch = true ∧ r'.republish = r.republish ∧
              attempts true s t g row r.attempts r r') ∧
            (3 ≤ r.attempts → r'.status = .fault ∧ cycleEnds s t g row r r')) ∧
          (s.room 2 → reportsV s t (s.signReports g r r' (r.mismatch || decide fails)))))) ∧
  (∀ (g : Nat) (s : State), s.steady → SignsOk s → g < 24 →
    let c := Instr.replyTimerExpiry g
    let d := Instr.republishTimerExpiry g
    (s.sign g = none → exec c s = .next (s.took c) ∧ exec d s = .next (s.took d)) ∧
    ∀ r ∈ s.sign g, ∀ row ∈ s.signRow g,
      (r.reply = none → exec c s = .next (s.took c)) ∧ (r.republish = none → exec d s = .next (s.took d)) ∧
      (∀ e ∈ r.reply, sweepElsewhere s g ∨ r.attempts < 3 → completes c s fun t => ∃ r' ∈ mapGet t.publisher.signs g,
        t.time = max s.time (2 * e) ∧ signFrame s t g ∧ t.publisher.sweep = s.publisher.sweep ∧
        r'.condition = r.condition ∧ r'.confirmed = r.confirmed ∧
        (r.attempts < 3 → r'.status = r.status ∧ r'.mismatch = r.mismatch ∧ r'.republish = r.republish ∧
          attempts true s t g row r.attempts r r') ∧
        (3 ≤ r.attempts → r'.status = (if r.mismatch = true then .fault else .unreachable) ∧
          cycleEnds s t g row r r') ∧
        (s.room 2 → reportsV s t ((s.reach e).signReports g r r' r.mismatch))) ∧
      ∀ e ∈ r.republish, completes d s fun t => ∃ r' ∈ mapGet t.publisher.signs g,
        t.time = max s.time (2 * e) ∧ signFrame s t g ∧ t.publisher.sweep = s.publisher.sweep ∧ sameOutcome r r' ∧
        r'.desired = r.desired ∧ cycleStarts true s t g row r r')

/-- At a space signal the held signs of the port make their attempts from the head of its hold list, until one is
answered FULL and stays at the head, or the list is empty (R13, R158).

SIGN SWEEP is tested in the order of R164 and then takes its first sign: one with no record stops it, an IDLE one
starts a fresh cycle, whatever it shows, and a busy one is waited for (R164, R165, R169).

A sweep that waits for a sign starts its own cycle there when the sign's cycle ends, by a match at any attempt or
by the failure of the third, in place of a pending one; the end of its own cycle stops it with position, residual
count and reason, or, confirmed, takes it on to the next sign or to its DONE reply (R165).

The model's own choices in it: logs 33, 46, 57. -/
def Obligations.HoldListsAndSweepsGoInOrder : Prop :=
  (∀ (p : Port) (s : State), s.steady → SignsOk s →
    (∀ g ∈ s.publisher.hold p, ∃ row ∈ s.signRow g, row.port = p) →
    let l := s.publisher.hold p
    completes (.spaceSignal p) s fun t => ∃ n ∈ List.range (l.length + 1),
      t.publisher.hold p = l.drop n ∧ t.publisher.hold (opposite p) = s.publisher.hold (opposite p) ∧
      (∀ g ∈ l.take n, ∀ r ∈ mapGet s.publisher.signs g, ∃ r' ∈ mapGet t.publisher.signs g,
        attemptTaken t r.attempts r r' ∧ r'.desired = r.desired ∧ r'.mismatch = r.mismatch) ∧
      (∀ g, g < 24 → g ∉ l.take n → mapGet t.publisher.signs g = mapGet s.publisher.signs g) ∧
      (n < l.length → ¬ t.takesAt p) ∧ (s.takesAt p → l ≠ [] → 1 ≤ n) ∧
      t.publisher.sweep = s.publisher.sweep ∧ t.publisher.segmentView = s.publisher.segmentView) ∧
  (∀ (tag : Byte) (signs : List Byte) (s : State), s.steady → SignsOk s → s.publisher.started = true →
    let c := Instr.signSweep tag signs
    let refused := fun (x : Byte) => exec c s = .next ((s.took c).reply 0x39 tag x [])
    let bad := signs = [] ∨ 24 < signs.length ∨ ∃ b ∈ signs, 23 < b.toNat
    (bad → refused badArgument) ∧
    (¬ bad → s.active .signs = false ∨ .signsOutOfService ∈ s.handed → refused noTable) ∧
    (¬ bad → s.active .signs = true → .signsOutOfService ∉ s.handed → s.publisher.sweep.isSome = true →
      refused busyResult) ∧
    (¬ bad → s.active .signs = true → .signsOutOfService ∉ s.handed → s.publisher.sweep = none → ∀ b ∈ signs.head?,
      let g := b.toNat
      let w : Sweep := { signs := signs.map BitVec.toNat, position := 0, tag := tag, own := false }
      (s.sign g = none → exec c s = .next
        ((s.took c).reply 0x39 tag stoppedResult (byteOf 0 ++ byteOf signs.length ++ [noTable]))) ∧
      ∀ r ∈ s.sign g, ∀ row ∈ s.signRow g,
        (r.phase ≠ .idle → exec c s = .next ((s.took c).withSweep (some w))) ∧
        (r.phase = .idle → completes c s fun t => ∃ r' ∈ mapGet t.publisher.signs g,
          signFrame s t g ∧ t.publisher.sweep = some { w with own := true } ∧ sameOutcome r r' ∧
          r'.desired = r.desired ∧ cycleStarts true s t g row r r'))) ∧
  (∀ (g : Nat) (a : Arrival) (s : State), s.steady → SignsOk s → s.room 3 → g < 24 → s.publisher.started = true →
    ∀ w ∈ s.publisher.sweep, w.signs[w.position]? = some g → ∀ r ∈ s.sign g, ∀ row ∈ s.signRow g,
      r.phase = .awaiting →
      let c := Instr.replyTimerExpiry g
      let d := Instr.faceReport a
      let reports := fun (shown : Bool) => row.address = a.source.toNat ∧
        (∀ h, h < 24 → (∃ row' ∈ s.signRow h, row'.address = a.source.toNat) → h = g) ∧
        ∃ f ∈ parseFaceReport a.payload, f.token = r.token ∧
          (shown = true ↔ f.face = r.published.face ∧ f.level = r.published.level)
      let next := w.position + 1
      (w.own = false →
        (r.attempts = 3 → completes c s fun t => t.publisher.sweep = some { w with own := true } ∧
          ∃ r' ∈ mapGet t.publisher.signs g, r'.status = (if r.mismatch = true then .fault else .unreachable) ∧
            cycleStarts true s t g row r r') ∧
        (r.attempts = 3 → reports false → completes d s fun t => t.publisher.sweep = some { w with own := true } ∧
          ∃ r' ∈ mapGet t.publisher.signs g, r'.status = .fault ∧ cycleStarts true s t g row r r') ∧
        (reports true → completes d s fun t => t.publisher.sweep = some { w with own := true } ∧
          ∃ r' ∈ mapGet t.publisher.signs g, r'.status = .confirmed ∧ cycleStarts true s t g row r r')) ∧
      (w.own = true →
        let stopped := fun (t : State) (reason : Byte) => t.publisher.sweep = none ∧
          s.replyFrame 0x39 w.tag stoppedResult
            (byteOf w.position ++ byteOf (w.signs.length - w.position) ++ [reason]) ∈ t.line.portV.localQ
        (r.attempts = 3 →
          completes c s (fun t => stopped t (if r.mismatch = true then reasonFault else reasonUnreachable)) ∧
          (reports false → completes d s fun t => stopped t reasonFault)) ∧
        (reports true → completes d s fun t =>
          (next = w.signs.length → t.publisher.sweep = none ∧
            s.replyFrame 0x39 w.tag done (byteOf w.signs.length) ∈ t.line.portV.localQ) ∧
          ∀ h ∈ w.signs[next]?,
            let idle := (h = g ∧ r.nextPending = false) ∨ (h ≠ g ∧ ∃ x ∈ s.sign h, x.phase = .idle)
            (s.sign h = none → t.publisher.sweep = none ∧
              s.replyFrame 0x39 w.tag stoppedResult
                (byteOf next ++ byteOf (w.signs.length - next) ++ [noTable]) ∈ t.line.portV.localQ) ∧
            ((s.sign h).isSome = true → idle →
              t.publisher.sweep = some { w with position := next, own := true } ∧
              ∀ x ∈ s.sign h, ∀ row' ∈ s.signRow h, ∃ r' ∈ mapGet t.publisher.signs h,
                cycleStarts false s t h row' x r') ∧
            ((s.sign h).isSome = true → ¬ idle →
              t.publisher.sweep = some { w with position := next, own := false }))))

/-- SIGNS coming builds and publishes every present sign; SIGNS going discards every record, forced face and hold
list, stopping a running sweep with NO TABLE; a restart abandons the sweep with no reply, reads the view afresh and
builds the signs again, with lit notices for changes only, and makes no Publisher started (log 55); a notice of a
region cleared since changes nothing (R35, R154, R165 to R167, R175).

The model's own choices in it: logs 7, 42, 54, 55. -/
def Obligations.SignsComeAndGo : Prop :=
  ∀ (s : State), s.steady → SignsOk s →
    (s.active .signs = false → exec .signsIntoService s = .next (s.took .signsIntoService)) ∧
    (s.active .signs = true → .signsOutOfService ∉ s.handed → completes .signsIntoService s fun t =>
      t.publisher.signsIn = true ∧ t.publisher.segmentView = s.publisher.segmentView ∧
      t.publisher.pathView = s.publisher.pathView ∧ t.publisher.sweep = s.publisher.sweep ∧
      builtAndPublished s t fun _ => false) ∧
    completes .signsOutOfService s (fun t =>
      t.publisher = { s.publisher with
        signsIn := false, rows := [], signs := [], holdV := [], holdS := [], sweep := none } ∧
      (s.publisher.sweep = none → t.line = s.line ∧ t.handed = (s.took .signsOutOfService).handed) ∧
      ∀ w ∈ s.publisher.sweep, s.room 1 → addedV s t [s.replyFrame 0x39 w.tag stoppedResult
        (byteOf w.position ++ byteOf (w.signs.length - w.position) ++ [noTable])]) ∧
    completes .signPublisherRestart s (fun t =>
      t.publisher.sweep = none ∧ t.publisher.started = s.publisher.started ∧ t.waiting = s.waiting ∧
      (s.active .signs = true → .signsOutOfService ∉ s.handed →
        builtAndPublished s t fun g => (s.sign g).any fun r => decide (r.winner.face ≠ 0)) ∧
      (s.active .signs = false → t.publisher.signs = [] ∧ t.publisher.holdV = [] ∧ t.publisher.holdS = []) ∧
      (∀ n, n < 8 → mapGet t.publisher.segmentView n =
        if (s.reference .segments n).isSome = true then some (s.readSegment n)
        else none) ∧
      ∀ p, p < 16 → mapGet t.publisher.pathView p = (mapGet s.monitor.paths p).map fun r =>
        { warning := r.warning, mask := (((mapGet s.monitor.rows p).map Machine.pathRow).map PathRow.mask).getD 0 })

/-! ### Queries -/

/-- A query of one index: beyond its range BAD ARGUMENT, without a record NO TABLE, and else DONE with the record; it
changes nothing but what the offer of its REPLY at port V changes (R170, R172). The records are those of the channel, path, gate
and sign their owners hold, each item as R172 lists it, timers as remaining time. Once a region is cleared its
records answer no query, although the notice still waits (the model's choice, log 42); a path's warning and a loop's
level are sent as flags (log 10).

SEGMENT QUERY: the segment's record, the Grade Evaluator's items, and at most 16 claims from the first source on in
source number order, with the number after the last one as the continuation where further claims stand (R170, R173).

SECTION STATUS reads each part from its owner, and is always answered DONE (R171).

The model's own choices in it: logs 10 to 12, 14, 23, 42, 57. -/
def Obligations.QueriesAnswerTheRecords : Prop :=
  (∀ (tag index : Byte) (s : State), s.steady →
    let i := index.toNat
    let answers := fun (c : Instr) (code : Byte) (last : Nat) (found : Option Bytes) =>
      (last < i → exec c s = .next ((s.took c).reply code tag badArgument [])) ∧
      (i ≤ last → found = none → exec c s = .next ((s.took c).reply code tag noTable [])) ∧
      (i ≤ last → ∀ data ∈ found, exec c s = .next ((s.took c).reply code tag done data))
    let timer := fun (e : Option Nat) => timerItem (e.map fun x => x - s.now)
    let stands := fun (r : Region) (notice : Instr) => s.active r = true ∧ notice ∉ s.handed
    answers (.channelQuery tag index) 0x41 63
      ((if stands .channels .channelsOutOfService then mapGet s.intake.channels i else none).map fun r =>
        [((s.channelRow i).map ChannelRow.kind).getD 0] ++ byteOf (statusNum r.status) ++
          presenceItem 2 (r.lastRaw.map BitVec.toNat) ++ beInt 2 r.value ++ beInt 2 r.filtered ++
          flagByte r.saturated ++ byteOf r.ring.length ++ r.ring.flatMap (beInt 2) ++
          beInt 4 ((riseOf r.ring).getD 0) ++ flagByte (riseOf r.ring).isSome ++ timer r.age ++ byteOf r.faultRun ++
          presenceItem 1 (r.lastSeq.map BitVec.toNat)) ∧
    answers (.pathQuery tag index) 0x43 15
      ((if stands .paths .pathsOutOfService then mapGet s.monitor.paths i else none).map fun r =>
        byteOf (PathState.num r.state) ++ byteOf r.queue.length ++ r.queue.flatMap (be 4) ++
          (r.faults.map fun b => if b = true then 1 else 0) ++ flagByte r.blind ++ flagByte r.warning ++
          byteOf (Decision.num r.decision) ++ timer r.confirm ++ timer r.clear) ∧
    answers (.gateQuery tag index) 0x44 3
      ((s.gateOf i).map fun x =>
        let g := x.1
        indexOrNone (s.gateSegment i) ++ byteOf (GateState.num g.state) ++ byteOf (Phase.num g.phase) ++
          byteOf (orderNum g.order) ++ countItem g.count ++ flagByte g.homed ++ byteOf g.encoderErrors ++
          byteOf g.retries ++ flagByte g.obstacleRaise ++ byteOf (FaultCause.num g.cause) ++
          byteOf (Admission.num g.admission) ++
          (match g.presence with
            | none => [0, 0, 0, 0, 0, 0, 0, 0, 0]
            | some p => 1 :: flagByte p.level ++ be 2 (min 65535 (s.now - p.since)) ++ be 2 p.lastHigh ++
                be 2 p.lastLow ++ flagByte p.loopFault) ++
          be 4 g.travels) ∧
    answers (.signQuery tag index) 0x45 23
      ((if stands .signs .signsOutOfService then mapGet s.publisher.signs i else none).map fun r =>
        byteOf (WinnerKind.num r.winner.kind) ++ [r.winner.face] ++ be 2 r.winner.parameter.toNat ++
          flagByte r.winner.flash ++ presenceItem 1 (r.forced.map fun f => f.1.toNat) ++ timer (r.forced.map Prod.snd) ++
          byteOf r.granted ++ [r.published.face] ++ be 2 r.published.parameter.toNat ++ byteOf r.published.level ++
          flagByte r.published.flash ++ [r.token] ++ byteOf (SignPhase.num r.phase) ++ byteOf r.attempts ++
          flagByte r.mismatch ++ flagByte r.nextPending ++ byteOf (SignStatus.num r.status) ++
          (match r.confirmed with
            | none => [0, 0, 0]
            | some c => 1 :: c.1 :: byteOf c.2) ++
          byteOf (Condition.num r.condition) ++ timer r.reply ++ timer r.republish)) ∧
  (∀ (tag segment first : Byte) (s : State), s.steady →
    let c := Instr.segmentQuery tag segment first
    let g := segment.toNat
    let found := if s.active .segments = true ∧ .segmentsOutOfService ∉ s.handed
      then mapGet s.sequencer.segments g else none
    let timer := fun (e : Option Nat) => timerItem (e.map fun x => x - s.now)
    (7 < g ∨ 50 < first.toNat → exec c s = .next ((s.took c).reply 0x42 tag badArgument [])) ∧
    (g ≤ 7 → first.toNat ≤ 50 → found = none → exec c s = .next ((s.took c).reply 0x42 tag noTable [])) ∧
    (g ≤ 7 → first.toNat ≤ 50 → ∀ r ∈ found,
      let rest := r.claims.filter fun e => decide (first.toNat ≤ e.1)
      let page := rest.take 16
      let grades : Bytes :=
        match if .graderSegmentsOutOfService ∈ s.handed then none else mapGet s.grader.segments g with
        | none => [0, 0, 0, 0xFF, 0xFF, 0xFF]
        | some x => byteOf x.raw ++ byteOf x.effective ++ byteOf x.floor ++ timer x.hold
      exec c s = .next ((s.took c).reply 0x42 tag done
        (byteOf (closureNum r.state) ++ byteOf r.claims.length ++
          flagByte (r.claims.any fun e => e.2.urgent) ++ timer r.lead ++ timer r.grace ++ be 2 r.parameter.toNat ++
          flagByte r.gateFault ++ flagByte r.blocked ++ flagByte r.unannounced ++
          byteOf ((s.configuredGates g).map fun k => 2 ^ k).sum ++ grades ++ byteOf page.length ++
          (page.flatMap fun e => byteOf (e.1 + if e.2.urgent = true then 128 else 0) ++ be 4 e.2.placed) ++
          (if rest.length ≤ 16 then [0xFF] else byteOf ((page.getLast?.map fun e => e.1 + 1).getD 0)))))) ∧
  (∀ (tag : Byte) (s : State), s.steady →
    let c := Instr.sectionStatus tag
    let a := s.allocator
    let clock : Bytes :=
      match s.sequencer.clock with
      | none => [0xFF, 0xFF, 0xFF, 0xFF, 0xFF]
      | some t => be 2 t.day ++ be 3 t.second
    let closures : Bytes := (List.range 8).flatMap fun g =>
      match if s.active .segments = true ∧ .segmentsOutOfService ∉ s.handed then mapGet s.sequencer.segments g
        else none with
      | none => [0xFF]
      | some r => byteOf (closureNum r.state)
    let counters := fun (q : PortState) =>
      be 2 q.badFrames ++ be 2 q.overflow ++ be 2 q.reportLoss ++ be 2 q.forwarded
    exec c s = .next ((s.took c).reply 0x40 tag done
      (be 2 s.store.site.sectionNumber.toNat ++ be 2 s.store.site.nodeAddress.toNat ++ be 4 s.now ++
        clock ++
        [if s.line.lineState = .connected then 0 else 1, if s.line.portV.up = true then 0 else 1,
          if s.line.portS.up = true then 0 else 1] ++
        counters s.line.portV ++ counters s.line.portS ++
        (regionOrder.flatMap fun r =>
          byteOf (RegionState.num (s.region r).header.state) ++ byteOf (s.region r).header.count ++
            be 2 (s.region r).header.check.toNat) ++
        figureItem a.budget ++ figureItem a.figures.floor ++ figureItem a.figures.ceiling ++
        figureItem a.figures.effective ++ byteOf a.figures.cap ++ byteOf a.requested ++
        figureItem a.figures.remaining ++ figureItem (drawSum a.admitted) ++ flagByte a.belowFloor ++
        byteOf a.queue.length ++
        (a.queue.flatMap fun e =>
          byteOf e.gate ++ byteOf (directionNum e.direction) ++ [if e.urgent = true then 0 else 1]) ++
        closures ++
        ((List.range 4).flatMap fun k => byteOf (GateState.num (s.gateState k))) ++
        flagByte s.publisher.sweep.isSome)))
end

