-- ==== Sys2Proof/Laws/State.lean ====
section
/-!
SUPPORT. Field laws of the updates of `State`: for each update and each field, what the field is after it. All hold by
unfolding; later proofs rewrite with them and unfold no record update.
-/

namespace Sys2Proof.Machine

/-! ### One block replaced -/

section
variable (s : State) (x : Nat)

@[simp] theorem State.withTime_power : (s.withTime x).power = s.power := rfl
@[simp] theorem State.withTime_time : (s.withTime x).time = x := rfl
@[simp] theorem State.withTime_line : (s.withTime x).line = s.line := rfl
@[simp] theorem State.withTime_store : (s.withTime x).store = s.store := rfl
@[simp] theorem State.withTime_intake : (s.withTime x).intake = s.intake := rfl
@[simp] theorem State.withTime_grader : (s.withTime x).grader = s.grader := rfl
@[simp] theorem State.withTime_monitor : (s.withTime x).monitor = s.monitor := rfl
@[simp] theorem State.withTime_sequencer : (s.withTime x).sequencer = s.sequencer := rfl
@[simp] theorem State.withTime_drives : (s.withTime x).drives = s.drives := rfl
@[simp] theorem State.withTime_allocator : (s.withTime x).allocator = s.allocator := rfl
@[simp] theorem State.withTime_publisher : (s.withTime x).publisher = s.publisher := rfl
@[simp] theorem State.withTime_responder : (s.withTime x).responder = s.responder := rfl
@[simp] theorem State.withTime_handed : (s.withTime x).handed = s.handed := rfl
@[simp] theorem State.withTime_waiting : (s.withTime x).waiting = s.waiting := rfl
@[simp] theorem State.withTime_reports : (s.withTime x).reports = s.reports := rfl
@[simp] theorem State.withTime_drawn : (s.withTime x).drawn = s.drawn := rfl
@[simp] theorem State.withTime_pending : (s.withTime x).pending = s.pending := rfl

end

section
variable (s : State) (x : LineSwitch)

@[simp] theorem State.withLine_power : (s.withLine x).power = s.power := rfl
@[simp] theorem State.withLine_time : (s.withLine x).time = s.time := rfl
@[simp] theorem State.withLine_line : (s.withLine x).line = x := rfl
@[simp] theorem State.withLine_store : (s.withLine x).store = s.store := rfl
@[simp] theorem State.withLine_intake : (s.withLine x).intake = s.intake := rfl
@[simp] theorem State.withLine_grader : (s.withLine x).grader = s.grader := rfl
@[simp] theorem State.withLine_monitor : (s.withLine x).monitor = s.monitor := rfl
@[simp] theorem State.withLine_sequencer : (s.withLine x).sequencer = s.sequencer := rfl
@[simp] theorem State.withLine_drives : (s.withLine x).drives = s.drives := rfl
@[simp] theorem State.withLine_allocator : (s.withLine x).allocator = s.allocator := rfl
@[simp] theorem State.withLine_publisher : (s.withLine x).publisher = s.publisher := rfl
@[simp] theorem State.withLine_responder : (s.withLine x).responder = s.responder := rfl
@[simp] theorem State.withLine_handed : (s.withLine x).handed = s.handed := rfl
@[simp] theorem State.withLine_waiting : (s.withLine x).waiting = s.waiting := rfl
@[simp] theorem State.withLine_reports : (s.withLine x).reports = s.reports := rfl
@[simp] theorem State.withLine_drawn : (s.withLine x).drawn = s.drawn := rfl
@[simp] theorem State.withLine_pending : (s.withLine x).pending = s.pending := rfl

end

section
variable (s : State) (x : TableStore)

@[simp] theorem State.withStore_power : (s.withStore x).power = s.power := rfl
@[simp] theorem State.withStore_time : (s.withStore x).time = s.time := rfl
@[simp] theorem State.withStore_line : (s.withStore x).line = s.line := rfl
@[simp] theorem State.withStore_store : (s.withStore x).store = x := rfl
@[simp] theorem State.withStore_intake : (s.withStore x).intake = s.intake := rfl
@[simp] theorem State.withStore_grader : (s.withStore x).grader = s.grader := rfl
@[simp] theorem State.withStore_monitor : (s.withStore x).monitor = s.monitor := rfl
@[simp] theorem State.withStore_sequencer : (s.withStore x).sequencer = s.sequencer := rfl
@[simp] theorem State.withStore_drives : (s.withStore x).drives = s.drives := rfl
@[simp] theorem State.withStore_allocator : (s.withStore x).allocator = s.allocator := rfl
@[simp] theorem State.withStore_publisher : (s.withStore x).publisher = s.publisher := rfl
@[simp] theorem State.withStore_responder : (s.withStore x).responder = s.responder := rfl
@[simp] theorem State.withStore_handed : (s.withStore x).handed = s.handed := rfl
@[simp] theorem State.withStore_waiting : (s.withStore x).waiting = s.waiting := rfl
@[simp] theorem State.withStore_reports : (s.withStore x).reports = s.reports := rfl
@[simp] theorem State.withStore_drawn : (s.withStore x).drawn = s.drawn := rfl
@[simp] theorem State.withStore_pending : (s.withStore x).pending = s.pending := rfl

end

section
variable (s : State) (x : Intake)

@[simp] theorem State.withIntake_power : (s.withIntake x).power = s.power := rfl
@[simp] theorem State.withIntake_time : (s.withIntake x).time = s.time := rfl
@[simp] theorem State.withIntake_line : (s.withIntake x).line = s.line := rfl
@[simp] theorem State.withIntake_store : (s.withIntake x).store = s.store := rfl
@[simp] theorem State.withIntake_intake : (s.withIntake x).intake = x := rfl
@[simp] theorem State.withIntake_grader : (s.withIntake x).grader = s.grader := rfl
@[simp] theorem State.withIntake_monitor : (s.withIntake x).monitor = s.monitor := rfl
@[simp] theorem State.withIntake_sequencer : (s.withIntake x).sequencer = s.sequencer := rfl
@[simp] theorem State.withIntake_drives : (s.withIntake x).drives = s.drives := rfl
@[simp] theorem State.withIntake_allocator : (s.withIntake x).allocator = s.allocator := rfl
@[simp] theorem State.withIntake_publisher : (s.withIntake x).publisher = s.publisher := rfl
@[simp] theorem State.withIntake_responder : (s.withIntake x).responder = s.responder := rfl
@[simp] theorem State.withIntake_handed : (s.withIntake x).handed = s.handed := rfl
@[simp] theorem State.withIntake_waiting : (s.withIntake x).waiting = s.waiting := rfl
@[simp] theorem State.withIntake_reports : (s.withIntake x).reports = s.reports := rfl
@[simp] theorem State.withIntake_drawn : (s.withIntake x).drawn = s.drawn := rfl
@[simp] theorem State.withIntake_pending : (s.withIntake x).pending = s.pending := rfl

end

section
variable (s : State) (x : Grader)

@[simp] theorem State.withGrader_power : (s.withGrader x).power = s.power := rfl
@[simp] theorem State.withGrader_time : (s.withGrader x).time = s.time := rfl
@[simp] theorem State.withGrader_line : (s.withGrader x).line = s.line := rfl
@[simp] theorem State.withGrader_store : (s.withGrader x).store = s.store := rfl
@[simp] theorem State.withGrader_intake : (s.withGrader x).intake = s.intake := rfl
@[simp] theorem State.withGrader_grader : (s.withGrader x).grader = x := rfl
@[simp] theorem State.withGrader_monitor : (s.withGrader x).monitor = s.monitor := rfl
@[simp] theorem State.withGrader_sequencer : (s.withGrader x).sequencer = s.sequencer := rfl
@[simp] theorem State.withGrader_drives : (s.withGrader x).drives = s.drives := rfl
@[simp] theorem State.withGrader_allocator : (s.withGrader x).allocator = s.allocator := rfl
@[simp] theorem State.withGrader_publisher : (s.withGrader x).publisher = s.publisher := rfl
@[simp] theorem State.withGrader_responder : (s.withGrader x).responder = s.responder := rfl
@[simp] theorem State.withGrader_handed : (s.withGrader x).handed = s.handed := rfl
@[simp] theorem State.withGrader_waiting : (s.withGrader x).waiting = s.waiting := rfl
@[simp] theorem State.withGrader_reports : (s.withGrader x).reports = s.reports := rfl
@[simp] theorem State.withGrader_drawn : (s.withGrader x).drawn = s.drawn := rfl
@[simp] theorem State.withGrader_pending : (s.withGrader x).pending = s.pending := rfl

end

section
variable (s : State) (x : Monitor)

@[simp] theorem State.withMonitor_power : (s.withMonitor x).power = s.power := rfl
@[simp] theorem State.withMonitor_time : (s.withMonitor x).time = s.time := rfl
@[simp] theorem State.withMonitor_line : (s.withMonitor x).line = s.line := rfl
@[simp] theorem State.withMonitor_store : (s.withMonitor x).store = s.store := rfl
@[simp] theorem State.withMonitor_intake : (s.withMonitor x).intake = s.intake := rfl
@[simp] theorem State.withMonitor_grader : (s.withMonitor x).grader = s.grader := rfl
@[simp] theorem State.withMonitor_monitor : (s.withMonitor x).monitor = x := rfl
@[simp] theorem State.withMonitor_sequencer : (s.withMonitor x).sequencer = s.sequencer := rfl
@[simp] theorem State.withMonitor_drives : (s.withMonitor x).drives = s.drives := rfl
@[simp] theorem State.withMonitor_allocator : (s.withMonitor x).allocator = s.allocator := rfl
@[simp] theorem State.withMonitor_publisher : (s.withMonitor x).publisher = s.publisher := rfl
@[simp] theorem State.withMonitor_responder : (s.withMonitor x).responder = s.responder := rfl
@[simp] theorem State.withMonitor_handed : (s.withMonitor x).handed = s.handed := rfl
@[simp] theorem State.withMonitor_waiting : (s.withMonitor x).waiting = s.waiting := rfl
@[simp] theorem State.withMonitor_reports : (s.withMonitor x).reports = s.reports := rfl
@[simp] theorem State.withMonitor_drawn : (s.withMonitor x).drawn = s.drawn := rfl
@[simp] theorem State.withMonitor_pending : (s.withMonitor x).pending = s.pending := rfl

end

section
variable (s : State) (x : Sequencer)

@[simp] theorem State.withSequencer_power : (s.withSequencer x).power = s.power := rfl
@[simp] theorem State.withSequencer_time : (s.withSequencer x).time = s.time := rfl
@[simp] theorem State.withSequencer_line : (s.withSequencer x).line = s.line := rfl
@[simp] theorem State.withSequencer_store : (s.withSequencer x).store = s.store := rfl
@[simp] theorem State.withSequencer_intake : (s.withSequencer x).intake = s.intake := rfl
@[simp] theorem State.withSequencer_grader : (s.withSequencer x).grader = s.grader := rfl
@[simp] theorem State.withSequencer_monitor : (s.withSequencer x).monitor = s.monitor := rfl
@[simp] theorem State.withSequencer_sequencer : (s.withSequencer x).sequencer = x := rfl
@[simp] theorem State.withSequencer_drives : (s.withSequencer x).drives = s.drives := rfl
@[simp] theorem State.withSequencer_allocator : (s.withSequencer x).allocator = s.allocator := rfl
@[simp] theorem State.withSequencer_publisher : (s.withSequencer x).publisher = s.publisher := rfl
@[simp] theorem State.withSequencer_responder : (s.withSequencer x).responder = s.responder := rfl
@[simp] theorem State.withSequencer_handed : (s.withSequencer x).handed = s.handed := rfl
@[simp] theorem State.withSequencer_waiting : (s.withSequencer x).waiting = s.waiting := rfl
@[simp] theorem State.withSequencer_reports : (s.withSequencer x).reports = s.reports := rfl
@[simp] theorem State.withSequencer_drawn : (s.withSequencer x).drawn = s.drawn := rfl
@[simp] theorem State.withSequencer_pending : (s.withSequencer x).pending = s.pending := rfl

end

section
variable (s : State) (x : GateDrives)

@[simp] theorem State.withDrives_power : (s.withDrives x).power = s.power := rfl
@[simp] theorem State.withDrives_time : (s.withDrives x).time = s.time := rfl
@[simp] theorem State.withDrives_line : (s.withDrives x).line = s.line := rfl
@[simp] theorem State.withDrives_store : (s.withDrives x).store = s.store := rfl
@[simp] theorem State.withDrives_intake : (s.withDrives x).intake = s.intake := rfl
@[simp] theorem State.withDrives_grader : (s.withDrives x).grader = s.grader := rfl
@[simp] theorem State.withDrives_monitor : (s.withDrives x).monitor = s.monitor := rfl
@[simp] theorem State.withDrives_sequencer : (s.withDrives x).sequencer = s.sequencer := rfl
@[simp] theorem State.withDrives_drives : (s.withDrives x).drives = x := rfl
@[simp] theorem State.withDrives_allocator : (s.withDrives x).allocator = s.allocator := rfl
@[simp] theorem State.withDrives_publisher : (s.withDrives x).publisher = s.publisher := rfl
@[simp] theorem State.withDrives_responder : (s.withDrives x).responder = s.responder := rfl
@[simp] theorem State.withDrives_handed : (s.withDrives x).handed = s.handed := rfl
@[simp] theorem State.withDrives_waiting : (s.withDrives x).waiting = s.waiting := rfl
@[simp] theorem State.withDrives_reports : (s.withDrives x).reports = s.reports := rfl
@[simp] theorem State.withDrives_drawn : (s.withDrives x).drawn = s.drawn := rfl
@[simp] theorem State.withDrives_pending : (s.withDrives x).pending = s.pending := rfl

end

section
variable (s : State) (x : Allocator)

@[simp] theorem State.withAllocator_power : (s.withAllocator x).power = s.power := rfl
@[simp] theorem State.withAllocator_time : (s.withAllocator x).time = s.time := rfl
@[simp] theorem State.withAllocator_line : (s.withAllocator x).line = s.line := rfl
@[simp] theorem State.withAllocator_store : (s.withAllocator x).store = s.store := rfl
@[simp] theorem State.withAllocator_intake : (s.withAllocator x).intake = s.intake := rfl
@[simp] theorem State.withAllocator_grader : (s.withAllocator x).grader = s.grader := rfl
@[simp] theorem State.withAllocator_monitor : (s.withAllocator x).monitor = s.monitor := rfl
@[simp] theorem State.withAllocator_sequencer : (s.withAllocator x).sequencer = s.sequencer := rfl
@[simp] theorem State.withAllocator_drives : (s.withAllocator x).drives = s.drives := rfl
@[simp] theorem State.withAllocator_allocator : (s.withAllocator x).allocator = x := rfl
@[simp] theorem State.withAllocator_publisher : (s.withAllocator x).publisher = s.publisher := rfl
@[simp] theorem State.withAllocator_responder : (s.withAllocator x).responder = s.responder := rfl
@[simp] theorem State.withAllocator_handed : (s.withAllocator x).handed = s.handed := rfl
@[simp] theorem State.withAllocator_waiting : (s.withAllocator x).waiting = s.waiting := rfl
@[simp] theorem State.withAllocator_reports : (s.withAllocator x).reports = s.reports := rfl
@[simp] theorem State.withAllocator_drawn : (s.withAllocator x).drawn = s.drawn := rfl
@[simp] theorem State.withAllocator_pending : (s.withAllocator x).pending = s.pending := rfl

end

section
variable (s : State) (x : Publisher)

@[simp] theorem State.withPublisher_power : (s.withPublisher x).power = s.power := rfl
@[simp] theorem State.withPublisher_time : (s.withPublisher x).time = s.time := rfl
@[simp] theorem State.withPublisher_line : (s.withPublisher x).line = s.line := rfl
@[simp] theorem State.withPublisher_store : (s.withPublisher x).store = s.store := rfl
@[simp] theorem State.withPublisher_intake : (s.withPublisher x).intake = s.intake := rfl
@[simp] theorem State.withPublisher_grader : (s.withPublisher x).grader = s.grader := rfl
@[simp] theorem State.withPublisher_monitor : (s.withPublisher x).monitor = s.monitor := rfl
@[simp] theorem State.withPublisher_sequencer : (s.withPublisher x).sequencer = s.sequencer := rfl
@[simp] theorem State.withPublisher_drives : (s.withPublisher x).drives = s.drives := rfl
@[simp] theorem State.withPublisher_allocator : (s.withPublisher x).allocator = s.allocator := rfl
@[simp] theorem State.withPublisher_publisher : (s.withPublisher x).publisher = x := rfl
@[simp] theorem State.withPublisher_responder : (s.withPublisher x).responder = s.responder := rfl
@[simp] theorem State.withPublisher_handed : (s.withPublisher x).handed = s.handed := rfl
@[simp] theorem State.withPublisher_waiting : (s.withPublisher x).waiting = s.waiting := rfl
@[simp] theorem State.withPublisher_reports : (s.withPublisher x).reports = s.reports := rfl
@[simp] theorem State.withPublisher_drawn : (s.withPublisher x).drawn = s.drawn := rfl
@[simp] theorem State.withPublisher_pending : (s.withPublisher x).pending = s.pending := rfl

end

section
variable (s : State) (x : Responder)

@[simp] theorem State.withResponder_power : (s.withResponder x).power = s.power := rfl
@[simp] theorem State.withResponder_time : (s.withResponder x).time = s.time := rfl
@[simp] theorem State.withResponder_line : (s.withResponder x).line = s.line := rfl
@[simp] theorem State.withResponder_store : (s.withResponder x).store = s.store := rfl
@[simp] theorem State.withResponder_intake : (s.withResponder x).intake = s.intake := rfl
@[simp] theorem State.withResponder_grader : (s.withResponder x).grader = s.grader := rfl
@[simp] theorem State.withResponder_monitor : (s.withResponder x).monitor = s.monitor := rfl
@[simp] theorem State.withResponder_sequencer : (s.withResponder x).sequencer = s.sequencer := rfl
@[simp] theorem State.withResponder_drives : (s.withResponder x).drives = s.drives := rfl
@[simp] theorem State.withResponder_allocator : (s.withResponder x).allocator = s.allocator := rfl
@[simp] theorem State.withResponder_publisher : (s.withResponder x).publisher = s.publisher := rfl
@[simp] theorem State.withResponder_responder : (s.withResponder x).responder = x := rfl
@[simp] theorem State.withResponder_handed : (s.withResponder x).handed = s.handed := rfl
@[simp] theorem State.withResponder_waiting : (s.withResponder x).waiting = s.waiting := rfl
@[simp] theorem State.withResponder_reports : (s.withResponder x).reports = s.reports := rfl
@[simp] theorem State.withResponder_drawn : (s.withResponder x).drawn = s.drawn := rfl
@[simp] theorem State.withResponder_pending : (s.withResponder x).pending = s.pending := rfl

end

section
variable (s : State) (x : List Instr)

@[simp] theorem State.withHanded_power : (s.withHanded x).power = s.power := rfl
@[simp] theorem State.withHanded_time : (s.withHanded x).time = s.time := rfl
@[simp] theorem State.withHanded_line : (s.withHanded x).line = s.line := rfl
@[simp] theorem State.withHanded_store : (s.withHanded x).store = s.store := rfl
@[simp] theorem State.withHanded_intake : (s.withHanded x).intake = s.intake := rfl
@[simp] theorem State.withHanded_grader : (s.withHanded x).grader = s.grader := rfl
@[simp] theorem State.withHanded_monitor : (s.withHanded x).monitor = s.monitor := rfl
@[simp] theorem State.withHanded_sequencer : (s.withHanded x).sequencer = s.sequencer := rfl
@[simp] theorem State.withHanded_drives : (s.withHanded x).drives = s.drives := rfl
@[simp] theorem State.withHanded_allocator : (s.withHanded x).allocator = s.allocator := rfl
@[simp] theorem State.withHanded_publisher : (s.withHanded x).publisher = s.publisher := rfl
@[simp] theorem State.withHanded_responder : (s.withHanded x).responder = s.responder := rfl
@[simp] theorem State.withHanded_handed : (s.withHanded x).handed = x := rfl
@[simp] theorem State.withHanded_waiting : (s.withHanded x).waiting = s.waiting := rfl
@[simp] theorem State.withHanded_reports : (s.withHanded x).reports = s.reports := rfl
@[simp] theorem State.withHanded_drawn : (s.withHanded x).drawn = s.drawn := rfl
@[simp] theorem State.withHanded_pending : (s.withHanded x).pending = s.pending := rfl

end

section
variable (s : State) (x : List Instr)

@[simp] theorem State.withWaiting_power : (s.withWaiting x).power = s.power := rfl
@[simp] theorem State.withWaiting_time : (s.withWaiting x).time = s.time := rfl
@[simp] theorem State.withWaiting_line : (s.withWaiting x).line = s.line := rfl
@[simp] theorem State.withWaiting_store : (s.withWaiting x).store = s.store := rfl
@[simp] theorem State.withWaiting_intake : (s.withWaiting x).intake = s.intake := rfl
@[simp] theorem State.withWaiting_grader : (s.withWaiting x).grader = s.grader := rfl
@[simp] theorem State.withWaiting_monitor : (s.withWaiting x).monitor = s.monitor := rfl
@[simp] theorem State.withWaiting_sequencer : (s.withWaiting x).sequencer = s.sequencer := rfl
@[simp] theorem State.withWaiting_drives : (s.withWaiting x).drives = s.drives := rfl
@[simp] theorem State.withWaiting_allocator : (s.withWaiting x).allocator = s.allocator := rfl
@[simp] theorem State.withWaiting_publisher : (s.withWaiting x).publisher = s.publisher := rfl
@[simp] theorem State.withWaiting_responder : (s.withWaiting x).responder = s.responder := rfl
@[simp] theorem State.withWaiting_handed : (s.withWaiting x).handed = s.handed := rfl
@[simp] theorem State.withWaiting_waiting : (s.withWaiting x).waiting = x := rfl
@[simp] theorem State.withWaiting_reports : (s.withWaiting x).reports = s.reports := rfl
@[simp] theorem State.withWaiting_drawn : (s.withWaiting x).drawn = s.drawn := rfl
@[simp] theorem State.withWaiting_pending : (s.withWaiting x).pending = s.pending := rfl

end

section
variable (s : State) (x : List ReportRequest)

@[simp] theorem State.withReports_power : (s.withReports x).power = s.power := rfl
@[simp] theorem State.withReports_time : (s.withReports x).time = s.time := rfl
@[simp] theorem State.withReports_line : (s.withReports x).line = s.line := rfl
@[simp] theorem State.withReports_store : (s.withReports x).store = s.store := rfl
@[simp] theorem State.withReports_intake : (s.withReports x).intake = s.intake := rfl
@[simp] theorem State.withReports_grader : (s.withReports x).grader = s.grader := rfl
@[simp] theorem State.withReports_monitor : (s.withReports x).monitor = s.monitor := rfl
@[simp] theorem State.withReports_sequencer : (s.withReports x).sequencer = s.sequencer := rfl
@[simp] theorem State.withReports_drives : (s.withReports x).drives = s.drives := rfl
@[simp] theorem State.withReports_allocator : (s.withReports x).allocator = s.allocator := rfl
@[simp] theorem State.withReports_publisher : (s.withReports x).publisher = s.publisher := rfl
@[simp] theorem State.withReports_responder : (s.withReports x).responder = s.responder := rfl
@[simp] theorem State.withReports_handed : (s.withReports x).handed = s.handed := rfl
@[simp] theorem State.withReports_waiting : (s.withReports x).waiting = s.waiting := rfl
@[simp] theorem State.withReports_reports : (s.withReports x).reports = x := rfl
@[simp] theorem State.withReports_drawn : (s.withReports x).drawn = s.drawn := rfl
@[simp] theorem State.withReports_pending : (s.withReports x).pending = s.pending := rfl

end

section
variable (s : State) (x : List Instr)

@[simp] theorem State.withPending_power : (s.withPending x).power = s.power := rfl
@[simp] theorem State.withPending_time : (s.withPending x).time = s.time := rfl
@[simp] theorem State.withPending_line : (s.withPending x).line = s.line := rfl
@[simp] theorem State.withPending_store : (s.withPending x).store = s.store := rfl
@[simp] theorem State.withPending_intake : (s.withPending x).intake = s.intake := rfl
@[simp] theorem State.withPending_grader : (s.withPending x).grader = s.grader := rfl
@[simp] theorem State.withPending_monitor : (s.withPending x).monitor = s.monitor := rfl
@[simp] theorem State.withPending_sequencer : (s.withPending x).sequencer = s.sequencer := rfl
@[simp] theorem State.withPending_drives : (s.withPending x).drives = s.drives := rfl
@[simp] theorem State.withPending_allocator : (s.withPending x).allocator = s.allocator := rfl
@[simp] theorem State.withPending_publisher : (s.withPending x).publisher = s.publisher := rfl
@[simp] theorem State.withPending_responder : (s.withPending x).responder = s.responder := rfl
@[simp] theorem State.withPending_handed : (s.withPending x).handed = s.handed := rfl
@[simp] theorem State.withPending_waiting : (s.withPending x).waiting = s.waiting := rfl
@[simp] theorem State.withPending_reports : (s.withPending x).reports = s.reports := rfl
@[simp] theorem State.withPending_drawn : (s.withPending x).drawn = s.drawn := rfl
@[simp] theorem State.withPending_pending : (s.withPending x).pending = x := rfl

end

section
variable (s : State) (x : Nat)

@[simp] theorem State.withDrawn_power : (s.withDrawn x).power = s.power := rfl
@[simp] theorem State.withDrawn_time : (s.withDrawn x).time = s.time := rfl
@[simp] theorem State.withDrawn_line : (s.withDrawn x).line = s.line := rfl
@[simp] theorem State.withDrawn_store : (s.withDrawn x).store = s.store := rfl
@[simp] theorem State.withDrawn_intake : (s.withDrawn x).intake = s.intake := rfl
@[simp] theorem State.withDrawn_grader : (s.withDrawn x).grader = s.grader := rfl
@[simp] theorem State.withDrawn_monitor : (s.withDrawn x).monitor = s.monitor := rfl
@[simp] theorem State.withDrawn_sequencer : (s.withDrawn x).sequencer = s.sequencer := rfl
@[simp] theorem State.withDrawn_drives : (s.withDrawn x).drives = s.drives := rfl
@[simp] theorem State.withDrawn_allocator : (s.withDrawn x).allocator = s.allocator := rfl
@[simp] theorem State.withDrawn_publisher : (s.withDrawn x).publisher = s.publisher := rfl
@[simp] theorem State.withDrawn_responder : (s.withDrawn x).responder = s.responder := rfl
@[simp] theorem State.withDrawn_handed : (s.withDrawn x).handed = s.handed := rfl
@[simp] theorem State.withDrawn_waiting : (s.withDrawn x).waiting = s.waiting := rfl
@[simp] theorem State.withDrawn_reports : (s.withDrawn x).reports = s.reports := rfl
@[simp] theorem State.withDrawn_drawn : (s.withDrawn x).drawn = x := rfl
@[simp] theorem State.withDrawn_pending : (s.withDrawn x).pending = s.pending := rfl

end

/-! ### Events handed on, reports, running time, one port, one region -/

section
variable (s : State) (c : Instr)

@[simp] theorem State.hand_power : (s.hand c).power = s.power := rfl
@[simp] theorem State.hand_time : (s.hand c).time = s.time := rfl
@[simp] theorem State.hand_line : (s.hand c).line = s.line := rfl
@[simp] theorem State.hand_store : (s.hand c).store = s.store := rfl
@[simp] theorem State.hand_intake : (s.hand c).intake = s.intake := rfl
@[simp] theorem State.hand_grader : (s.hand c).grader = s.grader := rfl
@[simp] theorem State.hand_monitor : (s.hand c).monitor = s.monitor := rfl
@[simp] theorem State.hand_sequencer : (s.hand c).sequencer = s.sequencer := rfl
@[simp] theorem State.hand_drives : (s.hand c).drives = s.drives := rfl
@[simp] theorem State.hand_allocator : (s.hand c).allocator = s.allocator := rfl
@[simp] theorem State.hand_publisher : (s.hand c).publisher = s.publisher := rfl
@[simp] theorem State.hand_responder : (s.hand c).responder = s.responder := rfl
@[simp] theorem State.hand_handed : (s.hand c).handed = s.handed ++ [c] := rfl
@[simp] theorem State.hand_waiting : (s.hand c).waiting = s.waiting := rfl
@[simp] theorem State.hand_reports : (s.hand c).reports = s.reports := rfl
@[simp] theorem State.hand_drawn : (s.hand c).drawn = s.drawn := rfl
@[simp] theorem State.hand_pending : (s.hand c).pending = s.pending := rfl

end

section
variable (s : State) (c : List Instr)

@[simp] theorem State.handAll_power : (s.handAll c).power = s.power := rfl
@[simp] theorem State.handAll_time : (s.handAll c).time = s.time := rfl
@[simp] theorem State.handAll_line : (s.handAll c).line = s.line := rfl
@[simp] theorem State.handAll_store : (s.handAll c).store = s.store := rfl
@[simp] theorem State.handAll_intake : (s.handAll c).intake = s.intake := rfl
@[simp] theorem State.handAll_grader : (s.handAll c).grader = s.grader := rfl
@[simp] theorem State.handAll_monitor : (s.handAll c).monitor = s.monitor := rfl
@[simp] theorem State.handAll_sequencer : (s.handAll c).sequencer = s.sequencer := rfl
@[simp] theorem State.handAll_drives : (s.handAll c).drives = s.drives := rfl
@[simp] theorem State.handAll_allocator : (s.handAll c).allocator = s.allocator := rfl
@[simp] theorem State.handAll_publisher : (s.handAll c).publisher = s.publisher := rfl
@[simp] theorem State.handAll_responder : (s.handAll c).responder = s.responder := rfl
@[simp] theorem State.handAll_handed : (s.handAll c).handed = s.handed ++ c := rfl
@[simp] theorem State.handAll_waiting : (s.handAll c).waiting = s.waiting := rfl
@[simp] theorem State.handAll_reports : (s.handAll c).reports = s.reports := rfl
@[simp] theorem State.handAll_drawn : (s.handAll c).drawn = s.drawn := rfl
@[simp] theorem State.handAll_pending : (s.handAll c).pending = s.pending := rfl

end

section
variable (s : State) (c : Instr)

@[simp] theorem State.handFirst_power : (s.handFirst c).power = s.power := rfl
@[simp] theorem State.handFirst_time : (s.handFirst c).time = s.time := rfl
@[simp] theorem State.handFirst_line : (s.handFirst c).line = s.line := rfl
@[simp] theorem State.handFirst_store : (s.handFirst c).store = s.store := rfl
@[simp] theorem State.handFirst_intake : (s.handFirst c).intake = s.intake := rfl
@[simp] theorem State.handFirst_grader : (s.handFirst c).grader = s.grader := rfl
@[simp] theorem State.handFirst_monitor : (s.handFirst c).monitor = s.monitor := rfl
@[simp] theorem State.handFirst_sequencer : (s.handFirst c).sequencer = s.sequencer := rfl
@[simp] theorem State.handFirst_drives : (s.handFirst c).drives = s.drives := rfl
@[simp] theorem State.handFirst_allocator : (s.handFirst c).allocator = s.allocator := rfl
@[simp] theorem State.handFirst_publisher : (s.handFirst c).publisher = s.publisher := rfl
@[simp] theorem State.handFirst_responder : (s.handFirst c).responder = s.responder := rfl
@[simp] theorem State.handFirst_handed : (s.handFirst c).handed = c :: s.handed := rfl
@[simp] theorem State.handFirst_waiting : (s.handFirst c).waiting = s.waiting := rfl
@[simp] theorem State.handFirst_reports : (s.handFirst c).reports = s.reports := rfl
@[simp] theorem State.handFirst_drawn : (s.handFirst c).drawn = s.drawn := rfl
@[simp] theorem State.handFirst_pending : (s.handFirst c).pending = s.pending := rfl

end

section
variable (s : State) (c : Instr)

@[simp] theorem State.deferred_power : (s.deferred c).power = s.power := rfl
@[simp] theorem State.deferred_time : (s.deferred c).time = s.time := rfl
@[simp] theorem State.deferred_line : (s.deferred c).line = s.line := rfl
@[simp] theorem State.deferred_store : (s.deferred c).store = s.store := rfl
@[simp] theorem State.deferred_intake : (s.deferred c).intake = s.intake := rfl
@[simp] theorem State.deferred_grader : (s.deferred c).grader = s.grader := rfl
@[simp] theorem State.deferred_monitor : (s.deferred c).monitor = s.monitor := rfl
@[simp] theorem State.deferred_sequencer : (s.deferred c).sequencer = s.sequencer := rfl
@[simp] theorem State.deferred_drives : (s.deferred c).drives = s.drives := rfl
@[simp] theorem State.deferred_allocator : (s.deferred c).allocator = s.allocator := rfl
@[simp] theorem State.deferred_publisher : (s.deferred c).publisher = s.publisher := rfl
@[simp] theorem State.deferred_responder : (s.deferred c).responder = s.responder := rfl
@[simp] theorem State.deferred_handed : (s.deferred c).handed = s.handed := rfl
@[simp] theorem State.deferred_waiting : (s.deferred c).waiting = s.waiting ++ [c] := rfl
@[simp] theorem State.deferred_reports : (s.deferred c).reports = s.reports := rfl
@[simp] theorem State.deferred_drawn : (s.deferred c).drawn = s.drawn := rfl
@[simp] theorem State.deferred_pending : (s.deferred c).pending = s.pending := rfl

end

section
variable (s : State) (k : Byte) (d : Bytes)

@[simp] theorem State.report_power : (s.report k d).power = s.power := rfl
@[simp] theorem State.report_time : (s.report k d).time = s.time := rfl
@[simp] theorem State.report_line : (s.report k d).line = s.line := rfl
@[simp] theorem State.report_store : (s.report k d).store = s.store := rfl
@[simp] theorem State.report_intake : (s.report k d).intake = s.intake := rfl
@[simp] theorem State.report_grader : (s.report k d).grader = s.grader := rfl
@[simp] theorem State.report_monitor : (s.report k d).monitor = s.monitor := rfl
@[simp] theorem State.report_sequencer : (s.report k d).sequencer = s.sequencer := rfl
@[simp] theorem State.report_drives : (s.report k d).drives = s.drives := rfl
@[simp] theorem State.report_allocator : (s.report k d).allocator = s.allocator := rfl
@[simp] theorem State.report_publisher : (s.report k d).publisher = s.publisher := rfl
@[simp] theorem State.report_responder : (s.report k d).responder = s.responder := rfl
@[simp] theorem State.report_handed : (s.report k d).handed = s.handed := rfl
@[simp] theorem State.report_waiting : (s.report k d).waiting = s.waiting := rfl
@[simp] theorem State.report_reports : (s.report k d).reports = s.reports ++ [{ kind := k, data := d }] := rfl
@[simp] theorem State.report_drawn : (s.report k d).drawn = s.drawn := rfl
@[simp] theorem State.report_pending : (s.report k d).pending = s.pending := rfl

end

section
variable (s : State) (e : Nat)

@[simp] theorem State.reach_power : (s.reach e).power = s.power := rfl
@[simp] theorem State.reach_time : (s.reach e).time = max s.time (2 * e) := rfl
@[simp] theorem State.reach_line : (s.reach e).line = s.line := rfl
@[simp] theorem State.reach_store : (s.reach e).store = s.store := rfl
@[simp] theorem State.reach_intake : (s.reach e).intake = s.intake := rfl
@[simp] theorem State.reach_grader : (s.reach e).grader = s.grader := rfl
@[simp] theorem State.reach_monitor : (s.reach e).monitor = s.monitor := rfl
@[simp] theorem State.reach_sequencer : (s.reach e).sequencer = s.sequencer := rfl
@[simp] theorem State.reach_drives : (s.reach e).drives = s.drives := rfl
@[simp] theorem State.reach_allocator : (s.reach e).allocator = s.allocator := rfl
@[simp] theorem State.reach_publisher : (s.reach e).publisher = s.publisher := rfl
@[simp] theorem State.reach_responder : (s.reach e).responder = s.responder := rfl
@[simp] theorem State.reach_handed : (s.reach e).handed = s.handed := rfl
@[simp] theorem State.reach_waiting : (s.reach e).waiting = s.waiting := rfl
@[simp] theorem State.reach_reports : (s.reach e).reports = s.reports := rfl
@[simp] theorem State.reach_drawn : (s.reach e).drawn = s.drawn := rfl
@[simp] theorem State.reach_pending : (s.reach e).pending = s.pending := rfl

end

section
variable (s : State) (e : Nat)

@[simp] theorem State.reachStep_power : (s.reachStep e).power = s.power := rfl
@[simp] theorem State.reachStep_time : (s.reachStep e).time = max s.time e := rfl
@[simp] theorem State.reachStep_line : (s.reachStep e).line = s.line := rfl
@[simp] theorem State.reachStep_store : (s.reachStep e).store = s.store := rfl
@[simp] theorem State.reachStep_intake : (s.reachStep e).intake = s.intake := rfl
@[simp] theorem State.reachStep_grader : (s.reachStep e).grader = s.grader := rfl
@[simp] theorem State.reachStep_monitor : (s.reachStep e).monitor = s.monitor := rfl
@[simp] theorem State.reachStep_sequencer : (s.reachStep e).sequencer = s.sequencer := rfl
@[simp] theorem State.reachStep_drives : (s.reachStep e).drives = s.drives := rfl
@[simp] theorem State.reachStep_allocator : (s.reachStep e).allocator = s.allocator := rfl
@[simp] theorem State.reachStep_publisher : (s.reachStep e).publisher = s.publisher := rfl
@[simp] theorem State.reachStep_responder : (s.reachStep e).responder = s.responder := rfl
@[simp] theorem State.reachStep_handed : (s.reachStep e).handed = s.handed := rfl
@[simp] theorem State.reachStep_waiting : (s.reachStep e).waiting = s.waiting := rfl
@[simp] theorem State.reachStep_reports : (s.reachStep e).reports = s.reports := rfl
@[simp] theorem State.reachStep_drawn : (s.reachStep e).drawn = s.drawn := rfl
@[simp] theorem State.reachStep_pending : (s.reachStep e).pending = s.pending := rfl

end

section
variable (s : State) (p : Port) (q : PortState)

@[simp] theorem State.withPort_power : (s.withPort p q).power = s.power := rfl
@[simp] theorem State.withPort_time : (s.withPort p q).time = s.time := rfl
@[simp] theorem State.withPort_line : (s.withPort p q).line = s.line.setPort p q := rfl
@[simp] theorem State.withPort_store : (s.withPort p q).store = s.store := rfl
@[simp] theorem State.withPort_intake : (s.withPort p q).intake = s.intake := rfl
@[simp] theorem State.withPort_grader : (s.withPort p q).grader = s.grader := rfl
@[simp] theorem State.withPort_monitor : (s.withPort p q).monitor = s.monitor := rfl
@[simp] theorem State.withPort_sequencer : (s.withPort p q).sequencer = s.sequencer := rfl
@[simp] theorem State.withPort_drives : (s.withPort p q).drives = s.drives := rfl
@[simp] theorem State.withPort_allocator : (s.withPort p q).allocator = s.allocator := rfl
@[simp] theorem State.withPort_publisher : (s.withPort p q).publisher = s.publisher := rfl
@[simp] theorem State.withPort_responder : (s.withPort p q).responder = s.responder := rfl
@[simp] theorem State.withPort_handed : (s.withPort p q).handed = s.handed := rfl
@[simp] theorem State.withPort_waiting : (s.withPort p q).waiting = s.waiting := rfl
@[simp] theorem State.withPort_reports : (s.withPort p q).reports = s.reports := rfl
@[simp] theorem State.withPort_drawn : (s.withPort p q).drawn = s.drawn := rfl
@[simp] theorem State.withPort_pending : (s.withPort p q).pending = s.pending := rfl

end

section
variable (s : State) (r : Region) (x : RegionRecord)

@[simp] theorem State.withRegion_power : (s.withRegion r x).power = s.power := rfl
@[simp] theorem State.withRegion_time : (s.withRegion r x).time = s.time := rfl
@[simp] theorem State.withRegion_line : (s.withRegion r x).line = s.line := rfl
@[simp] theorem State.withRegion_store : (s.withRegion r x).store = { s.store with regions := s.store.regions.set r x } := rfl
@[simp] theorem State.withRegion_intake : (s.withRegion r x).intake = s.intake := rfl
@[simp] theorem State.withRegion_grader : (s.withRegion r x).grader = s.grader := rfl
@[simp] theorem State.withRegion_monitor : (s.withRegion r x).monitor = s.monitor := rfl
@[simp] theorem State.withRegion_sequencer : (s.withRegion r x).sequencer = s.sequencer := rfl
@[simp] theorem State.withRegion_drives : (s.withRegion r x).drives = s.drives := rfl
@[simp] theorem State.withRegion_allocator : (s.withRegion r x).allocator = s.allocator := rfl
@[simp] theorem State.withRegion_publisher : (s.withRegion r x).publisher = s.publisher := rfl
@[simp] theorem State.withRegion_responder : (s.withRegion r x).responder = s.responder := rfl
@[simp] theorem State.withRegion_handed : (s.withRegion r x).handed = s.handed := rfl
@[simp] theorem State.withRegion_waiting : (s.withRegion r x).waiting = s.waiting := rfl
@[simp] theorem State.withRegion_reports : (s.withRegion r x).reports = s.reports := rfl
@[simp] theorem State.withRegion_drawn : (s.withRegion r x).drawn = s.drawn := rfl
@[simp] theorem State.withRegion_pending : (s.withRegion r x).pending = s.pending := rfl

end

/-! ### Ports and regions -/

@[simp] theorem LineSwitch.port_setPort (l : LineSwitch) (p : Port) (q : PortState) : (l.setPort p q).port p = q := by
  cases p <;> rfl
@[simp] theorem LineSwitch.port_setPort_opposite (l : LineSwitch) (p : Port) (q : PortState) :
    (l.setPort p q).port (opposite p) = l.port (opposite p) := by cases p <;> rfl
@[simp] theorem LineSwitch.setPort_lineState (l : LineSwitch) (p : Port) (q : PortState) :
    (l.setPort p q).lineState = l.lineState := by cases p <;> rfl
@[simp] theorem LineSwitch.setPort_silence (l : LineSwitch) (p : Port) (q : PortState) :
    (l.setPort p q).silence = l.silence := by cases p <;> rfl
@[simp] theorem LineSwitch.setPort_outcomes (l : LineSwitch) (p : Port) (q : PortState) :
    (l.setPort p q).outcomes = l.outcomes := by cases p <;> rfl
@[simp] theorem LineSwitch.setPort_answer (l : LineSwitch) (p : Port) (q : PortState) :
    (l.setPort p q).answer = l.answer := by cases p <;> rfl
@[simp] theorem opposite_opposite (p : Port) : opposite (opposite p) = p := by cases p <;> rfl
theorem opposite_ne (p : Port) : opposite p ≠ p := by cases p <;> decide

@[simp] theorem Regions.get_set (rs : Regions) (r : Region) (x : RegionRecord) : (rs.set r x).get r = x := by
  cases r <;> rfl
theorem Regions.get_set_of_ne (rs : Regions) {r q : Region} (x : RegionRecord) (h : q ≠ r) :
    (rs.set r x).get q = rs.get q := by
  cases r <;> cases q <;> first | rfl | exact absurd rfl h
@[simp] theorem State.region_withRegion (s : State) (r : Region) (x : RegionRecord) : (s.withRegion r x).region r = x := by
  cases r <;> rfl
theorem State.region_withRegion_of_ne (s : State) {r q : Region} (x : RegionRecord) (h : q ≠ r) :
    (s.withRegion r x).region q = s.region q := by
  cases r <;> cases q <;> first | rfl | exact absurd rfl h

/-- A state is what its fields are. -/
theorem State.ext_fields {s t : State} (h0 : s.power = t.power) (h1 : s.time = t.time) (h2 : s.line = t.line)
    (h3 : s.store = t.store) (h4 : s.intake = t.intake) (h5 : s.grader = t.grader) (h6 : s.monitor = t.monitor)
    (h7 : s.sequencer = t.sequencer) (h8 : s.drives = t.drives) (h9 : s.allocator = t.allocator)
    (h10 : s.publisher = t.publisher) (h11 : s.responder = t.responder) (h12 : s.handed = t.handed)
    (h13 : s.waiting = t.waiting) (h14 : s.reports = t.reports) (h15 : s.drawn = t.drawn)
    (h16 : s.pending = t.pending) : s = t := by
  cases s; cases t; simp_all

end Sys2Proof.Machine
end

