-- ==== Sys2Proof/Laws/Line.lean ====
section
/-!
SUPPORT. What the shared operations of the Line Switch can do: a selection, an offer, a REPLY and the reports of a step
touch the Line Switch, the Responder and the waiting events only; at a busy port V with room a REPLY joins its queue;
and what every command's meaning stands in.
-/

namespace Sys2Proof.Machine

/-! ### Only the Line Switch, the Responder and the waiting events -/

/-- `t` is `s` but for the Line Switch, the Responder and the waiting events. -/
def lineTouched (s t : State) : Prop :=
  t = ((s.withLine t.line).withResponder t.responder).withHanded t.handed

theorem lineTouched_refl (s : State) : lineTouched s s := rfl

theorem lineTouched_trans {s t u : State} (h : lineTouched s t) (k : lineTouched t u) : lineTouched s u := by
  unfold lineTouched at *
  rw [k, h]
  rfl

theorem lineTouched_withLine (s : State) (l : LineSwitch) : lineTouched s (s.withLine l) := rfl

theorem lineTouched_withPort (s : State) (p : Port) (q : PortState) : lineTouched s (s.withPort p q) := rfl

theorem lineTouched_hand (s : State) (c : Instr) : lineTouched s (s.hand c) := rfl

theorem lineTouched_give (s : State) (gs : List Given) : lineTouched s (s.give gs) := by
  unfold State.give
  split <;> rfl

theorem lineTouched_releaseRestart (s : State) : lineTouched s (releaseRestart s) := rfl

theorem lineTouched_select (p : Port) (s : State) : lineTouched s (select p s) := by
  unfold select
  split
  · split <;> rfl
  · rfl

theorem lineTouched_offer (p : Port) (l : LocalFrame) (s : State) : lineTouched s (offer p l s).1 := by
  unfold offer
  simp only
  split
  · split
    · exact lineTouched_trans (lineTouched_trans (lineTouched_withLine s _) (lineTouched_give _ _))
        (lineTouched_releaseRestart _)
    · dsimp only
      exact lineTouched_trans (lineTouched_withLine s _) (lineTouched_give _ _)
  · split
    · exact lineTouched_trans (lineTouched_trans (lineTouched_withPort s _ _) (lineTouched_withLine _ _))
        (lineTouched_select _ _)
    · split
      · exact lineTouched_trans (lineTouched_trans (lineTouched_withPort s _ _) (lineTouched_withLine _ _))
          (lineTouched_releaseRestart _)
      · exact lineTouched_trans (lineTouched_withPort s _ _) (lineTouched_withLine _ _)

theorem lineTouched_reply (s : State) (code tag result : Byte) (data : Bytes) :
    lineTouched s (s.reply code tag result data) := lineTouched_offer ..

theorem lineTouched_restartReply (s : State) (code tag result : Byte) (data : Bytes) :
    lineTouched s (s.restartReply code tag result data) := lineTouched_offer ..

theorem lineTouched_sendReport (s : State) (r : ReportRequest) : lineTouched s (sendReport s r) := lineTouched_offer ..

theorem lineTouched_flushReports (s : State) : lineTouched (s.withReports []) (flushReports s) := by
  have keep : ∀ (l : List ReportRequest) (t u : State), lineTouched t u → lineTouched t (l.foldl sendReport u) := by
    intro l
    induction l with
    | nil => exact fun _ _ h => h
    | cons r l ih => exact fun t u h => ih t _ (lineTouched_trans h (lineTouched_sendReport u r))
  exact keep _ _ _ (lineTouched_refl _)

section
variable {s t : State} (h : lineTouched s t)
include h

theorem lineTouched_power : t.power = s.power := by rw [h]; rfl
theorem lineTouched_time : t.time = s.time := by rw [h]; rfl
theorem lineTouched_store : t.store = s.store := by rw [h]; rfl
theorem lineTouched_intake : t.intake = s.intake := by rw [h]; rfl
theorem lineTouched_grader : t.grader = s.grader := by rw [h]; rfl
theorem lineTouched_monitor : t.monitor = s.monitor := by rw [h]; rfl
theorem lineTouched_sequencer : t.sequencer = s.sequencer := by rw [h]; rfl
theorem lineTouched_drives : t.drives = s.drives := by rw [h]; rfl
theorem lineTouched_allocator : t.allocator = s.allocator := by rw [h]; rfl
theorem lineTouched_publisher : t.publisher = s.publisher := by rw [h]; rfl
theorem lineTouched_reports : t.reports = s.reports := by rw [h]; rfl
theorem lineTouched_drawn : t.drawn = s.drawn := by rw [h]; rfl
theorem lineTouched_waiting : t.waiting = s.waiting := by rw [h]; rfl
theorem lineTouched_pending : t.pending = s.pending := by rw [h]; rfl

end

/-! ### A busy port with room -/

/-- A busy port makes no selection. -/
theorem select_of_busy {p : Port} {s : State} (h : (s.line.port p).busy.isSome = true) : select p s = s := by
  unfold select
  have : s.selects p = false := by
    unfold State.selects
    cases e : (s.line.port p).busy <;> simp_all
  rw [this]
  rfl

/-- An offer to a busy port with a free place joins the tail of its queue and is answered ACCEPTED. -/
theorem offer_of_busy {p : Port} {l : LocalFrame} {s : State} (up : (s.line.port p).up = true)
    (busy : (s.line.port p).busy.isSome = true) (room : (s.line.port p).localQ.length < Config.localPlaces) :
    offer p l s =
      (s.withLine
        { s.line.setPort p { s.line.port p with localQ := (s.line.port p).localQ ++ [l] } with
          answer := some (p, .accepted) }, .accepted) := by
  unfold offer
  simp only [up, room, if_true]
  rw [if_neg (by simp), select_of_busy]
  · rfl
  · cases p <;> exact busy

/-- No report left over: nothing goes out. -/
theorem flushReports_of_nil {s : State} (h : s.reports = []) : flushReports s = s := by
  unfold flushReports
  rw [h]
  cases s
  simp only [State.withReports] at *
  subst h
  rfl

/-! ### The frame of every meaning -/

/-- Under supply a meaning answers its effect and its reports. -/
theorem taken_of_power {c : Instr} {effect : State → State} {s : State} (h : s.power = true) :
    taken c effect s = .next (flushReports (effect (s.withHanded (s.handed.erase c)))) := by
  unfold taken
  rw [if_pos h]

/-- Without supply it changes nothing. -/
theorem taken_of_no_power {c : Instr} {effect : State → State} {s : State} (h : s.power = false) :
    taken c effect s = .next s := by
  unfold taken
  rw [if_neg (by simp [h])]

/-- A meaning always answers a next state, and which. -/
theorem taken_next {c : Instr} {effect : State → State} {s t : State} (h : taken c effect s = .next t) :
    (s.power = false ∧ t = s) ∨
      (s.power = true ∧ t = flushReports (effect (s.withHanded (s.handed.erase c)))) := by
  cases p : s.power
  · rw [taken_of_no_power p] at h; cases h; exact .inl ⟨rfl, rfl⟩
  · rw [taken_of_power p] at h; cases h; exact .inr ⟨rfl, rfl⟩

end Sys2Proof.Machine
end

