-- ==== Sys2Proof/Laws/Map.lean ====
section
/-!
SUPPORT. Laws of the keyed tables: what is read after a write or a removal, that both keep the rising order of the
indices, and what stands in the table afterwards.
-/

namespace Sys2Proof.Machine

variable {α : Type}

/-! ### Reading after writing -/

@[simp] theorem mapGet_nil (i : Nat) : mapGet ([] : Map α) i = none := rfl

theorem mapGet_cons (k : Nat) (v : α) (m : Map α) (i : Nat) :
    mapGet ((k, v) :: m) i = if i = k then some v else mapGet m i := rfl

@[simp] theorem mapGet_mapPut_self (m : Map α) (i : Nat) (v : α) : mapGet (mapPut m i v) i = some v := by
  induction m with
  | nil => simp [mapPut, mapGet]
  | cons e m ih =>
    obtain ⟨k, w⟩ := e
    simp only [mapPut]
    split
    · simp [mapGet]
    · split
      · simp [mapGet]
      · next h => simp [mapGet, h, ih]

theorem mapGet_mapPut_of_ne (m : Map α) {i j : Nat} (v : α) (h : j ≠ i) : mapGet (mapPut m i v) j = mapGet m j := by
  induction m with
  | nil => simp [mapPut, mapGet, h]
  | cons e m ih =>
    obtain ⟨k, w⟩ := e
    simp only [mapPut]
    split
    · simp [mapGet, h]
    · split
      · next e => subst e; simp [mapGet, h]
      · simp [mapGet, ih]

@[simp] theorem mapGet_mapDel_self (m : Map α) (i : Nat) : mapGet (mapDel m i) i = none := by
  induction m with
  | nil => rfl
  | cons e m ih =>
    obtain ⟨k, w⟩ := e
    by_cases h : k = i
    · simpa [mapDel, h] using ih
    · have : i ≠ k := fun e => h e.symm
      simpa [mapDel, h, mapGet, this] using ih

theorem mapGet_mapDel_of_ne (m : Map α) {i j : Nat} (h : j ≠ i) : mapGet (mapDel m i) j = mapGet m j := by
  induction m with
  | nil => rfl
  | cons e m ih =>
    obtain ⟨k, w⟩ := e
    by_cases hk : k = i
    · have : j ≠ k := by omega
      simpa [mapDel, hk, mapGet, this, h] using ih
    · have d : mapDel ((k, w) :: m) i = (k, w) :: mapDel m i := by simp [mapDel, hk]
      rw [d, mapGet_cons, mapGet_cons, ih]

/-! ### The rising order -/

theorem mapSorted_cons (k : Nat) (v : α) (m : Map α) :
    mapSorted ((k, v) :: m) = true ↔ (∀ e ∈ m, k < e.1) ∧ mapSorted m = true := by
  induction m generalizing k v with
  | nil => simp [mapSorted]
  | cons e m ih =>
    obtain ⟨j, w⟩ := e
    have s : mapSorted ((k, v) :: (j, w) :: m) = (decide (k < j) && mapSorted ((j, w) :: m)) := rfl
    rw [s]
    simp only [Bool.and_eq_true, decide_eq_true_eq, List.mem_cons, forall_eq_or_imp]
    constructor
    · rintro ⟨h, r⟩
      refine ⟨⟨h, fun e he => ?_⟩, r⟩
      have := ((ih j w).mp r).1 e he
      omega
    · rintro ⟨⟨h, _⟩, r⟩
      exact ⟨h, r⟩

theorem mem_mapPut {m : Map α} {i : Nat} {v : α} {e : Nat × α} (h : e ∈ mapPut m i v) : e = (i, v) ∨ e ∈ m := by
  induction m with
  | nil => simpa [mapPut] using h
  | cons x m ih =>
    obtain ⟨k, w⟩ := x
    simp only [mapPut] at h
    split at h
    · simp only [List.mem_cons] at *; tauto
    · split at h
      · simp only [List.mem_cons] at *; tauto
      · simp only [List.mem_cons] at *
        rcases h with h | h
        · exact .inr (.inl h)
        · rcases ih h with h | h
          · exact .inl h
          · exact .inr (.inr h)

theorem mapSorted_mapPut {m : Map α} (i : Nat) (v : α) (h : mapSorted m = true) : mapSorted (mapPut m i v) = true := by
  induction m with
  | nil => rfl
  | cons x m ih =>
    obtain ⟨k, w⟩ := x
    obtain ⟨hk, hm⟩ := (mapSorted_cons k w m).mp h
    simp only [mapPut]
    split
    · next lt =>
      refine (mapSorted_cons ..).mpr ⟨fun e he => ?_, h⟩
      rcases List.mem_cons.mp he with rfl | he
      · exact lt
      · have := hk e he; omega
    · split
      · next _ e => subst e; exact (mapSorted_cons ..).mpr ⟨hk, hm⟩
      · refine (mapSorted_cons ..).mpr ⟨fun e he => ?_, ih hm⟩
        rcases mem_mapPut he with rfl | he
        · show k < i; omega
        · exact hk e he

theorem mapSorted_filter {m : Map α} (p : Nat × α → Bool) (h : mapSorted m = true) :
    mapSorted (m.filter p) = true := by
  induction m with
  | nil => rfl
  | cons x m ih =>
    obtain ⟨k, w⟩ := x
    obtain ⟨hk, hm⟩ := (mapSorted_cons k w m).mp h
    simp only [List.filter_cons]
    split
    · exact (mapSorted_cons ..).mpr ⟨fun e he => hk e (List.mem_filter.mp he).1, ih hm⟩
    · exact ih hm

theorem mapSorted_mapDel {m : Map α} (i : Nat) (h : mapSorted m = true) : mapSorted (mapDel m i) = true :=
  mapSorted_filter _ h

theorem mem_of_mapGet {m : Map α} {i : Nat} {v : α} (h : mapGet m i = some v) : (i, v) ∈ m := by
  induction m with
  | nil => cases h
  | cons x m ih =>
    obtain ⟨k, w⟩ := x
    rw [mapGet_cons] at h
    split at h
    · next e => subst e; cases h; exact List.mem_cons_self
    · exact List.mem_cons_of_mem _ (ih h)

theorem mapGet_of_mem {m : Map α} {e : Nat × α} (s : mapSorted m = true) (h : e ∈ m) : mapGet m e.1 = some e.2 := by
  induction m with
  | nil => cases h
  | cons x m ih =>
    obtain ⟨k, w⟩ := x
    obtain ⟨hk, hm⟩ := (mapSorted_cons k w m).mp s
    rw [mapGet_cons]
    rcases List.mem_cons.mp h with rfl | h
    · simp
    · have := hk e h
      rw [if_neg (by omega)]
      exact ih hm h

/-! ### A record changed where there is one -/

@[simp] theorem mapGet_mapUpdate_self (m : Map α) (i : Nat) (f : α → α) :
    mapGet (mapUpdate m i f) i = (mapGet m i).map f := by
  unfold mapUpdate
  split
  · next h => simp [h]
  · next h => simp [h]

theorem mapGet_mapUpdate_of_ne (m : Map α) {i j : Nat} (f : α → α) (h : j ≠ i) :
    mapGet (mapUpdate m i f) j = mapGet m j := by
  unfold mapUpdate
  split
  · rfl
  · exact mapGet_mapPut_of_ne m _ h

theorem mapSorted_mapUpdate {m : Map α} (i : Nat) (f : α → α) (h : mapSorted m = true) :
    mapSorted (mapUpdate m i f) = true := by
  unfold mapUpdate
  split
  · exact h
  · exact mapSorted_mapPut i _ h

end Sys2Proof.Machine
end

