-- ==== Sys2Proof/Laws/Records.lean ====
section
/-!
SUPPORT. Laws of the updates of one record: the blocks they leave, by unfolding, and what is read after them; with the
laws of the small shared operations on numbers, bytes and lists.
-/

namespace Sys2Proof.Machine

/-! ### What an update of one record leaves -/

section
variable (s : State) (i : Nat) (r : InputRec)

@[simp] theorem State.withInput_power : (s.withInput i r).power = s.power := rfl
@[simp] theorem State.withInput_time : (s.withInput i r).time = s.time := rfl
@[simp] theorem State.withInput_line : (s.withInput i r).line = s.line := rfl
@[simp] theorem State.withInput_store : (s.withInput i r).store = s.store := rfl
@[simp] theorem State.withInput_intake : (s.withInput i r).intake = s.intake := rfl
@[simp] theorem State.withInput_grader : (s.withInput i r).grader = s.grader := rfl
@[simp] theorem State.withInput_sequencer : (s.withInput i r).sequencer = s.sequencer := rfl
@[simp] theorem State.withInput_drives : (s.withInput i r).drives = s.drives := rfl
@[simp] theorem State.withInput_allocator : (s.withInput i r).allocator = s.allocator := rfl
@[simp] theorem State.withInput_publisher : (s.withInput i r).publisher = s.publisher := rfl
@[simp] theorem State.withInput_responder : (s.withInput i r).responder = s.responder := rfl
@[simp] theorem State.withInput_handed : (s.withInput i r).handed = s.handed := rfl
@[simp] theorem State.withInput_waiting : (s.withInput i r).waiting = s.waiting := rfl
@[simp] theorem State.withInput_reports : (s.withInput i r).reports = s.reports := rfl
@[simp] theorem State.withInput_drawn : (s.withInput i r).drawn = s.drawn := rfl
@[simp] theorem State.withInput_pending : (s.withInput i r).pending = s.pending := rfl

end

section
variable (s : State) (g : Nat) (r : SegmentRec)

@[simp] theorem State.withSegment_power : (s.withSegment g r).power = s.power := rfl
@[simp] theorem State.withSegment_time : (s.withSegment g r).time = s.time := rfl
@[simp] theorem State.withSegment_line : (s.withSegment g r).line = s.line := rfl
@[simp] theorem State.withSegment_store : (s.withSegment g r).store = s.store := rfl
@[simp] theorem State.withSegment_intake : (s.withSegment g r).intake = s.intake := rfl
@[simp] theorem State.withSegment_grader : (s.withSegment g r).grader = s.grader := rfl
@[simp] theorem State.withSegment_monitor : (s.withSegment g r).monitor = s.monitor := rfl
@[simp] theorem State.withSegment_drives : (s.withSegment g r).drives = s.drives := rfl
@[simp] theorem State.withSegment_allocator : (s.withSegment g r).allocator = s.allocator := rfl
@[simp] theorem State.withSegment_publisher : (s.withSegment g r).publisher = s.publisher := rfl
@[simp] theorem State.withSegment_responder : (s.withSegment g r).responder = s.responder := rfl
@[simp] theorem State.withSegment_handed : (s.withSegment g r).handed = s.handed := rfl
@[simp] theorem State.withSegment_waiting : (s.withSegment g r).waiting = s.waiting := rfl
@[simp] theorem State.withSegment_reports : (s.withSegment g r).reports = s.reports := rfl
@[simp] theorem State.withSegment_drawn : (s.withSegment g r).drawn = s.drawn := rfl
@[simp] theorem State.withSegment_pending : (s.withSegment g r).pending = s.pending := rfl

end

section
variable (s : State) (c : Option Clock)

@[simp] theorem State.withClock_power : (s.withClock c).power = s.power := rfl
@[simp] theorem State.withClock_time : (s.withClock c).time = s.time := rfl
@[simp] theorem State.withClock_line : (s.withClock c).line = s.line := rfl
@[simp] theorem State.withClock_store : (s.withClock c).store = s.store := rfl
@[simp] theorem State.withClock_intake : (s.withClock c).intake = s.intake := rfl
@[simp] theorem State.withClock_grader : (s.withClock c).grader = s.grader := rfl
@[simp] theorem State.withClock_monitor : (s.withClock c).monitor = s.monitor := rfl
@[simp] theorem State.withClock_drives : (s.withClock c).drives = s.drives := rfl
@[simp] theorem State.withClock_allocator : (s.withClock c).allocator = s.allocator := rfl
@[simp] theorem State.withClock_publisher : (s.withClock c).publisher = s.publisher := rfl
@[simp] theorem State.withClock_responder : (s.withClock c).responder = s.responder := rfl
@[simp] theorem State.withClock_handed : (s.withClock c).handed = s.handed := rfl
@[simp] theorem State.withClock_waiting : (s.withClock c).waiting = s.waiting := rfl
@[simp] theorem State.withClock_reports : (s.withClock c).reports = s.reports := rfl
@[simp] theorem State.withClock_drawn : (s.withClock c).drawn = s.drawn := rfl
@[simp] theorem State.withClock_pending : (s.withClock c).pending = s.pending := rfl

end

section
variable (s : State) (k : Nat) (p : GatePins)

@[simp] theorem State.withPins_power : (s.withPins k p).power = s.power := rfl
@[simp] theorem State.withPins_time : (s.withPins k p).time = s.time := rfl
@[simp] theorem State.withPins_line : (s.withPins k p).line = s.line := rfl
@[simp] theorem State.withPins_store : (s.withPins k p).store = s.store := rfl
@[simp] theorem State.withPins_intake : (s.withPins k p).intake = s.intake := rfl
@[simp] theorem State.withPins_grader : (s.withPins k p).grader = s.grader := rfl
@[simp] theorem State.withPins_monitor : (s.withPins k p).monitor = s.monitor := rfl
@[simp] theorem State.withPins_sequencer : (s.withPins k p).sequencer = s.sequencer := rfl
@[simp] theorem State.withPins_allocator : (s.withPins k p).allocator = s.allocator := rfl
@[simp] theorem State.withPins_publisher : (s.withPins k p).publisher = s.publisher := rfl
@[simp] theorem State.withPins_responder : (s.withPins k p).responder = s.responder := rfl
@[simp] theorem State.withPins_handed : (s.withPins k p).handed = s.handed := rfl
@[simp] theorem State.withPins_waiting : (s.withPins k p).waiting = s.waiting := rfl
@[simp] theorem State.withPins_reports : (s.withPins k p).reports = s.reports := rfl
@[simp] theorem State.withPins_drawn : (s.withPins k p).drawn = s.drawn := rfl
@[simp] theorem State.withPins_pending : (s.withPins k p).pending = s.pending := rfl

end

section
variable (s : State) (n : Nat)

@[simp] theorem State.withRequested_power : (s.withRequested n).power = s.power := rfl
@[simp] theorem State.withRequested_time : (s.withRequested n).time = s.time := rfl
@[simp] theorem State.withRequested_line : (s.withRequested n).line = s.line := rfl
@[simp] theorem State.withRequested_store : (s.withRequested n).store = s.store := rfl
@[simp] theorem State.withRequested_intake : (s.withRequested n).intake = s.intake := rfl
@[simp] theorem State.withRequested_grader : (s.withRequested n).grader = s.grader := rfl
@[simp] theorem State.withRequested_monitor : (s.withRequested n).monitor = s.monitor := rfl
@[simp] theorem State.withRequested_sequencer : (s.withRequested n).sequencer = s.sequencer := rfl
@[simp] theorem State.withRequested_drives : (s.withRequested n).drives = s.drives := rfl
@[simp] theorem State.withRequested_publisher : (s.withRequested n).publisher = s.publisher := rfl
@[simp] theorem State.withRequested_responder : (s.withRequested n).responder = s.responder := rfl
@[simp] theorem State.withRequested_handed : (s.withRequested n).handed = s.handed := rfl
@[simp] theorem State.withRequested_waiting : (s.withRequested n).waiting = s.waiting := rfl
@[simp] theorem State.withRequested_reports : (s.withRequested n).reports = s.reports := rfl
@[simp] theorem State.withRequested_drawn : (s.withRequested n).drawn = s.drawn := rfl
@[simp] theorem State.withRequested_pending : (s.withRequested n).pending = s.pending := rfl

end

section
variable (s : State) (g : Nat) (r : SignRec)

@[simp] theorem State.withSign_power : (s.withSign g r).power = s.power := rfl
@[simp] theorem State.withSign_time : (s.withSign g r).time = s.time := rfl
@[simp] theorem State.withSign_line : (s.withSign g r).line = s.line := rfl
@[simp] theorem State.withSign_store : (s.withSign g r).store = s.store := rfl
@[simp] theorem State.withSign_intake : (s.withSign g r).intake = s.intake := rfl
@[simp] theorem State.withSign_grader : (s.withSign g r).grader = s.grader := rfl
@[simp] theorem State.withSign_monitor : (s.withSign g r).monitor = s.monitor := rfl
@[simp] theorem State.withSign_sequencer : (s.withSign g r).sequencer = s.sequencer := rfl
@[simp] theorem State.withSign_drives : (s.withSign g r).drives = s.drives := rfl
@[simp] theorem State.withSign_allocator : (s.withSign g r).allocator = s.allocator := rfl
@[simp] theorem State.withSign_responder : (s.withSign g r).responder = s.responder := rfl
@[simp] theorem State.withSign_handed : (s.withSign g r).handed = s.handed := rfl
@[simp] theorem State.withSign_waiting : (s.withSign g r).waiting = s.waiting := rfl
@[simp] theorem State.withSign_reports : (s.withSign g r).reports = s.reports := rfl
@[simp] theorem State.withSign_drawn : (s.withSign g r).drawn = s.drawn := rfl
@[simp] theorem State.withSign_pending : (s.withSign g r).pending = s.pending := rfl

end

section
variable (s : State) (p : Port) (l : List Nat)

@[simp] theorem State.withHold_power : (s.withHold p l).power = s.power := rfl
@[simp] theorem State.withHold_time : (s.withHold p l).time = s.time := rfl
@[simp] theorem State.withHold_line : (s.withHold p l).line = s.line := rfl
@[simp] theorem State.withHold_store : (s.withHold p l).store = s.store := rfl
@[simp] theorem State.withHold_intake : (s.withHold p l).intake = s.intake := rfl
@[simp] theorem State.withHold_grader : (s.withHold p l).grader = s.grader := rfl
@[simp] theorem State.withHold_monitor : (s.withHold p l).monitor = s.monitor := rfl
@[simp] theorem State.withHold_sequencer : (s.withHold p l).sequencer = s.sequencer := rfl
@[simp] theorem State.withHold_drives : (s.withHold p l).drives = s.drives := rfl
@[simp] theorem State.withHold_allocator : (s.withHold p l).allocator = s.allocator := rfl
@[simp] theorem State.withHold_responder : (s.withHold p l).responder = s.responder := rfl
@[simp] theorem State.withHold_handed : (s.withHold p l).handed = s.handed := rfl
@[simp] theorem State.withHold_waiting : (s.withHold p l).waiting = s.waiting := rfl
@[simp] theorem State.withHold_reports : (s.withHold p l).reports = s.reports := rfl
@[simp] theorem State.withHold_drawn : (s.withHold p l).drawn = s.drawn := rfl
@[simp] theorem State.withHold_pending : (s.withHold p l).pending = s.pending := rfl

end

section
variable (s : State) (w : Option Sweep)

@[simp] theorem State.withSweep_power : (s.withSweep w).power = s.power := rfl
@[simp] theorem State.withSweep_time : (s.withSweep w).time = s.time := rfl
@[simp] theorem State.withSweep_line : (s.withSweep w).line = s.line := rfl
@[simp] theorem State.withSweep_store : (s.withSweep w).store = s.store := rfl
@[simp] theorem State.withSweep_intake : (s.withSweep w).intake = s.intake := rfl
@[simp] theorem State.withSweep_grader : (s.withSweep w).grader = s.grader := rfl
@[simp] theorem State.withSweep_monitor : (s.withSweep w).monitor = s.monitor := rfl
@[simp] theorem State.withSweep_sequencer : (s.withSweep w).sequencer = s.sequencer := rfl
@[simp] theorem State.withSweep_drives : (s.withSweep w).drives = s.drives := rfl
@[simp] theorem State.withSweep_allocator : (s.withSweep w).allocator = s.allocator := rfl
@[simp] theorem State.withSweep_responder : (s.withSweep w).responder = s.responder := rfl
@[simp] theorem State.withSweep_handed : (s.withSweep w).handed = s.handed := rfl
@[simp] theorem State.withSweep_waiting : (s.withSweep w).waiting = s.waiting := rfl
@[simp] theorem State.withSweep_reports : (s.withSweep w).reports = s.reports := rfl
@[simp] theorem State.withSweep_drawn : (s.withSweep w).drawn = s.drawn := rfl
@[simp] theorem State.withSweep_pending : (s.withSweep w).pending = s.pending := rfl

end

section
variable (s : State) (f : SiteField) (v : BitVec 16)

@[simp] theorem State.withField_power : (s.withField f v).power = s.power := rfl
@[simp] theorem State.withField_time : (s.withField f v).time = s.time := rfl
@[simp] theorem State.withField_line : (s.withField f v).line = s.line := rfl
@[simp] theorem State.withField_intake : (s.withField f v).intake = s.intake := rfl
@[simp] theorem State.withField_grader : (s.withField f v).grader = s.grader := rfl
@[simp] theorem State.withField_monitor : (s.withField f v).monitor = s.monitor := rfl
@[simp] theorem State.withField_sequencer : (s.withField f v).sequencer = s.sequencer := rfl
@[simp] theorem State.withField_drives : (s.withField f v).drives = s.drives := rfl
@[simp] theorem State.withField_allocator : (s.withField f v).allocator = s.allocator := rfl
@[simp] theorem State.withField_publisher : (s.withField f v).publisher = s.publisher := rfl
@[simp] theorem State.withField_responder : (s.withField f v).responder = s.responder := rfl
@[simp] theorem State.withField_handed : (s.withField f v).handed = s.handed := rfl
@[simp] theorem State.withField_waiting : (s.withField f v).waiting = s.waiting := rfl
@[simp] theorem State.withField_reports : (s.withField f v).reports = s.reports := rfl
@[simp] theorem State.withField_drawn : (s.withField f v).drawn = s.drawn := rfl
@[simp] theorem State.withField_pending : (s.withField f v).pending = s.pending := rfl

end

section
variable (s : State) (r : Region) (h : Header)

@[simp] theorem State.withHeader_power : (s.withHeader r h).power = s.power := rfl
@[simp] theorem State.withHeader_time : (s.withHeader r h).time = s.time := rfl
@[simp] theorem State.withHeader_line : (s.withHeader r h).line = s.line := rfl
@[simp] theorem State.withHeader_intake : (s.withHeader r h).intake = s.intake := rfl
@[simp] theorem State.withHeader_grader : (s.withHeader r h).grader = s.grader := rfl
@[simp] theorem State.withHeader_monitor : (s.withHeader r h).monitor = s.monitor := rfl
@[simp] theorem State.withHeader_sequencer : (s.withHeader r h).sequencer = s.sequencer := rfl
@[simp] theorem State.withHeader_drives : (s.withHeader r h).drives = s.drives := rfl
@[simp] theorem State.withHeader_allocator : (s.withHeader r h).allocator = s.allocator := rfl
@[simp] theorem State.withHeader_publisher : (s.withHeader r h).publisher = s.publisher := rfl
@[simp] theorem State.withHeader_responder : (s.withHeader r h).responder = s.responder := rfl
@[simp] theorem State.withHeader_handed : (s.withHeader r h).handed = s.handed := rfl
@[simp] theorem State.withHeader_waiting : (s.withHeader r h).waiting = s.waiting := rfl
@[simp] theorem State.withHeader_reports : (s.withHeader r h).reports = s.reports := rfl
@[simp] theorem State.withHeader_drawn : (s.withHeader r h).drawn = s.drawn := rfl
@[simp] theorem State.withHeader_pending : (s.withHeader r h).pending = s.pending := rfl

end

section
variable (s : State) (x : Option ClearRun)

@[simp] theorem State.withClearing_power : (s.withClearing x).power = s.power := rfl
@[simp] theorem State.withClearing_time : (s.withClearing x).time = s.time := rfl
@[simp] theorem State.withClearing_line : (s.withClearing x).line = s.line := rfl
@[simp] theorem State.withClearing_intake : (s.withClearing x).intake = s.intake := rfl
@[simp] theorem State.withClearing_grader : (s.withClearing x).grader = s.grader := rfl
@[simp] theorem State.withClearing_monitor : (s.withClearing x).monitor = s.monitor := rfl
@[simp] theorem State.withClearing_sequencer : (s.withClearing x).sequencer = s.sequencer := rfl
@[simp] theorem State.withClearing_drives : (s.withClearing x).drives = s.drives := rfl
@[simp] theorem State.withClearing_allocator : (s.withClearing x).allocator = s.allocator := rfl
@[simp] theorem State.withClearing_publisher : (s.withClearing x).publisher = s.publisher := rfl
@[simp] theorem State.withClearing_responder : (s.withClearing x).responder = s.responder := rfl
@[simp] theorem State.withClearing_handed : (s.withClearing x).handed = s.handed := rfl
@[simp] theorem State.withClearing_waiting : (s.withClearing x).waiting = s.waiting := rfl
@[simp] theorem State.withClearing_reports : (s.withClearing x).reports = s.reports := rfl
@[simp] theorem State.withClearing_drawn : (s.withClearing x).drawn = s.drawn := rfl
@[simp] theorem State.withClearing_pending : (s.withClearing x).pending = s.pending := rfl

end

section
variable (s : State) (r : Region) (i : Nat) (row : Bytes)

@[simp] theorem State.withRow_power : (s.withRow r i row).power = s.power := rfl
@[simp] theorem State.withRow_time : (s.withRow r i row).time = s.time := rfl
@[simp] theorem State.withRow_line : (s.withRow r i row).line = s.line := rfl
@[simp] theorem State.withRow_intake : (s.withRow r i row).intake = s.intake := rfl
@[simp] theorem State.withRow_grader : (s.withRow r i row).grader = s.grader := rfl
@[simp] theorem State.withRow_monitor : (s.withRow r i row).monitor = s.monitor := rfl
@[simp] theorem State.withRow_sequencer : (s.withRow r i row).sequencer = s.sequencer := rfl
@[simp] theorem State.withRow_drives : (s.withRow r i row).drives = s.drives := rfl
@[simp] theorem State.withRow_allocator : (s.withRow r i row).allocator = s.allocator := rfl
@[simp] theorem State.withRow_publisher : (s.withRow r i row).publisher = s.publisher := rfl
@[simp] theorem State.withRow_responder : (s.withRow r i row).responder = s.responder := rfl
@[simp] theorem State.withRow_handed : (s.withRow r i row).handed = s.handed := rfl
@[simp] theorem State.withRow_waiting : (s.withRow r i row).waiting = s.waiting := rfl
@[simp] theorem State.withRow_reports : (s.withRow r i row).reports = s.reports := rfl
@[simp] theorem State.withRow_drawn : (s.withRow r i row).drawn = s.drawn := rfl
@[simp] theorem State.withRow_pending : (s.withRow r i row).pending = s.pending := rfl

end

/-! ### Reading after an update -/

@[simp] theorem State.get_withInput (s : State) (i : Nat) (r : InputRec) :
    mapGet (s.withInput i r).monitor.inputs i = some r := mapGet_mapPut_self ..
theorem State.get_withInput_of_ne (s : State) {i j : Nat} (r : InputRec) (h : j ≠ i) :
    mapGet (s.withInput i r).monitor.inputs j = mapGet s.monitor.inputs j := mapGet_mapPut_of_ne _ _ h
@[simp] theorem State.paths_withInput (s : State) (i : Nat) (r : InputRec) :
    (s.withInput i r).monitor.paths = s.monitor.paths := rfl

@[simp] theorem State.get_withSegment (s : State) (g : Nat) (r : SegmentRec) :
    mapGet (s.withSegment g r).sequencer.segments g = some r := mapGet_mapPut_self ..
theorem State.get_withSegment_of_ne (s : State) {g h : Nat} (r : SegmentRec) (n : h ≠ g) :
    mapGet (s.withSegment g r).sequencer.segments h = mapGet s.sequencer.segments h := mapGet_mapPut_of_ne _ _ n
theorem State.segment_withSegment_of_ne (s : State) {g h : Nat} (r : SegmentRec) (n : h ≠ g) :
    (s.withSegment g r).segment h = s.segment h := by
  have e : (s.withSegment g r).segmentRow h = s.segmentRow h := rfl
  unfold State.segment
  rw [e, State.get_withSegment_of_ne _ _ n]
theorem State.segment_withSegment (s : State) {g : Nat} (r : SegmentRec) (h : (s.segmentRow g).isSome = true) :
    (s.withSegment g r).segment g = some r := by
  have e : (s.withSegment g r).segmentRow g = s.segmentRow g := rfl
  unfold State.segment
  rw [e, if_pos h, State.get_withSegment]
@[simp] theorem State.clock_withSegment (s : State) (g : Nat) (r : SegmentRec) :
    (s.withSegment g r).sequencer.clock = s.sequencer.clock := rfl
@[simp] theorem State.clock_withClock (s : State) (c : Option Clock) : (s.withClock c).sequencer.clock = c := rfl
@[simp] theorem State.segments_withClock (s : State) (c : Option Clock) :
    (s.withClock c).sequencer.segments = s.sequencer.segments := rfl

@[simp] theorem State.gatePins_withPins (s : State) (k : Nat) (p : GatePins) : (s.withPins k p).gatePins k = p := by
  show (mapGet (mapPut s.drives.pins k p) k).getD .low = p
  rw [mapGet_mapPut_self]
  rfl
theorem State.gatePins_withPins_of_ne (s : State) {k j : Nat} (p : GatePins) (h : j ≠ k) :
    (s.withPins k p).gatePins j = s.gatePins j := by
  show (mapGet (mapPut s.drives.pins k p) j).getD .low = _
  rw [mapGet_mapPut_of_ne _ _ h]
  rfl
@[simp] theorem State.gates_withPins (s : State) (k : Nat) (p : GatePins) :
    (s.withPins k p).drives.gates = s.drives.gates := rfl

@[simp] theorem State.get_withSign (s : State) (g : Nat) (r : SignRec) :
    mapGet (s.withSign g r).publisher.signs g = some r := mapGet_mapPut_self ..
theorem State.get_withSign_of_ne (s : State) {g h : Nat} (r : SignRec) (n : h ≠ g) :
    mapGet (s.withSign g r).publisher.signs h = mapGet s.publisher.signs h := mapGet_mapPut_of_ne _ _ n
theorem State.sign_withSign_of_ne (s : State) {g h : Nat} (r : SignRec) (n : h ≠ g) :
    (s.withSign g r).sign h = s.sign h := by
  have e : (s.withSign g r).signRow h = s.signRow h := rfl
  unfold State.sign
  rw [e, State.get_withSign_of_ne _ _ n]
@[simp] theorem State.sweep_withSign (s : State) (g : Nat) (r : SignRec) :
    (s.withSign g r).publisher.sweep = s.publisher.sweep := rfl
@[simp] theorem State.hold_withSign (s : State) (g : Nat) (r : SignRec) (p : Port) :
    (s.withSign g r).publisher.hold p = s.publisher.hold p := by cases p <;> rfl
@[simp] theorem State.hold_withHold (s : State) (p : Port) (l : List Nat) : (s.withHold p l).publisher.hold p = l := by
  cases p <;> rfl
@[simp] theorem State.hold_withHold_opposite (s : State) (p : Port) (l : List Nat) :
    (s.withHold p l).publisher.hold (opposite p) = s.publisher.hold (opposite p) := by cases p <;> rfl
@[simp] theorem State.signs_withHold (s : State) (p : Port) (l : List Nat) :
    (s.withHold p l).publisher.signs = s.publisher.signs := by cases p <;> rfl
@[simp] theorem State.sweep_withSweep (s : State) (w : Option Sweep) : (s.withSweep w).publisher.sweep = w := rfl
@[simp] theorem State.signs_withSweep (s : State) (w : Option Sweep) :
    (s.withSweep w).publisher.signs = s.publisher.signs := rfl

@[simp] theorem SiteRecord.get_set (x : SiteRecord) (f : SiteField) (v : BitVec 16) : (x.set f v).get f = v := by
  cases f <;> rfl
theorem SiteRecord.get_set_of_ne (x : SiteRecord) {f g : SiteField} (v : BitVec 16) (h : g ≠ f) :
    (x.set f v).get g = x.get g := by
  cases f <;> cases g <;> first | rfl | exact absurd rfl h
@[simp] theorem State.clearing_withClearing (s : State) (x : Option ClearRun) :
    (s.withClearing x).store.clearing = x := rfl
@[simp] theorem State.regions_withClearing (s : State) (x : Option ClearRun) :
    (s.withClearing x).store.regions = s.store.regions := rfl
@[simp] theorem State.region_withClearing (s : State) (x : Option ClearRun) (r : Region) :
    (s.withClearing x).region r = s.region r := rfl
@[simp] theorem State.clearing_withRegion (s : State) (r : Region) (x : RegionRecord) :
    (s.withRegion r x).store.clearing = s.store.clearing := rfl

/-! ### Whether a job's records stand -/

/-- A job's records of a region stand exactly while the region is ACTIVE and no notice of its clear waits. -/
theorem State.serves_iff (s : State) (r : Region) (out : Instr) :
    s.serves r out = true ↔ s.active r = true ∧ out ∉ s.handed := by
  simp [State.serves]

/-- A job's record is found exactly where it is listed, while the job's records stand. -/
theorem State.found_eq_some {α : Type} {s : State} {r : Region} {out : Instr} {m : Map α} {i : Nat} {x : α} :
    s.found r out m i = some x ↔ s.active r = true ∧ out ∉ s.handed ∧ mapGet m i = some x := by
  unfold State.found
  by_cases h : s.serves r out = true
  · rw [if_pos h]
    have := (s.serves_iff r out).mp h
    tauto
  · rw [if_neg h]
    have := mt (s.serves_iff r out).mpr h
    simp only [reduceCtorEq, false_iff]
    tauto

/-- A segment's grade record stands while SEGMENTS is ACTIVE and no notice of its clear waits at the evaluator. -/
theorem State.gradeRecord_eq_some {s : State} {g : Nat} {r : GradeRec} :
    s.gradeRecord g = some r ↔ s.active .segments = true ∧ .graderSegmentsOutOfService ∉ s.handed ∧
      mapGet s.grader.segments g = some r := State.found_eq_some

/-- A sign has a record exactly where its row is present in the region in service and the Publisher lists one. -/
theorem State.sign_eq_some {s : State} {g : Nat} {r : SignRec} :
    s.sign g = some r ↔ (s.signRow g).isSome = true ∧ mapGet s.publisher.signs g = some r := by
  unfold State.sign
  split <;> simp_all

/-- Without a grade record that stands no event changes a grade. -/
theorem regrade_of_none {g : Nat} {s : State} (h : s.gradeRecord g = none) : regrade g s = s := by
  simp [regrade, h]
theorem restartGrade_of_none {g : Nat} {s : State} (h : s.gradeRecord g = none) : restartGrade g s = s := by
  simp [restartGrade, h]
theorem holdExpired_of_none {g : Nat} {s : State} (h : s.gradeRecord g = none) : holdExpired g s = s := by
  simp [holdExpired, h]

/-- A grade record stored: it is read back, the others and the flags are as they were, and a changed effective grade is
handed on. -/
theorem storeGrade_spec (g : Nat) (cause : GradeCause) (old new : GradeRec) (s : State) :
    let t := storeGrade g cause old new s
    mapGet t.grader.segments g = some new ∧
      (∀ h, h ≠ g → mapGet t.grader.segments h = mapGet s.grader.segments h) ∧
      t.grader.flags = s.grader.flags ∧ t.line = s.line ∧
      t.handed = (if old.effective = new.effective then s.handed
        else s.handed ++ gradeEvents (s.gradeCloses g) g old.effective new.effective) := by
  unfold storeGrade
  simp only
  split
  · exact ⟨mapGet_mapPut_self .., fun h n => mapGet_mapPut_of_ne _ _ n, rfl, rfl, rfl⟩
  · exact ⟨mapGet_mapPut_self .., fun h n => mapGet_mapPut_of_ne _ _ n, rfl, rfl, rfl⟩

@[simp] theorem State.regions_withField (s : State) (f : SiteField) (v : BitVec 16) :
    (s.withField f v).store.regions = s.store.regions := rfl

/-! ### A gate's record stored -/

/-- A gate's record stored: it is read back, the others are as they were, and a changed state is handed on. -/
theorem putGate_spec (k : Nat) (g : GateRec) (s : State) :
    mapGet (putGate k g s).drives.gates k = some g ∧
      (∀ j, j ≠ k → mapGet (putGate k g s).drives.gates j = mapGet s.drives.gates j) ∧
      (putGate k g s).drives.pins = s.drives.pins ∧ (putGate k g s).line = s.line ∧
      (putGate k g s).handed = if s.gateState k = g.state then s.handed else s.handed ++ [.gateStateNotice k] := by
  unfold putGate
  simp only
  split
  · exact ⟨mapGet_mapPut_self .., fun j h => mapGet_mapPut_of_ne _ _ h, rfl, rfl, rfl⟩
  · exact ⟨mapGet_mapPut_self .., fun j h => mapGet_mapPut_of_ne _ _ h, rfl, rfl, rfl⟩

/-! ### Numbers, bytes and lists -/

@[simp] theorem be_length (n v : Nat) : (be n v).length = n := by
  induction n generalizing v with
  | zero => rfl
  | succ n ih => simp [be, ih]

theorem natOf_append (a b : Bytes) : natOf (a ++ b) = b.foldl (fun acc x => acc * 256 + x.toNat) (natOf a) := by
  simp [natOf, List.foldl_append]

/-- A number's bytes spell it, modulo what they can hold. -/
theorem natOf_be (n v : Nat) : natOf (be n v) = v % 256 ^ n := by
  induction n generalizing v with
  | zero => simp [be, natOf, Nat.mod_one]
  | succ n ih =>
    rw [be, natOf_append, ih]
    simp only [List.foldl_cons, List.foldl_nil, BitVec.toNat_ofNat]
    have e : v % 256 ^ (n + 1) = v % 256 + 256 * (v / 256 % 256 ^ n) := by
      rw [show 256 ^ (n + 1) = 256 * 256 ^ n by rw [Nat.pow_succ, Nat.mul_comm], Nat.mod_mul]
    rw [e]
    show v / 256 % 256 ^ n * 256 + v % 256 = _
    omega

theorem mem_setInsert {l : List Nat} {n m : Nat} : m ∈ setInsert l n ↔ m = n ∨ m ∈ l := by
  induction l with
  | nil => simp [setInsert]
  | cons k l ih =>
    unfold setInsert
    split
    · simp
    · split
      · next h => subst h; simp
      · simp [ih]; tauto

theorem mem_setRemove {l : List Nat} {n m : Nat} : m ∈ setRemove l n ↔ m ≠ n ∧ m ∈ l := by
  simp [setRemove, and_comm]

/-- What holds before and is kept by the operation at each index holds after all of them. -/
theorem forEach_keeps {l : List Nat} {f : Nat → State → State} {P : State → Prop} {s : State} (h : P s)
    (k : ∀ i ∈ l, ∀ t, P t → P (f i t)) : P (forEach l f s) := by
  unfold forEach
  induction l generalizing s with
  | nil => exact h
  | cons i l ih => exact ih (k i List.mem_cons_self s h) fun j hj => k j (List.mem_cons_of_mem i hj)

theorem saturate_le (limit n : Nat) : saturate limit n ≤ limit := Nat.min_le_left ..

/-! ### Requests of the Sign Publisher -/

/-- A cancellation where no face is forced only answers. -/
theorem forceFace_cancels_nothing {tag sign face : Byte} {s : State} {r : SignRec} (started : s.publisher.started = true)
    (range : sign.toNat ≤ 23) (h : s.sign sign.toNat = some r) (none_forced : r.forced = none) :
    forceFace tag sign face 0 s = s.reply 0x38 tag done (forceData sign.toNat s) := by
  simp [forceFace, started, Nat.not_lt.mpr range, h, none_forced]

/-! ### Notices taken early, and requests of the Table Store that wait -/

/-- With no such notice waiting nothing is taken early. -/
theorem takeEarly_of_not_mem {notice : Instr} {effect : State → State} {s : State} (h : notice ∉ s.handed) :
    takeEarly notice effect s = s := by simp [takeEarly, h]

/-- A notice that waits has its effect, and no copy of it waits any more. -/
theorem takeEarly_of_mem {notice : Instr} {effect : State → State} {s : State} (h : notice ∈ s.handed) :
    takeEarly notice effect s = effect (s.withHanded (s.handed.filter fun c => c != notice)) := by simp [takeEarly, h]

/-- A table request that finds no CLEAR ALL under way is taken. -/
theorem whenFree_of_free {c : Instr} {f : State → State} {s : State} (h : s.store.clearing = none) :
    whenFree c f s = f s := by simp [whenFree, h]

/-- A table request that finds a CLEAR ALL under way waits. -/
theorem whenFree_of_clearing {c : Instr} {f : State → State} {s : State} {run : ClearRun}
    (h : s.store.clearing = some run) : whenFree c f s = s.deferred c := by simp [whenFree, h]

/-- The Table Store goes on with the CLEAR ALL under way by its next clear. -/
theorem clearGoesOn_of_clearing {s : State} {run : ClearRun} (h : s.store.clearing = some run) :
    clearGoesOn s = flushReports (clearNext run s) := by simp [clearGoesOn, h]

/-- A sign's segment is seen exactly where its row is present in an ACTIVE SEGMENTS, no notice of a clear waits, and the
view holds it. -/
theorem State.segmentSeen_eq_some {s : State} {g : Nat} {v : SegmentView} :
    s.segmentSeen g = some v ↔ (s.reference .segments g).isSome = true ∧ s.active .segments = true ∧
      .signerSegmentsNotice false ∉ s.handed ∧ mapGet s.publisher.segmentView g = some v := by
  simp only [State.segmentSeen, State.found, State.serves]
  split <;> simp_all [and_assoc]

end Sys2Proof.Machine
end

