-- ==== Sys2Proof/Laws/Store.lean ====
section
/-!
SUPPORT. Laws of the row store: what a row reads as after a write, and that every operation on the store keeps its
canonical form `Memory.wf`, which the store has at reset.
-/

namespace Sys2Proof.Machine

/-! ### Rows -/

theorem asRow_length (bs : Bytes) : (asRow bs).length = rowSize := by
  simp [asRow, blankRow, rowSize]

theorem asRow_of_length {bs : Bytes} (h : bs.length = rowSize) : asRow bs = bs := by
  unfold asRow
  rw [← h]
  exact List.take_left

@[simp] theorem readRow_writeRow_self (rows : Map Bytes) (i : Nat) (row : Bytes) :
    readRow (writeRow rows i row) i = asRow row := by
  unfold readRow writeRow
  split
  · next h => simp [h]
  · simp

theorem readRow_writeRow_of_ne (rows : Map Bytes) {i j : Nat} (row : Bytes) (h : j ≠ i) :
    readRow (writeRow rows i row) j = readRow rows j := by
  unfold readRow writeRow
  split
  · rw [mapGet_mapDel_of_ne _ h]
  · rw [mapGet_mapPut_of_ne _ _ h]

@[simp] theorem readRow_nil (i : Nat) : readRow [] i = blankRow := rfl

theorem rowBlank_iff (rows : Map Bytes) (i : Nat) : rowBlank rows i = true ↔ readRow rows i = blankRow := by
  simp [rowBlank]

theorem presentIn_eq_some {count : Nat} {rows : Map Bytes} {i : Nat} {row : Bytes} :
    presentIn count rows i = some row ↔ i < count ∧ readRow rows i ≠ blankRow ∧ row = readRow rows i := by
  unfold presentIn
  by_cases h : i < count <;> by_cases b : rowBlank rows i = true
  · have := (rowBlank_iff rows i).mp b; simp [h, b, this]
  · have : readRow rows i ≠ blankRow := fun e => b ((rowBlank_iff rows i).mpr e)
    simp [h, b, this, eq_comm]
  · simp [h]
  · simp [h]

/-! ### The canonical form of one region's rows -/

theorem rowsWf_iff (capacity : Nat) (rows : Map Bytes) :
    rowsWf capacity rows = true ↔ mapSorted rows = true ∧
      ∀ e ∈ rows, e.1 < capacity ∧ e.2.length = rowSize ∧ e.2 ≠ blankRow := by
  simp [rowsWf, and_assoc]

@[simp] theorem rowsWf_nil (capacity : Nat) : rowsWf capacity [] = true := rfl

theorem rowsWf_filter {capacity : Nat} {rows : Map Bytes} (p : Nat × Bytes → Bool) (h : rowsWf capacity rows = true) :
    rowsWf capacity (rows.filter p) = true := by
  obtain ⟨s, a⟩ := (rowsWf_iff ..).mp h
  exact (rowsWf_iff ..).mpr ⟨mapSorted_filter p s, fun e he => a e (List.mem_filter.mp he).1⟩

/-- A write below the capacity keeps the canonical form, whatever is written. -/
theorem rowsWf_writeRow {capacity : Nat} {rows : Map Bytes} {i : Nat} (row : Bytes) (h : rowsWf capacity rows = true)
    (hi : i < capacity) : rowsWf capacity (writeRow rows i row) = true := by
  unfold writeRow
  split
  · exact rowsWf_filter _ h
  · next hb =>
    obtain ⟨s, a⟩ := (rowsWf_iff ..).mp h
    refine (rowsWf_iff ..).mpr ⟨mapSorted_mapPut i _ s, fun e he => ?_⟩
    rcases mem_mapPut he with rfl | he
    · exact ⟨hi, asRow_length row, hb⟩
    · exact a e he

/-- Equal rows at every index are equal tables: the form is canonical. -/
theorem rowsWf_ext {capacity : Nat} {a b : Map Bytes} (ha : rowsWf capacity a = true) (hb : rowsWf capacity b = true)
    (h : ∀ i, readRow a i = readRow b i) : a = b := by
  obtain ⟨sa, wa⟩ := (rowsWf_iff ..).mp ha
  obtain ⟨sb, wb⟩ := (rowsWf_iff ..).mp hb
  have get : ∀ i, mapGet a i = mapGet b i := by
    intro i
    have e := h i
    unfold readRow at e
    rcases ga : mapGet a i with _ | va <;> rcases gb : mapGet b i with _ | vb
    · rfl
    · rw [ga, gb] at e; exact absurd e.symm (wb _ (mem_of_mapGet gb)).2.2
    · rw [ga, gb] at e; exact absurd e (wa _ (mem_of_mapGet ga)).2.2
    · rw [ga, gb] at e; exact congrArg some e
  clear ha hb wa wb h
  induction a generalizing b with
  | nil =>
    cases b with
    | nil => rfl
    | cons y b => have := get y.1; rw [mapGet_of_mem sb List.mem_cons_self] at this; cases this
  | cons x a ih =>
    cases b with
    | nil => have := get x.1; rw [mapGet_of_mem sa List.mem_cons_self] at this; cases this
    | cons y b =>
      obtain ⟨k, v⟩ := x
      obtain ⟨j, w⟩ := y
      obtain ⟨ka, ra⟩ := (mapSorted_cons ..).mp sa
      obtain ⟨jb, rb⟩ := (mapSorted_cons ..).mp sb
      have hk : k = j := by
        have g := get k
        have g' := get j
        rw [mapGet_of_mem sa List.mem_cons_self] at g
        rw [mapGet_of_mem sb List.mem_cons_self] at g'
        have m := mem_of_mapGet g.symm
        have m' := mem_of_mapGet g'
        rcases List.mem_cons.mp m with e | m
        · exact congrArg Prod.fst e
        · rcases List.mem_cons.mp m' with e | m'
          · exact (congrArg Prod.fst e).symm
          · have := jb _ m; have := ka _ m'; simp only at *; omega
      subst hk
      have hv : v = w := by have := get k; simpa [mapGet] using this
      subst hv
      congr 1
      refine ih ra rb fun i => ?_
      by_cases hi : i = k
      · subst hi
        have na : mapGet a i = none := by
          rcases g : mapGet a i with _ | u
          · rfl
          · have := ka _ (mem_of_mapGet g); simp only at this; omega
        have nb : mapGet b i = none := by
          rcases g : mapGet b i with _ | u
          · rfl
          · have := jb _ (mem_of_mapGet g); simp only at this; omega
        rw [na, nb]
      · simpa [mapGet, hi] using get i

/-! ### The canonical form of the whole store -/

theorem mem_regionOrder (r : Region) : r ∈ regionOrder := by cases r <;> decide

theorem Memory.wf_iff (rs : Regions) :
    Memory.wf rs = true ↔ ∀ r : Region, rowsWf (Region.capacity r) (rs.get r).rows = true := by
  simp only [Memory.wf, List.all_eq_true]
  exact ⟨fun h r => h r (mem_regionOrder r), fun h r _ => h r⟩

theorem reset_memory_wf : Memory.wf State.reset.store.regions = true := by decide +kernel

/-- Replacing one region's record keeps the form where that record's rows have it. -/
theorem Memory.wf_set {rs : Regions} {r : Region} {x : RegionRecord} (h : Memory.wf rs = true)
    (hx : rowsWf (Region.capacity r) x.rows = true) : Memory.wf (rs.set r x) = true := by
  rw [Memory.wf_iff] at *
  intro q
  by_cases e : q = r
  · subst e; simp [hx]
  · rw [Regions.get_set_of_ne _ _ e]; exact h q

theorem State.wf_withHeader {s : State} (r : Region) (x : Header) (h : Memory.wf s.store.regions = true) :
    Memory.wf (s.withHeader r x).store.regions = true :=
  Memory.wf_set h ((Memory.wf_iff _).mp h r)

theorem State.wf_withRow {s : State} {r : Region} {i : Nat} (row : Bytes) (h : Memory.wf s.store.regions = true)
    (hi : i < Region.capacity r) : Memory.wf (s.withRow r i row).store.regions = true :=
  Memory.wf_set h (rowsWf_writeRow row ((Memory.wf_iff _).mp h r) hi)

theorem State.wf_activated {s : State} (r : Region) (check : BitVec 16) (h : Memory.wf s.store.regions = true) :
    Memory.wf (s.withRegion r (activated check (s.region r))).store.regions = true :=
  Memory.wf_set h ((Memory.wf_iff _).mp h r)

theorem State.wf_cleared {s : State} (r : Region) (h : Memory.wf s.store.regions = true) :
    Memory.wf (s.withRegion r cleared).store.regions = true :=
  Memory.wf_set h rfl

theorem State.wf_cutClear {s : State} {r : Region} {blanked : Nat} (mask : BitVec 32)
    (h : Memory.wf s.store.regions = true) (hb : blanked < Region.capacity r) :
    Memory.wf (s.withRegion r (cutClear blanked mask (s.region r))).store.regions = true :=
  Memory.wf_set h (rowsWf_writeRow _ (rowsWf_filter _ ((Memory.wf_iff _).mp h r)) hb)

/-- A row is written only below the declared count. -/
theorem rowRefusal_eq_none {x : RegionRecord} {i : Nat} :
    rowRefusal x i = none ↔ i < x.header.count ∧ readRow x.rows i = blankRow := by
  unfold rowRefusal
  split
  · simp; omega
  · split
    · next h b => simp [(rowBlank_iff ..).mp b]; omega
    · next h b => simpa using fun (_ : i < x.header.count) e => b ((rowBlank_iff x.rows i).mpr e)

/-- The rows of a WRITE ROWS keep the form, and the region's header. -/
theorem wf_writeRows {r : Region} {i : Nat} {rows : List Bytes} {s : State} (h : Memory.wf s.store.regions = true)
    (hc : (s.region r).header.count ≤ Region.capacity r) :
    Memory.wf (writeRows r i rows s).1.store.regions = true ∧
      ((writeRows r i rows s).1.region r).header = (s.region r).header := by
  induction rows generalizing i s with
  | nil => exact ⟨h, rfl⟩
  | cons row rest ih =>
    unfold writeRows
    split
    · exact ⟨h, rfl⟩
    · next e =>
      have hi := (rowRefusal_eq_none.mp e).1
      have k : ((s.withRow r i row).region r).header = (s.region r).header := by simp [State.withRow]
      have w := State.wf_withRow row h (show i < Region.capacity r by omega)
      obtain ⟨a, b⟩ := ih w (by rw [k]; exact hc)
      exact ⟨a, b.trans k⟩

/-- A record as verification leaves it. -/
theorem rowsWf_verified {r : Region} {x : RegionRecord} (h : rowsWf (Region.capacity r) x.rows = true) :
    rowsWf (Region.capacity r) (verified r x).rows = true := by
  unfold verified
  split <;> (try split) <;> (try split) <;> exact h

theorem wf_verifiedRegions {rs : Regions} (h : Memory.wf rs = true) : Memory.wf (verifiedRegions rs) = true := by
  have keep : ∀ (l : List Region) (acc : Regions), Memory.wf acc = true →
      Memory.wf (l.foldl (fun acc r => acc.set r (verified r (rs.get r))) acc) = true := by
    intro l
    induction l with
    | nil => exact fun _ h => h
    | cons r l ih =>
      intro acc ha
      exact ih _ (Memory.wf_set ha (rowsWf_verified ((Memory.wf_iff rs).mp h r)))
  exact keep regionOrder rs h

end Sys2Proof.Machine
end

