-- ==== Sys2Proof/Tests/Slice0.lean ====
section
/-!
SUPPORT. The model's own tests: ill-formed commands that `Instr.wellFormed` refuses, the worked examples of spec/, and
for each statement with hypotheses a state and operands that meet them.
-/

namespace Sys2Proof.Tests

set_option Elab.async false

open Sys2Proof Sys2Proof.Machine

/-! ### States to test on -/

/-- The state after a command; the state itself where there is none. -/
def after (c : Instr) (s : State) : State :=
  match exec c s with
  | .next t => t
  | _ => s

/-- A row of 32 bytes. -/
def rowOf (l : List Nat) : Bytes := (l.map (BitVec.ofNat 8)) ++ List.replicate (32 - l.length) 0

/-- Channel 0: station 5, raw 10 to 1000, slope 1, smoothing shift 1, maximum age 60 s. -/
def channelBytes : Bytes := rowOf [0, 5, 0, 1, 0, 10, 3, 232, 0, 1, 0, 0, 0, 0, 0, 0, 1, 0, 60]

/-- Rule 0: segment 0, channel 0 filtered at or above 100, hysteresis 10, grade 3, stale ASSERT. -/
def ruleBytes : Bytes := rowOf [1, 0, 0, 0, 0, 100, 0, 10, 3, 1]

/-- Segment 0: leads 300 s and 20 s, grace 60 s, descent hold 600 s, reopen limit 3, grades close. -/
def segmentBytes : Bytes := rowOf [1, 44, 20, 0, 60, 2, 88, 3, 1]

/-- Path 0: segment 0, thresholds 2 and 3, window 60 s, CONFIRM; input 0 counts, input 1 is a tripwire, station 7
detector 2 counts. -/
def pathBytes : Bytes :=
  rowOf [1, 2, 3, 0, 60, 1, 0, 120, 1, 44, 64, 0, 0, 0, 4, 64, 1, 0, 2, 0, 128, 7, 2, 0, 0, 0, 0, 0, 0, 0]

/-- Schedule entry 0: segment 0, every day from second 3600 to second 7200. -/
def scheduleBytes : Bytes := rowOf [1, 127, 0, 14, 16, 0, 28, 32, 0, 0, 255, 255]

/-- A sign of segment 0 on port S, APPROACH, d1 20, d7 140, republished every 600 s. -/
def signBytes (address : Nat) : Bytes :=
  rowOf [0, address, 1, 0, 0, 1, 2, 3, 4, 5, 6, 40, 50, 0, 20, 0, 140, 2, 88]

/-- A gate of segment 0: travel count 1000, tolerance 5, draw 600, start delay 0.5 s, settle 0.3 s, dwell 1 s, stall
0.8 s, limit 60 s, clear interval 3 s, waits 60 s and 120 s, loop fitted. -/
def gateBytes : Bytes := rowOf [0, 3, 232, 0, 5, 0, 2, 88, 5, 3, 10, 8, 0, 60, 3, 0, 60, 0, 120, 1]

/-- A region ACTIVE with its rows. -/
def served (rows : Map Bytes) : RegionRecord :=
  { header := { state := .active, count := rows.length, check := regionCheck rows.length rows }
    rows := rows }

/-- A frame that port V is sending. -/
def busyFrame : Frame :=
  Frame.sealed
    { dest := 5, hop := 15, zeros := 0, source := 7, kind := 0x20, payload := [], check := 0 }

/-- A port that is UP and busy, with a number of frames waiting. -/
def busyPort (n : Nat) : PortState :=
  { PortState.down with
    up := true, busy := some (.passing busyFrame)
    localQ := List.replicate n { frame := busyFrame, restartReply := false } }

/-- Reset with both ports UP and busy. -/
def idle : State := State.reset.withLine { LineSwitch.powerOn with portV := busyPort 0, portS := busyPort 0 }

/-- All seven regions in service. -/
def tables : TableStore :=
  { State.reset.store with
    regions :=
      { channels := served [(0, channelBytes)], gradeRules := served [(0, ruleBytes)]
        segments := served [(0, segmentBytes)], paths := served [(0, pathBytes)]
        schedule := served [(0, scheduleBytes)], signs := served [(0, signBytes 100), (1, signBytes 101)]
        gates := served [(0, gateBytes), (1, gateBytes)] } }

/-- A gate at rest RAISED at its home switch. -/
def raisedGate : GateRec :=
  { GateRec.unconfigured with
    state := .raised, homed := true
    presence := some { level := false, since := 0, lastHigh := 0, lastLow := 65535, loopFault := false } }

/-- A sign that shows nothing, IDLE. -/
def idleSign : SignRec := { SignRec.built 7 with republish := some 9000 }

/-- Reset with all seven regions in service, at running time 100.0 s, each record at rest. -/
def loaded : State :=
  { idle with
    time := 2000
    store := tables
    intake :=
      { started := true, inService := true, rows := [(0, channelBytes)]
        channels := [(0, { status := .live, lastRaw := some 50, value := 50, filtered := 50, saturated := false
                           ring := [50], age := some 1200, faultRun := 0, lastSeq := some 3 })] }
    grader :=
      { started := true, rulesIn := true, segmentsIn := true, ruleRows := [(0, ruleBytes)]
        segmentRows := [(0, segmentBytes)], flags := [(0, false)]
        segments := [(0, { raw := 0, effective := 2, floor := 0, hold := some 6000 })] }
    monitor :=
      { started := true, inService := true, rows := [(0, pathBytes)]
        inputs := (0, { level := false, assignment := .counting true 4, dead := none }) ::
          (1, { level := false, assignment := .tripwire true, dead := none }) ::
          ((List.range 10).map fun i => (i + 2, .unassigned false))
        paths := [(0, { state := .quiet, queue := [], faults := [false, false, false, false], blind := false
                        warning := false, decision := .noDecision, confirm := none, clear := none })] }
    sequencer :=
      { started := true, inService := true, scheduleIn := true, gatesBuilt := true, withheld := []
        segmentRows := [(0, segmentBytes)], scheduleRows := [(0, scheduleBytes)]
        gateRows := [(0, gateBytes), (1, gateBytes)]
        segments := [(0, { state := .opened, claims := [], lead := none, grace := none, parameter := 0xFFFF
                           grade := 2, gateFault := false, blocked := false, unannounced := false })]
        clock := some { day := 3, second := 100, next := 1005 } }
    drives :=
      { started := true, rows := [(0, gateBytes), (1, gateBytes)]
        gates := [(0, raisedGate), (1, raisedGate), (2, .unconfigured), (3, .unconfigured)]
        pins := [(0, { GatePins.low with home := true }), (1, { GatePins.low with home := true }), (2, .low),
          (3, .low)] }
    allocator :=
      { State.reset.allocator with
        signsIn := true, gatesIn := true, signRows := [(0, signBytes 100), (1, signBytes 101)]
        gateRows := [(0, gateBytes), (1, gateBytes)]
        figures := { floor := 600, ceiling := 1200, effective := 1000, cap := 7, remaining := 1000 }
        granted := [(0, 7), (1, 7)] }
    publisher :=
      { State.reset.publisher with
        signsIn := true, rows := [(0, signBytes 100), (1, signBytes 101)]
        segmentView := [(0, { state := .opened, parameter := 0xFFFF, grade := 0 })]
        pathView := [(0, { warning := false, mask := 1 })], signs := [(0, idleSign), (1, idleSign)] } }

/-! ### Ill-formed commands are refused -/

/-- A payload longer than a frame can carry. -/
def longPayload : Bytes := List.replicate 121 0

/-- A frame handed over. -/
def arrivalOf (source dest : Addr) (payload : Bytes) : Arrival :=
  { source := source, dest := dest, port := .s, time := 1000, payload := payload }

theorem test_ill_payload : (Instr.frameOffered .v .report 0 longPayload).wellFormed = false := by decide +kernel
theorem test_ill_arrival :
    ([Instr.manageFrame, .sampleFrame, .detectFrame, .faceReport].map fun c =>
      (c (arrivalOf 0 7 longPayload)).wellFormed) = [false, false, false, false] := by decide +kernel
theorem test_ill_request : (Instr.unknownRequest 0x45 1).wellFormed = false := by decide +kernel
theorem test_ill_row_count : (Instr.writeRows 1 5 0 2 [blankRow]).wellFormed = false := by decide +kernel
theorem test_ill_row_size : (Instr.writeRows 1 5 0 1 [[1, 2, 3]]).wellFormed = false := by decide +kernel
theorem test_ill_channel :
    [(Instr.ageTimerExpiry 64).wellFormed, (Instr.lightChannelChange 64 .live 0).wellFormed] = [false, false] := by
  decide +kernel
theorem test_ill_value :
    [(Instr.channelUpdate { channel := 0, status := .live, value := 32001, filtered := 0, rise := none }).wellFormed,
      (Instr.lightChannelChange 0 .live (-32001)).wellFormed] = [false, false] := by decide +kernel
theorem test_ill_segment :
    [Instr.descentHoldExpiry 8, .leadTimerExpiry 8, .graceTimerExpiry 8, .gradeEvent 8 0 none, .gradeNotice 8 0,
      .segmentNotice 8 .opened 0, .urgencyNotice 8 true].map Instr.wellFormed =
      [false, false, false, false, false, false, false] := by decide +kernel
theorem test_ill_grade : [Instr.gradeEvent 0 6 none, .gradeNotice 0 6].map Instr.wellFormed = [false, false] := by
  decide +kernel
theorem test_ill_input :
    [Instr.countingInputEdge 12 true, .tripwireInputEdge 12 true, .unassignedInputEdge 12 true,
      .deadTimerExpiry 12].map Instr.wellFormed = [false, false, false, false] := by decide +kernel
theorem test_ill_path :
    [Instr.ageOut 16, .clearWaitExpiry 16, .confirmWaitExpiry 16, .warningNotice 16 true 1].map Instr.wellFormed =
      [false, false, false, false] := by decide +kernel
theorem test_ill_sign :
    [Instr.confirmationNotice 24 1, .litNotice 24 true, .grantNotice 24 1, .forcedTimerExpiry 24, .replyTimerExpiry 24,
      .republishTimerExpiry 24].map Instr.wellFormed = [false, false, false, false, false, false] := by decide +kernel
theorem test_ill_level : [Instr.grantNotice 0 0, .grantNotice 0 8].map Instr.wellFormed = [false, false] := by
  decide +kernel
theorem test_ill_gate :
    [Instr.gateStateNotice 4, .orderEvent 4 .lower, .encoderEdge 4 true true true true, .startDelayExpiry 4,
      .settleExpiry 4, .reversalDwellExpiry 4, .stallTimerExpiry 4, .travelTimerExpiry 4, .safetyEdgeChange 4 true,
      .loopEdge 4 true, .loopFaultSet 4, .presenceClearance 4, .vehicleWaitExpiry 4, .grant 4 .lowering,
      .admissionRequest 4 .lowering 0, .handBack 4, .requestWithdrawn 4].all (fun c => !c.wellFormed) = true := by
  decide +kernel
theorem test_ill_draw : (Instr.admissionRequest 0 .lowering 4001).wellFormed = false := by decide +kernel
theorem test_ill_sweep : (Instr.signSweep 1 (List.replicate 256 0)).wellFormed = false := by decide +kernel
theorem test_ill_cut :
    [Instr.supplyLost (.openRegion .signs 0 true), .supplyLost (.writeRows .signs 0 [] 1 0),
      .supplyLost (.writeRows .signs 0 [[1]] 0 0)].map Instr.wellFormed = [false, false, false] := by decide +kernel
theorem test_no_bits_no_command : (decodeTableWord 8 0x45).isNone = true := by decide +kernel

/-! ### The worked examples of spec/ -/

/-- The five bytes of the worked line check (chapter 1). -/
def checkBytes : Bytes := [0xFF, 0xFC, 0x00, 0x30, 0x00]

theorem test_worked_line_check : lineCheck checkBytes = 0x9E49 := by decide +kernel
theorem test_worked_line_check_fails : (parseUnit (checkBytes ++ [0x9E, 0x48])).isNone = true := by decide +kernel

/-- The frame of the worked line check received at port V goes to port S with hop limit 14. -/
theorem test_worked_forwarding :
    ((after (.frameReceived .v (checkBytes ++ [0x9E, 0x49])) idle).line.portS.forwardQ.map fun f =>
      f.bytes.take 5) = [[0xFF, 0xF8, 0x00, 0x30, 0x00]] := by decide +kernel

/-- A frame that stands for the named ones of the worked service of port V. -/
def namedFrame (n : Nat) : Frame :=
  Frame.sealed { dest := 0, hop := 15, zeros := 0, source := 1022, kind := 0x30, payload := byteOf n, check := 0 }

/-- Port V of the worked service after its first selection: P1 in transmission. -/
def servicePort : PortState :=
  { busyPort 0 with
    busy := some (.own { frame := namedFrame 1, restartReply := false }), streak := 1
    localQ := [2, 3, 4, 5].map fun n => { frame := namedFrame n, restartReply := false }
    forwardQ := [namedFrame 11, namedFrame 12] }

/-- What a port sends, as the payload's number. -/
def sendingNumber (q : PortState) : Nat :=
  match q.busy with
  | none => 0
  | some (.own l) => natOf l.frame.payload
  | some (.passing f) => natOf f.payload

/-- Two selections of the worked service (chapter 1): P4 at streak 3, F1 at streak 4. -/
theorem test_worked_service :
    ([3, 4].map fun n =>
      let t := after (.transmissionComplete .v) (idle.withPort .v { servicePort with streak := n })
      (sendingNumber t.line.portV, t.line.portV.streak)) = [(2, 4), (11, 0)] := by decide +kernel
/-- F3 completes with nothing left to send. -/
theorem test_worked_service_ends :
    let t := after (.transmissionComplete .v)
      (idle.withPort .v { busyPort 0 with busy := some (.passing (namedFrame 13)), forwarded := 2 })
    (sendingNumber t.line.portV, t.line.portV.streak, t.line.portV.forwarded) = (0, 0, 3) := by decide +kernel

/-- Rows of chapter 2's example: A, B and D of byte sums 1534, 1612 and 1490, D naming A's line address. -/
def rowA : Bytes := rowOf [0, 100, 1, 0, 0, 1, 2, 3, 4, 5, 6, 40, 50, 0, 20, 0, 140, 2, 88, 255, 255, 255, 255, 52]
def rowB : Bytes := rowOf [0, 101, 1, 0, 0, 1, 2, 3, 4, 5, 6, 40, 50, 0, 20, 0, 140, 2, 88, 255, 255, 255, 255, 129]
def rowD : Bytes := rowOf [0, 100, 1, 0, 0, 1, 2, 3, 4, 5, 6, 40, 50, 0, 20, 0, 140, 2, 88, 255, 255, 255, 255, 8]

/-- SIGNS, OPEN with n 4 and all rows blank. -/
def openSigns : State :=
  idle.withRegion .signs { RegionRecord.blank with header := { state := .opened, count := 4, check := 0 } }

/-- The results and data of the last reply in port V's queue. -/
def lastReply (s : State) : Bytes := ((s.line.portV.localQ.getLast?.map fun l => l.frame.payload).getD []).drop 2

/-- SIGNS after A and B are written to rows 0 and 1, and D to row 3. -/
def loadedSigns : State := after (.writeRows 2 5 3 2 [rowD, rowA]) (after (.writeRows 1 5 0 2 [rowA, rowB]) openSigns)

theorem test_worked_write_stops :
    lastReply loadedSigns = [badArgument, 4, 1] ∧ readRow (loadedSigns.region .signs).rows 3 = rowD ∧
      readRow (loadedSigns.region .signs).rows 2 = blankRow := by decide +kernel
theorem test_worked_not_blank :
    lastReply (after (.writeRows 3 5 1 1 [rowB]) loadedSigns) = [notBlank, 1, 1] := by decide +kernel
theorem test_worked_check_mismatch :
    lastReply (after (.activateRegion 4 5 12800) loadedSigns) = checkMismatch :: be 2 12796 := by decide +kernel
theorem test_worked_conflict :
    lastReply (after (.activateRegion 5 5 12796) loadedSigns) = [invalidRow, 3] := by decide +kernel
theorem test_worked_blank_channels : regionCheck 64 [] = 63488 := by decide +kernel

theorem test_worked_conversions :
    [convert 1000 (-26214400) 27525, convert 32768 0 3, convert 32768 0 5, convert (-32768) 0 3,
      convert 65536 0 40000, convert 1000 (-26214400) 28246, convert 1000 (-26214400) 27722] =
      [(20, false), (2, false), (3, false), (-2, false), (32000, true), (31, false), (23, false)] := by decide +kernel
theorem test_worked_smoothing :
    [smooth 2 20 31, smooth 2 20 9, smooth 2 22 23, smooth 2 22 24, smooth 1 4 5] = [23, 17, 22, 23, 5] := by
  decide +kernel

/-- Six lit signs of the worked budget case. -/
def litSix : List SignRow := List.replicate 6 (Machine.signRow (signBytes 100))

/-- The worked budget case (chapter 8): F, C, E, K and R at budgets 1500, 2400, 1000 and 500. -/
theorem test_worked_budget :
    ([1500, 2400, 1000, 500].map fun b =>
      let f := figuresOf 120 b 7 litSix [600, 600]
      [f.floor, f.ceiling, f.effective, f.cap, f.remaining]) =
      [[840, 2160, 1500, 6, 660], [840, 2160, 2160, 7, 1200], [840, 2160, 1000, 2, 640],
        [840, 2160, 840, 1, 600]] := by decide +kernel

/-- Path 4's release (chapter 5): a broken tripwire brings a CONFIRM path of a CONNECTED line to RELEASE, WAITING. -/
theorem test_worked_release :
    let s := { loaded with line := { loaded.line with lineState := .connected, silence := some 1500 } }
    ((mapGet (after (.tripwireInputEdge 1 true) s).monitor.paths 0).map fun y =>
      (y.state, y.decision, y.confirm)) = some (.release, .waiting, some 2200) := by decide +kernel

/-- A storm (chapter 4): a rule at its threshold asserts and raises the grade at once. -/
theorem test_worked_storm :
    let u : ChannelUpdate := { channel := 0, status := .live, value := 100, filtered := 100, rise := none }
    ((mapGet (after (.channelUpdate u) loaded).grader.segments 0).map fun r => (r.raw, r.effective, r.hold)) =
      some (3, 3, none) := by decide +kernel
theorem test_worked_hysteresis :
    let u : ChannelUpdate := { channel := 0, status := .live, value := 90, filtered := 90, rise := none }
    let v : ChannelUpdate := { channel := 0, status := .live, value := 89, filtered := 89, rise := none }
    let s := { loaded with grader := { loaded.grader with flags := [(0, true)] } }
    [(after (.channelUpdate u) s).grader.flags, (after (.channelUpdate v) s).grader.flags] =
      [[(0, true)], [(0, false)]] := by decide +kernel

/-- A grade of 5 places its urgent claim: NOTICE for the urgent lead of 20 s, which ends in minute 2 of the clock. -/
theorem test_worked_grade_claim :
    (((after (.gradeEvent 0 5 (some .place)) loaded).segment 0).map fun r => (r.state, r.lead, r.parameter)) =
      some (.notice, some 1200, 2) := by decide +kernel
/-- Segment 3's evening (chapter 6) at a limit of 3: blocked at the limit; below it, both gates RAISED, OPEN at once. -/
theorem test_worked_blocked :
    let r : SegmentRec :=
      { state := .closed, claims := [(2, { urgent := true, placed := 5 })], lead := none, grace := none
        parameter := 0xFFFF, grade := 5, gateFault := false, blocked := false, unannounced := false }
    let s := loaded.withSegment 0 r
    [((after (.gradeEvent 0 3 (some .remove)) s).segment 0).map fun x => (x.state, x.blocked),
      ((after (.gradeEvent 0 2 (some .remove)) s).segment 0).map fun x => (x.state, x.blocked)] =
      [some (.closed, true), some (.opened, false)] := by decide +kernel

/-- The worked lowering (chapter 7): LOWER takes a RAISED gate to HELD with a request, and a grant begins it. -/
theorem test_worked_lowering :
    let s := after (.orderEvent 0 .lower) loaded
    let t := after (.grant 0 .lowering) s
    [(s.gateState 0, s.handed.contains (.admissionRequest 0 .lowering 600)),
      (t.gateState 0, (mapGet t.drives.gates 0).any fun g => g.phaseTimer == some 1005)] =
      [(.held, true), (.lowering, true)] := by decide +kernel

/-- The motor current of the worked budget case: a second motor waits beside the first. -/
theorem test_worked_admissions :
    let s := after (.admissionRequest 0 .lowering 600) loaded
    let t := after (.admissionRequest 1 .lowering 600) s
    [(s.allocator.admitted, s.allocator.queue.length), (t.allocator.admitted, t.allocator.queue.length)] =
      [([(0, 600)], 0), ([(0, 600)], 1)] := by decide +kernel

/-- The worked sweep (chapter 9): an IDLE sign starts a fresh cycle whatever it shows, and its match goes on. -/
theorem test_worked_sweep :
    let s := after (.signSweep 66 [0, 1]) loaded
    let t := after (.faceReport (arrivalOf 100 1022 [1, 0, 0, 0])) s
    [s.publisher.sweep.map Sweep.position, t.publisher.sweep.map Sweep.position] = [some 0, some 1] := by
  decide +kernel

/-- A restart (chapter 10) takes effect at the end of its reply, before any selection. -/
theorem test_worked_restart :
    let s := after (.restart 9) loaded
    let t := after (.transmissionComplete .v) s
    let u := after (.transmissionComplete .v) t
    (s.line.portV.localQ.length, t.responder.releasing, u.responder.releasing, u.handed.head?) =
      (1, false, true, some .restartTakesEffect) := by decide +kernel

/-! ### The hypotheses of the statements are met -/

/-- Whether a command answers a next state. -/
def runs (c : Instr) (s : State) : Bool :=
  match exec c s with
  | .next _ => true
  | _ => false

/-- A command that runs answers the state `after` gives. -/
theorem exec_after {c : Instr} {s : State} (h : runs c s = true) : exec c s = .next (after c s) := by
  unfold runs at h
  unfold after
  split at h
  · next t e => rw [e]
  · cases h

/-- What a step from a state on which a command waits answers. -/
theorem step_after {c : Instr} {s : State} (h : runs c s = true) (e : s.pending = []) :
    step (s.withPending [c]) = .next (after c s) := by
  have w : (s.withPending [c]).withPending [] = s := by
    cases s; simp only [State.withPending] at *; subst e; rfl
  have p : step (s.withPending [c]) = exec c ((s.withPending [c]).withPending []) := rfl
  rw [p, w]; exact exec_after h

/-- A frame, sealed. -/
def frameOf (dest source : Addr) (kind : BitVec 6) (hop : BitVec 4) : Frame :=
  Frame.sealed { dest := dest, hop := hop, zeros := 0, source := source, kind := kind, payload := [1], check := 0 }

/-- `loaded` with the line CONNECTED. -/
def connected : State := { loaded with line := { loaded.line with lineState := .connected, silence := some 1500 } }

/-- `idle` with a place more or less in a port's queues. -/
def queued (forwards locals streak : Nat) : PortState :=
  { busyPort locals with forwardQ := List.replicate forwards busyFrame, streak := streak }

/-- `loaded` with another record of its segment. -/
def segmentAs (state : ClosureState) (claims : Map Claim) (lead grace : Option Nat) (grade : Nat) : State :=
  loaded.withSegment 0
    { state := state, claims := claims, lead := lead, grace := grace, parameter := 0xFFFF, grade := grade
      gateFault := false, blocked := false, unannounced := false }

/-- A normal and an urgent claim. -/
def calm : Claim := { urgent := false, placed := 500 }
def harsh : Claim := { urgent := true, placed := 600 }

/-- `loaded` with another record of its path. -/
def pathAs (state : PathState) (decision : Decision) (queue : List Nat) (confirm clear : Option Nat) : State :=
  loaded.withMonitor
    { loaded.monitor with
      paths := [(0, { state := state, queue := queue, faults := [false, false, false, false], blind := false
                      warning := state == .alert || state == .release, decision := decision, confirm := confirm
                      clear := clear })] }

/-- `loaded` with another record of its gate 0. -/
def gateAs (g : GateRec) : State :=
  loaded.withDrives { loaded.drives with gates := mapPut loaded.drives.gates 0 g }

/-- `loaded` with other levels of gate 0's pins. -/
def pinsAs (g : GateRec) (p : GatePins) : State := (gateAs g).withPins 0 p

/-- `loaded` with another record of its sign 0. -/
def signAs (r : SignRec) : State := loaded.withSign 0 r

/-- `loaded` with another store region. -/
def regionAs (r : Region) (state : RegionState) (count : Nat) (check : BitVec 16) (rows : Map Bytes) : State :=
  loaded.withRegion r { header := { state := state, count := count, check := check }, rows := rows }

/-- For the clauses on a region ACTIVE or not, and on a clear whose notice waits or does not. -/
theorem test_met_regions :
    (∀ r ∈ regionOrder, loaded.active r = true ∧ idle.active r = false) ∧ loaded.handed = [] ∧ idle.handed = [] ∧
    (loaded.hand .pathsOutOfService).active .paths = true ∧
    .pathsOutOfService ∈ (loaded.hand .pathsOutOfService).handed ∧ idle.ready ∧ GradesOk idle ∧ PathsOk idle ∧
    SegmentsOk idle ∧ GatesOk idle ∧ QueueOk idle ∧ SignsOk idle := by
  unfold State.ready State.steady GradesOk GradeRec.ok PathsOk InputRec.ok PathRec.ok SegmentsOk SegmentRec.ok GatesOk
    GateRec.ok QueueOk SignsOk SignRec.ok
  and_intros <;> decide +kernel

/-- For the statements at a part that has supply, whatever port V's state: DOWN, UP and idle, UP and full. -/
theorem test_met_ports :
    ∀ q ∈ [PortState.down, { busyPort 0 with busy := none }, busyPort 8],
      (loaded.withPort .v q).steady ∧ ¬ (loaded.withPort .v q).ready ∧
        (loaded.withPort .v q).store.clearing = none ∧ (loadedSigns.withPort .v q).steady ∧
        (loadedSigns.withPort .v q).store.clearing = none := by
  unfold State.ready State.steady; decide +kernel

/-- A CLEAR ALL clears CHANNELS in its first step and leaves the rest to later ones; a second one, of the same tag too,
waits (R22, R33). -/
theorem test_clear_all_goes_on :
    let s := after (.clearAll 7) loaded
    s.store.clearing = some { tag := 7, cleared := 1 } ∧ (s.region .gradeRules).header.state = .active ∧
    s.handed = [.channelsOutOfService, .graderChannelsNotice false, .budgetRegionNotice .channels false] ∧
    (after (.clearAll 7) s).waiting = [.clearAll 7] := by
  intro s; and_intros <;> decide +kernel

/-- The tables of `loaded` are well kept, whatever command waits and whatever the other blocks hold. -/
theorem loaded_store : StoreOk loaded := by unfold StoreOk RegionRecord.ok ClearRun.ok; decide +kernel

/-- A sign is decided as without a segment while the notice of a clear of SEGMENTS waits (R36). -/
theorem test_segment_cleared :
    loaded.segmentSeen 0 = some { state := .opened, parameter := 0xFFFF, grade := 0 } ∧
    (loaded.hand (.signerSegmentsNotice false)).segmentSeen 0 = none ∧
    (loaded.withRegion .segments RegionRecord.blank).segmentSeen 0 = none := by
  and_intros <;> decide +kernel

theorem test_met_StepTakesTheFrontCommand : (loaded.withPending [.siteRead 1]).pending = .siteRead 1 :: [] := rfl

theorem test_met_StepsWithoutCommandOrSupply :
    (loaded.hand .lineIsolatedNotice).pending = [] ∧ (loaded.hand .lineIsolatedNotice).power = true ∧
    (loaded.hand .lineIsolatedNotice).handed.head? = some .lineIsolatedNotice ∧ loaded.handed = [] ∧
    ((loaded.withClearing (some { tag := 9, cleared := 3 })).handed = [] ∧ loaded.store.clearing = none) ∧
    (∃ d ∈ dueEvents (loaded.withTime 2010), d.1 ≤ 2010) ∧ (∀ d ∈ dueEvents (loaded.withTime 2009), 2009 < d.1) ∧
    (after (.supplyLost .quiet) loaded).power = false := by
  and_intros <;> decide +kernel

/-- A gate in the START and in the RUN of a lowering, in its settle and in STOPPING. -/
def startGate : GateRec :=
  { raisedGate with
    state := .lowering, phase := .start, order := .lower, admission := .held, phaseTimer := some 1005, begun := true }
def runGate : GateRec :=
  { raisedGate with
    state := .lowering, phase := .run, order := .lower, count := 500, admission := .held, stallTimer := some 1008
    travelTimer := some 1600, begun := true }
def settleGate : GateRec :=
  { raisedGate with
    state := .lowering, phase := .settle, order := .lower, count := 1000, phaseTimer := some 1003, begun := true }
def stoppingGate : GateRec := { raisedGate with state := .stopping, admission := .held, phaseTimer := some 1010 }

/-- A gate HELD that waits for its way to be clear, the loop at a level since a time. -/
def heldGate (level : Bool) (since : Nat) : GateRec :=
  { raisedGate with
    state := .held, order := .lower, vehicleTimer := some 1600
    presence := some { level := level, since := since, lastHigh := 5, lastLow := 7, loopFault := false } }

/-- States with a running timer, the event of its expiry, and the time of that in steps of 50 ms. -/
def running : List (State × Instr × Nat) :=
  [({ loaded with line := { loaded.line with lineState := .connected, silence := some 1500 } },
      .silenceTimerExpiry, 3000),
    (loaded, .ageTimerExpiry 0, 2400), (loaded, .descentHoldExpiry 0, 12000),
    (loaded.withInput 0 { level := true, assignment := .counting true 4, dead := some 2003 }, .deadTimerExpiry 0, 2003),
    (pathAs .alert .noDecision [400, 450] none none, .ageOut 0, 2000),
    (pathAs .clearing .noDecision [] none (some 3900), .clearWaitExpiry 0, 7800),
    (pathAs .release .waiting [] (some 1200) none, .confirmWaitExpiry 0, 2400),
    (segmentAs .notice [(0, calm)] (some 1300) none 2, .leadTimerExpiry 0, 2600),
    (segmentAs .notice [(0, calm)] none (some 1060) 2, .graceTimerExpiry 0, 2120),
    (loaded, .clockSecond, 2010), (gateAs startGate, .startDelayExpiry 0, 2010),
    (gateAs settleGate, .settleExpiry 0, 2006), (gateAs stoppingGate, .reversalDwellExpiry 0, 2020),
    (gateAs runGate, .stallTimerExpiry 0, 2016), (gateAs runGate, .travelTimerExpiry 0, 3200),
    (gateAs (heldGate true 800), .loopFaultSet 0, 4000), (gateAs (heldGate false 980), .presenceClearance 0, 2020),
    (gateAs (heldGate true 800), .vehicleWaitExpiry 0, 3200),
    (signAs { idleSign with forced := some (9, 1500) }, .forcedTimerExpiry 0, 3000),
    (signAs { idleSign with phase := .awaiting, attempts := 1, republish := none, reply := some 1015 },
      .replyTimerExpiry 0, 2030),
    (loaded, .republishTimerExpiry 0, 18000)]

theorem test_met_TimeBringsTheRunningTimers :
    (∀ x ∈ running, ChannelsOk x.1 ∧ PathsOk x.1) ∧
      ∀ x ∈ running, dueAt x.1 x.2.1 = some x.2.2 ∧ (x.2.2, x.2.1) ∈ dueEvents x.1 := by
  refine ⟨?_, by decide +kernel⟩
  simp only [running, List.forall_mem_cons]
  unfold ChannelsOk ChannelRec.ok PathsOk InputRec.ok PathRec.ok
  and_intros <;> first | decide +kernel | exact fun _ h => nomatch h

theorem test_met_CommandsLeaveTheQueueAndTheOtherBlocks :
    exec (.siteWrite 1 3 4001) loaded = .next (after (.siteWrite 1 3 4001) loaded) ∧ loaded.reports = [] :=
  ⟨exec_after (by decide +kernel), rfl⟩

theorem test_met_OffersLeaveTheLineAlone :
    (exec (.litNotice 0 true) loaded = .next (after (.litNotice 0 true) loaded) ∧
      touched (.litNotice 0 true) = .allocator) ∧
    (exec (.siteRead 1) loaded = .next (after (.siteRead 1) loaded) ∧ readsOnly (.siteRead 1) = true ∧
      touched (.siteRead 1) = .lineOnly) :=
  ⟨⟨exec_after (by decide +kernel), rfl⟩, exec_after (by decide +kernel), rfl, rfl⟩

theorem test_met_EveryStepKeepsTheLine :
    LineOk (loaded.withPending [.transmissionComplete .v]) ∧
      step (loaded.withPending [.transmissionComplete .v]) = .next (after (.transmissionComplete .v) loaded) :=
  ⟨by unfold LineOk PortState.ok allSealed; decide +kernel, step_after (by decide +kernel) rfl⟩

theorem test_met_EveryStepKeepsTheStore :
    StoreOk (loaded.withPending [.siteWrite 1 3 4001]) ∧
      step (loaded.withPending [.siteWrite 1 3 4001]) = .next (after (.siteWrite 1 3 4001) loaded) :=
  ⟨by unfold StoreOk RegionRecord.ok ClearRun.ok; decide +kernel, step_after (by decide +kernel) rfl⟩

theorem test_met_EveryStepKeepsTheChannels :
    StoreOk (loaded.withPending [.ageTimerExpiry 0]) ∧
      ChannelsOk (loaded.withPending [.ageTimerExpiry 0]) ∧
      step (loaded.withPending [.ageTimerExpiry 0]) = .next (after (.ageTimerExpiry 0) loaded) :=
  ⟨loaded_store, by unfold ChannelsOk ChannelRec.ok; decide +kernel, step_after (by decide +kernel) rfl⟩

theorem test_met_EveryStepLeavesTheGradesSettled :
    StoreOk (loaded.withPending [.descentHoldExpiry 0]) ∧
      GradesOk (loaded.withPending [.descentHoldExpiry 0]) ∧
      step (loaded.withPending [.descentHoldExpiry 0]) = .next (after (.descentHoldExpiry 0) loaded) :=
  ⟨loaded_store, by unfold GradesOk GradeRec.ok; decide +kernel, step_after (by decide +kernel) rfl⟩

theorem test_met_EveryStepKeepsThePaths :
    StoreOk (loaded.withPending [.tripwireInputEdge 1 true]) ∧
      PathsOk (loaded.withPending [.tripwireInputEdge 1 true]) ∧
      step (loaded.withPending [.tripwireInputEdge 1 true]) = .next (after (.tripwireInputEdge 1 true) loaded) :=
  ⟨loaded_store, by unfold PathsOk InputRec.ok PathRec.ok; decide +kernel, step_after (by decide +kernel) rfl⟩

theorem test_met_EveryStepKeepsTheSegments :
    StoreOk (loaded.withPending [.closeSegment 1 0 1]) ∧
      SegmentsOk (loaded.withPending [.closeSegment 1 0 1]) ∧
      step (loaded.withPending [.closeSegment 1 0 1]) = .next (after (.closeSegment 1 0 1) loaded) :=
  ⟨loaded_store, by unfold SegmentsOk SegmentRec.ok; decide +kernel, step_after (by decide +kernel) rfl⟩

theorem test_met_EveryStepKeepsTheGates :
    GatesOk (loaded.withPending [.orderEvent 0 .lower]) ∧
      step (loaded.withPending [.orderEvent 0 .lower]) = .next (after (.orderEvent 0 .lower) loaded) :=
  ⟨by unfold GatesOk GateRec.ok; decide +kernel, step_after (by decide +kernel) rfl⟩

theorem test_met_EveryStepKeepsTheMotionQueue :
    QueueOk (loaded.withPending [.admissionRequest 0 .lowering 600]) ∧
      step (loaded.withPending [.admissionRequest 0 .lowering 600]) =
        .next (after (.admissionRequest 0 .lowering 600) loaded) :=
  ⟨by unfold QueueOk; decide +kernel, step_after (by decide +kernel) rfl⟩

theorem test_met_EveryStepKeepsTheSigns :
    StoreOk (loaded.withPending [.signSweep 1 [0, 1]]) ∧
      SignsOk (loaded.withPending [.signSweep 1 [0, 1]]) ∧
      step (loaded.withPending [.signSweep 1 [0, 1]]) = .next (after (.signSweep 1 [0, 1]) loaded) :=
  ⟨loaded_store, by unfold SignsOk SignRec.ok; decide +kernel, step_after (by decide +kernel) rfl⟩

theorem test_met_FiguresShareTheBudget : 1 ≤ 7 ∧ (7 : Nat) ≤ 7 ∧ ∀ r ∈ litSix, r.d1 ≤ r.d7 := by decide +kernel

/-- `loaded` with a CLEAR ALL under way, its first regions EMPTY. -/
def clearingAs (n : Nat) : State :=
  ((regionOrder.take n).foldl (fun s r => s.withRegion r .blank) loaded).withClearing (some { tag := 9, cleared := n })

/-- A store whose regions meet each clause of the power-on verification. -/
def damaged : State :=
  ((((((loaded.withRegion .channels { (loaded.region .channels) with header := { state := .active, count := 65, check := 0 } })
    |>.withRegion .gradeRules { RegionRecord.blank with header := { state := .invalid 9, count := 1, check := 0 } })
    |>.withRegion .segments { (loaded.region .segments) with header := { state := .active, count := 1, check := 1 } })
    |>.withRegion .paths { RegionRecord.blank with rows := [(2, channelBytes)] })
    |>.withRegion .schedule RegionRecord.blank)
    |>.withRegion .signs { (loaded.region .signs) with header := { state := .failed, count := 24, check := 5 } })

theorem test_met_SupplyComesAndGoes :
    loaded.power = true ∧ Region.capacity .channels < (damaged.region .channels).header.count ∧
    (damaged.region .gradeRules).header.state ∉ [.empty, .opened, .active, .failed] ∧
    regionCheck 1 (damaged.region .segments).rows ≠ (damaged.region .segments).header.check ∧
    ((damaged.region .paths).header.state = .empty ∧ readRow (damaged.region .paths).rows 2 ≠ blankRow) ∧
    ((damaged.region .schedule).header.state = .empty ∧
      ∀ i, i < Region.capacity .schedule → readRow (damaged.region .schedule).rows i = blankRow) ∧
    (damaged.region .signs).header.count = Region.capacity .signs ∧
    ((damaged.region .gates).header.state = .active ∧
      regionCheck 2 (damaged.region .gates).rows = (damaged.region .gates).header.check) ∧
    (loaded.interlocked .paths = false ∧ 15 < Region.capacity .paths ∧ loaded.store.clearing = none) ∧
    (idle.power = true ∧ idle.store.clearing = none ∧ (idle.region .signs).header.state = .empty ∧
      (1 : Nat) ≤ 24 ∧ 24 ≤ Region.capacity .signs) ∧
    (openSigns.power = true ∧ openSigns.store.clearing = none ∧ (openSigns.region .signs).header.state = .opened ∧
      (0 < (openSigns.region .signs).header.count ∧ readRow (openSigns.region .signs).rows 0 = blankRow)) ∧
    (openSigns.region .signs).header.count ≤ 24 ∧
    (let x := (after (.writeRows 2 5 3 1 [rowD]) openSigns).region .signs
     x.header.state = .opened ∧ readRow x.rows 2 = blankRow ∧ readRow x.rows 3 ≠ blankRow) ∧
    (let s := clearingAs 3
     s.power = true ∧ (∀ run ∈ s.store.clearing, regionOrder[run.cleared]? = some .paths) ∧
       s.interlocked .paths = false) := by
  and_intros <;> decide +kernel

/-- The budget is the one of the power-on until a SET BUDGET: a default budget written since does not reach it at the
Allocator's start (R38, R140). -/
theorem test_start_keeps_the_budget :
    (after .budgetAllocatorStart (loaded.withField .defaultBudget 7)).allocator.budget = loaded.allocator.budget ∧
      loaded.allocator.budget ≠ 7 := by decide +kernel

theorem test_met_JobsStart :
    loaded.power = true ∧ loaded.active .segments = true ∧ State.reset.active .segments = false ∧
    (loaded.reference .segments 0).isSome = true ∧ loaded.reference .segments 1 = none ∧
    (loaded.active .gradeRules = true ∧ State.reset.active .gradeRules = false ∧
      (loaded.reference .gradeRules 0).isSome = true) ∧
    loaded.waiting = [] ∧ (State.reset.allocator.lit = [] ∧ State.reset.allocator.gatesIn = false) ∧
    (loaded.active .signs = true ∧ .signsOutOfService ∉ loaded.handed) ∧
    ((mapGet loaded.drives.gates 0).isSome = true ∧ (loaded.gateRow 0).isSome = true) ∧
    homeAlone (loaded.gatePins 0) = true ∧
    closedAlone ((pinsAs raisedGate { GatePins.low with closedEnd := true }).gatePins 0) = true ∧
    (homeAlone GatePins.low = false ∧ closedAlone GatePins.low = false) := by
  and_intros <;> decide +kernel

theorem test_met_PortsComeAndGoAndCountBadUnits :
    loaded.steady ∧ (loaded.line.port .v).up = true ∧ State.reset.steady ∧ (State.reset.line.port .v).up = false ∧
    (connected.withPort .v (busyPort 2)).steady ∧ ((connected.withPort .v (busyPort 2)).line.port .v).locals ≠ [] ∧
    ((after (.restart 9) loaded).line.port .v).locals.any LocalFrame.restartReply = true ∧
    ((connected.withPort .v (busyPort 2)).line.port .v).locals.any LocalFrame.restartReply = false ∧
    parseUnit [1, 2, 3] = none := by
  unfold State.steady; and_intros <;> decide +kernel

theorem test_met_FramesAreForwardedOrHandedOver :
    (idle.steady ∧ (idle.line.port .v).up = true) ∧
    (∀ f ∈ [frameOf 5 9 0x30 0, frameOf 1023 9 0x01 0, frameOf 1023 9 0x02 15,
        frameOf 1023 9 0x10 1, frameOf 1022 9 0x09 0, frameOf 1022 9 0x10 0, frameOf 1022 9 0x30 0,
        frameOf 5 0 0x30 3, frameOf 1022 0 0x10 3, frameOf 1023 0 0x10 3],
      f.payload.length ≤ 120 ∧ f.check = lineCheck f.body ∧ f.source ≠ 1022) ∧ (frameOf 5 1022 0x30 1).source = 1022 ∧
    idle.ownAddress = 1022 ∧
    ((idle.withPort .s (queued 15 0 0)).line.port (opposite .v)).forwardQ.length ≤ 15 ∧
    16 ≤ ((idle.withPort .s (queued 16 0 0)).line.port (opposite .v)).forwardQ.length ∧
    ((idle.withPort .s { busyPort 0 with busy := none }).line.port .s).busy = none ∧
    idle.responder.releasing = false ∧
    (let s := (idle.withPort .v { busyPort 0 with busy := none }).withResponder { restartPending := true, releasing := true }
     s.steady ∧ (s.line.port .s).up = true ∧ (s.line.port (opposite .s)).busy = none ∧ opposite .s = .v) := by
  unfold State.steady; and_intros <;> decide +kernel

theorem test_met_LineStateFollowsTheCentre :
    loaded.steady ∧ (frameOf 5 0 0x30 0).source = 0 ∧ (frameOf 5 0 0x30 0).check = lineCheck (frameOf 5 0 0x30 0).body ∧
    loaded.line.lineState = .isolated ∧ connected.line.lineState = .connected ∧ connected.line.silence = some 1500 ∧
    loaded.line.silence = none ∧ loaded.room 1 ∧ connected.room 1 ∧
    (loaded.withStore { loaded.store with startList := [.signs, .gates] }).room 2 := by
  unfold State.steady State.room; and_intros <;> decide +kernel

theorem test_met_OffersAreAnsweredAndSent :
    idle.steady ∧ (State.reset.line.port .v).up = false ∧ (queued 0 7 0).localQ.length ≤ 7 ∧
    8 ≤ (queued 0 8 0).localQ.length ∧
    (let q := { queued 1 0 3 with busy := none }
     q.up = true ∧ q.localQ = [] ∧ q.busy = none ∧ q.streak < 4) ∧
    ((after (.restart 9) loaded).line.portV.localQ.map LocalFrame.restartReply) = [true] ∧
    (queued 1 1 3).busy.isSome = true ∧ (queued 1 1 3).streak < 4 ∧ 4 ≤ (queued 1 1 4).streak ∧
    (queued 1 1 4).forwardQ = [busyFrame] ∧
    (let s := (idle.withPort .v { queued 0 7 0 with busy := none }).withResponder
       { restartPending := true, releasing := true }
     s.steady ∧ s.line.portV.up = true ∧ s.line.portV.localQ.length ≤ 7 ∧ s.line.portV.busy = none) := by
  unfold State.steady; and_intros <;> decide +kernel

theorem test_met_RestartIsTakenAndTakesEffect :
    loaded.ready ∧ loaded.responder.restartPending = false ∧ (after (.restart 9) loaded).ready ∧
    (after (.restart 9) loaded).responder.restartPending = true ∧
    (after (.restart 9) loaded).line.portV.localQ ++ (after (.restart 9) loaded).line.portS.localQ ≠ [] ∧
    (State.reset.steady ∧ State.reset.responder.restartPending = false ∧ State.reset.line.portV.up = false) ∧
    (let s := loaded.withPort .v (busyPort 8)
     s.steady ∧ s.responder.restartPending = false ∧ s.line.portV.up = true ∧ 8 ≤ s.line.portV.localQ.length) ∧
    (let s := loaded.withPort .v { busyPort 0 with busy := none }
     s.steady ∧ s.responder = { restartPending := false, releasing := false } ∧ s.line.portV.up = true ∧
       s.line.portV.localQ = [] ∧ s.line.portV.forwardQ = []) ∧
    (let s := loaded.withResponder { restartPending := false, releasing := true }
     s.steady ∧ s.line.portV.up = true ∧ s.line.portV.localQ.length ≤ 7) := by
  unfold State.ready State.steady; and_intros <;> decide +kernel

theorem test_met_RequestsReachTheirOwners :
    loaded.ready ∧ (arrivalOf 9 1022 [0x40, 1]).source ≠ 0 ∧ (arrivalOf 0 1022 [0x40]).payload.length < 2 ∧
    (arrivalOf 0 1023 [0x22, 1, 0, 1, 0, 0, 9]).payload = 0x22 :: 1 :: [0, 1, 0, 0, 9] ∧
    (0x0A : Byte).toNat ∉ requestCodes ∧ (0x4F : Byte).toNat ∈ requestCodes ∧
    requestLength 0x02 [5, 0, 1] = some 35 ∧ requestLength 0x40 [] = some 0 ∧ requestLength 0x39 [2, 0] = some 3 ∧
    State.reset.steady ∧
    [State.reset.grader.started, State.reset.monitor.started, State.reset.sequencer.started,
      State.reset.drives.started, State.reset.allocator.started, State.reset.publisher.started] =
        [true, true, true, true, true, true] ∧
    (let s := after (.powerOn { inputs := 0, gate0 := .low, gate1 := .low, gate2 := .low, gate3 := .low })
        (after (.supplyLost .quiet) loaded)
     s.steady ∧ [s.grader.started, s.monitor.started, s.sequencer.started, s.drives.started, s.allocator.started,
       s.publisher.started] = [false, false, false, false, false, false]) ∧
    ((arrivalOf 0 1022 []).source = 0 ∧ (arrivalOf 0 1022 []).dest ≠ 1023 ∧ [rowA, rowB].length = (2 : Byte).toNat ∧
      (∀ row ∈ [rowA, rowB], row.length = 32) ∧ [(4 : Byte), 5].length = (2 : Byte).toNat) ∧
    (let s := loaded.withWaiting [.holdGrade 1 0 2, .setBudget 2 900, .holdGrade 3 0 1]
     s.steady ∧ (s.waiting.filter fun x => waitsFor x == some .gradeEvaluatorStart) =
         [.holdGrade 1 0 2, .holdGrade 3 0 1] ∧ ∀ x ∈ s.waiting, x ∉ s.handed) := by
  unfold State.ready State.steady; and_intros <;> decide +kernel

theorem test_met_OpenRegionTakesAnEmptyRegion :
    idle.steady ∧ idle.store.clearing = none ∧ 6 < (7 : Byte).toNat ∧ (6 : Byte).toNat = Region.number .gates ∧ (5 : Byte).toNat = Region.number .signs ∧
    (loaded.region .signs).header.state ≠ .empty ∧ (idle.region .signs).header.state = .empty ∧
    (0 : Byte).toNat = 0 ∧ Region.capacity .signs < (25 : Byte).toNat ∧ 1 ≤ (1 : Byte).toNat ∧
    (24 : Byte).toNat ≤ Region.capacity .signs := by
  unfold State.steady; and_intros <;> decide +kernel

theorem test_met_WriteRowsStopsAtTheFirstRowThatFails :
    loadedSigns.ready ∧ loadedSigns.store.clearing = none ∧ rowsOk 2 [rowA, rowB] = true ∧ rowsOk 3 [rowA, rowB, rowD] = true ∧ rowsOk 0 [] = true ∧
    rowsOk 4 [rowA, rowB, rowD, rowA] = true ∧ (loaded.region .signs).header.state ≠ .opened ∧
    (loadedSigns.region .signs).header.state = .opened ∧
    (∀ i, i < 2 → 0 + i < (openSigns.region .signs).header.count ∧
      readRow (openSigns.region .signs).rows (0 + i) = blankRow) ∧
    ((2 < (loadedSigns.region .signs).header.count ∧ readRow (loadedSigns.region .signs).rows 2 = blankRow) ∧
      readRow (loadedSigns.region .signs).rows 3 ≠ blankRow) ∧
    ((3 < (openSigns.region .signs).header.count ∧ readRow (openSigns.region .signs).rows 3 = blankRow) ∧
      (openSigns.region .signs).header.count ≤ 3 + 1) := by
  unfold State.ready State.steady; and_intros <;> decide +kernel

theorem test_met_RowsAndFieldsReadBackAsStored :
    loaded.steady ∧ loaded.store.clearing = none ∧ 3 < (4 : Byte).toNat ∧ Region.capacity .signs < (22 : Byte).toNat + (3 : Byte).toNat ∧
    (21 : Byte).toNat + (3 : Byte).toNat ≤ Region.capacity .signs ∧
    (∀ i, i < Region.capacity .signs → readRow (openSigns.region .signs).rows i = blankRow) ∧
    (readRow (damaged.region .paths).rows 2 ≠ blankRow ∧
      ∀ j, j < 2 → readRow (damaged.region .paths).rows j = blankRow) := by
  unfold State.steady; and_intros <;> decide +kernel

/-- SIGNS, OPEN with the given rows. -/
def opened (rows : Map Bytes) : State :=
  idle.withRegion .signs
    { RegionRecord.blank with header := { state := .opened, count := 3, check := 0 }, rows := rows }

/-- The byte sum of the first three rows of a region's record. -/
def sumOf (s : State) : Nat :=
  ((List.range 3).flatMap fun i => (readRow (s.region .signs).rows i).map BitVec.toNat).sum

theorem test_met_ActivateRegionPassesThreeStages :
    let good := opened [(0, rowA), (2, rowB)]
    let same := opened [(0, rowA), (2, rowD)]
    let bad := opened [(0, rowA), (1, rowOf [0, 0])]
    good.ready ∧ good.store.clearing = none ∧ (loaded.region .signs).header.state ≠ .opened ∧ good.room 2 ∧
    (sumOf good % 65536 ≠ (7 : BitVec 16).toNat ∧ sumOf good % 65536 = (BitVec.ofNat 16 (sumOf good)).toNat) ∧
    (rowValid .signs (readRow (bad.region .signs).rows 1) = false ∧
      rowValid .signs (readRow (bad.region .signs).rows 0) = true ∧
      readRow (bad.region .signs).rows 1 ≠ blankRow) ∧
    (rowConflict .signs [rowA] (readRow (same.region .signs).rows 2) = true ∧
      rowConflict .signs [] (readRow (same.region .signs).rows 0) = false) ∧
    (∀ i, i < 3 → readRow (good.region .signs).rows i ≠ blankRow →
      rowValid .signs (readRow (good.region .signs).rows i) = true ∧
      rowConflict .signs (((List.range i).map (readRow (good.region .signs).rows)).filter fun row => row != blankRow)
        (readRow (good.region .signs).rows i) = false) ∧
    (∀ row ∈ [channelBytes, ruleBytes, segmentBytes, pathBytes, scheduleBytes, signBytes 100, gateBytes],
      row.length = 32) := by
  unfold State.ready State.steady State.room; intro good same bad; and_intros <;> decide +kernel

theorem test_met_ClearsEmptyRegionsAndConvertClaims :
    let noticed := segmentAs .notice [(0, calm), (3, harsh), (19, calm)] (some 2000) none 2
    (loaded.ready ∧ loaded.room 2 ∧ loaded.store.clearing = none) ∧
    (noticed.active .segments = true ∧ ∃ e ∈ noticed.sequencer.segments, e.2.state ≠ .opened) ∧
    (let s := gateAs { raisedGate with state := .stopping, admission := .held }
     s.active .gates = true ∧ ∃ e ∈ s.drives.gates, e.2.admission = .held) ∧
    (loaded.active .segments = true ∧ ∀ e ∈ loaded.sequencer.segments, e.2.state = .opened) ∧
    (∀ e ∈ loaded.drives.gates, e.2.admission ≠ .held) ∧ idle.active .signs = false ∧
    (loaded.store.clearing = none ∧ (∀ n, n < 7 → (clearingAs n).pending = [] ∧ (clearingAs n).handed = []) ∧
      waitsForClearAll (.clearAll 9) = true) ∧
    ((clearingAs 3).ready ∧ (clearingAs 3).waiting = [] ∧ regionOrder[3]? = some .paths ∧ (clearingAs 3).room 4 ∧
      (∀ q ∈ regionOrder.take 3, ((clearingAs 3).region q).header = { state := .empty, count := 0, check := 0 })) ∧
    (let s := (clearingAs 6).withWaiting [.siteRead 1, .clearAll 9, .setBudget 3 5, .openRegion 2 5 3]
     s.ready ∧ s.room 8 ∧ s.waiting.filter waitsForClearAll = [.siteRead 1, .clearAll 9, .openRegion 2 5 3] ∧
       s.pending = [] ∧ s.handed = [] ∧ (clearingAs 6).waiting = [] ∧ (clearingAs 6).interlocked .gates = false ∧
       (∀ q ∈ regionOrder.take 6, (s.region q).header = { state := .empty, count := 0, check := 0 })) ∧
    (let s := ((clearingAs 2).withSegment 0
         { state := .closed, claims := [(0, calm)], lead := none, grace := none, parameter := 0xFFFF, grade := 2
           gateFault := false, blocked := false, unannounced := false })
     s.ready ∧ s.interlocked .segments = true ∧ regionOrder[2]? = some .segments ∧ s.waiting = []) ∧
    (noticed.ready ∧ noticed.store.clearing = none ∧ noticed.active .segments = true ∧ noticed.active .paths = true ∧ noticed.active .schedule = true ∧
      (∀ c ∈ noticed.handed, isPathClaim c = false)) ∧
    SegmentsOk (segmentAs .closed [(0, calm), (3, harsh), (19, calm)] none none 2) ∧
    (segmentAs .closed [(3, harsh)] none none 2).segment 0 ≠ none := by
  unfold State.ready State.steady State.room SegmentsOk SegmentRec.ok; intro noticed; and_intros <;> decide +kernel

theorem test_met_SiteWriteClampsTheValue :
    loaded.ready ∧ 7 < (8 : Byte).toNat ∧ (∀ f ∈ siteFields, SiteField.code f ≤ 7) ∧
    loaded.allocator.started = true ∧ (63 : BitVec 16).toNat ≤ 63 ∧ ¬ (64 : BitVec 16).toNat ≤ 63 := by
  unfold State.ready State.steady; and_intros <;> decide +kernel

/-- `loaded` with another record of its channel. -/
def channelAs (status : ChannelStatus) (ring : List Int) (age : Option Nat) (faultRun : Nat) : State :=
  loaded.withIntake
    { loaded.intake with
      channels := [(0, { status := status, lastRaw := some 50, value := 50, filtered := 50, saturated := false
                         ring := ring, age := age, faultRun := faultRun, lastSeq := some 3 })] }

/-- A SAMPLE payload of one entry for station channel 0. -/
def samplePayload (seq quality raw : Nat) : Bytes := [BitVec.ofNat 8 seq, 1, 0, BitVec.ofNat 8 quality] ++ be 2 raw

/-- `loaded` with its channel named as the light channel. -/
def lightNamed : State :=
  loaded.withStore { loaded.store with site := { loaded.store.site with lightChannel := 0 } }

/-- The indices with a row in `loaded`. -/
theorem loaded_channel_row : ∀ i, i < 64 → (loaded.channelRow i).isSome = true → i = 0 := by decide +kernel

theorem test_met_SampleEntriesAreTakenOnce :
    (loaded.steady ∧ ChannelsOk loaded) ∧ (loaded.intake.started = true ∧ loaded.intake.inService = true ∧ loaded.active .channels = true ∧
      .channelsOutOfService ∉ loaded.handed) ∧
    (idle.intake.inService = false ∧ field [0, 9] 1 1 = 9 ∧ field [0, 0] 1 1 = 0) ∧
    (∀ p ∈ [samplePayload 3 0 10, samplePayload 4 0 10, samplePayload 4 0 1000, samplePayload 4 0 9,
        samplePayload 4 0 1001, samplePayload 4 1 10], field p 1 1 = 1 ∧ p.length = 2 + 4 * 1) ∧
    (∃ row ∈ loaded.channelRow 0, row.station = 5 ∧ row.stationChannel = 0 ∧ row.rawLow = 10 ∧ row.rawHigh = 1000) ∧
    (mapGet loaded.intake.channels 0).map ChannelRec.lastSeq = some (some (byteAt (samplePayload 3 0 10) 0)) ∧
    some (byteAt (samplePayload 4 0 10) 0) ≠ some 3 ∧
    ((channelAs .live [50] (some 1200) 2).steady ∧ ChannelsOk (channelAs .live [50] (some 1200) 2)) ∧
    ((channelAs .fault [] none 3).steady ∧ ChannelsOk (channelAs .fault [] none 3)) ∧
    (lightNamed.steady ∧ ChannelsOk lightNamed ∧ lightNamed.store.site.light = some 0 ∧
      (lightNamed.reference .channels 0).isSome = true ∧ lightNamed.channelRow 0 = loaded.channelRow 0 ∧
      (mapGet lightNamed.intake.channels 0).map ChannelRec.filtered = some 50) := by
  unfold State.steady ChannelsOk ChannelRec.ok; and_intros <;> decide +kernel

theorem test_met_SampleEntriesAreTakenOnce_rows :
    ∀ i, i < 64 → ∀ j, j < 64 → ∀ x ∈ loaded.channelRow i, ∀ y ∈ loaded.channelRow j,
      x.station = y.station → x.stationChannel = y.stationChannel → i = j := by
  intro i hi j hj x hx y hy _ _
  rw [loaded_channel_row i hi (by rw [Option.mem_def.mp hx]; rfl),
    loaded_channel_row j hj (by rw [Option.mem_def.mp hy]; rfl)]

theorem test_met_ChannelsComeGoAndGoStale :
    loaded.steady ∧ (mapGet loaded.intake.channels 0).bind ChannelRec.age = some 1200 ∧
    (mapGet loaded.intake.channels 0).map ChannelRec.status = some .live ∧ loaded.room 1 ∧
    (mapGet loaded.intake.channels 1).bind ChannelRec.age = none ∧
    (loaded.intake.channels.filter fun e => e.2.status != .never).map Prod.fst = [0] ∧
    ((loaded.withStore { loaded.store with site := { loaded.store.site with lightChannel := 0 } }).store.site.light =
      some 0) := by
  unfold State.steady State.room; and_intros <;> decide +kernel

theorem test_met_UpdatesDecideFlagsAndGrades :
    (loaded.steady ∧ GradesOk loaded) ∧ mapGet loaded.grader.flags 0 = some false ∧
    (∃ row ∈ loaded.ruleRow 0, row.channel = 0 ∧ maskHas row.mask 0 = true ∧ row.stale = .assert) ∧
    (loaded.reference .channels 0).isSome = true ∧
    (mapGet loaded.grader.segments 0).isSome = true ∧
    (loaded.active .segments = true ∧ .graderSegmentsOutOfService ∉ loaded.handed) ∧
    (let s := loaded.hand .graderSegmentsOutOfService
     s.steady ∧ GradesOk s ∧ .graderSegmentsOutOfService ∈ s.handed) := by
  unfold State.steady GradesOk GradeRec.ok; and_intros <;> decide +kernel

/-- An update that asserts a rule raises no grade at a record from before a clear of SEGMENTS (R63), and raises that of
a segment in service. -/
theorem test_update_and_cleared_segments :
    let u := Instr.channelUpdate { channel := 0, status := .stale, value := 0, filtered := 0, rise := none }
    let grade := fun (s : State) => (mapGet s.grader.segments 0).map fun r => (r.raw, r.effective)
    grade (after u loaded) ≠ grade loaded ∧
      grade (after u (loaded.hand .graderSegmentsOutOfService)) = grade loaded := by
  and_intros <;> decide +kernel

theorem test_met_HoldsAndFloorsKeepGradesUp :
    (loaded.ready ∧ loaded.grader.started = true ∧ loaded.room 2) ∧
    (∃ r ∈ mapGet loaded.grader.segments 0, r.hold = some 6000 ∧ max r.raw r.floor ≠ r.effective ∧ r.floor = 0) ∧
    (mapGet loaded.grader.segments 1).bind GradeRec.hold = none ∧
    (7 < (8 : Byte).toNat ∧ (7 : Byte).toNat ≤ 7 ∧ 5 < (6 : Byte).toNat ∧ (5 : Byte).toNat ≤ 5) ∧
    (mapGet loaded.grader.segments (7 : Byte).toNat = none ∧ idle.active .segments = false) := by
  unfold State.ready State.steady State.room; and_intros <;> decide +kernel

theorem test_met_RulesAndGradeRecordsComeAndGo :
    (loaded.steady ∧ GradesOk loaded ∧ (mapGet loaded.grader.segments 0).isSome = true) ∧
    ((loaded.reference .gradeRules 0).isSome = true ∧ (loaded.reference .segments 0).isSome = true) ∧
    (loaded.active .gradeRules = true ∧ loaded.active .segments = true ∧ idle.active .gradeRules = false ∧
      idle.active .segments = false ∧ idle.steady ∧ GradesOk idle) ∧
    (mapGet loaded.grader.flags 0).isSome = true ∧ (loaded.ruleRow 0).isSome = true := by
  unfold State.steady GradesOk GradeRec.ok; and_intros <;> decide +kernel

theorem test_met_DetectionsReachThePaths :
    (loaded.steady ∧ PathsOk loaded ∧ loaded.active .paths = true ∧ loaded.monitor.started = true ∧
      loaded.monitor.inService = true) ∧
    (mapGet loaded.monitor.inputs 12 = none ∧ (mapGet loaded.monitor.inputs 0).bind InputRec.dead = none) ∧
    (mapGet (loaded.withInput 0 { level := true, assignment := .counting true 4, dead := some 2003 }).monitor.inputs 0).bind
      InputRec.dead = some 2003 ∧
    ((mapGet loaded.monitor.inputs 0).map fun r => (r.level, r.assignment)) = some (false, .counting true 4) ∧
    ((mapGet loaded.monitor.inputs 1).map fun r => (r.level, r.assignment)) = some (false, .tripwire true) ∧
    ((mapGet loaded.monitor.inputs 2).map fun r => (r.level, r.assignment)) = some (false, .unassigned) ∧
    (∃ row ∈ loaded.pathRow 0, (∃ sl ∈ row.slots, namesInput sl 0) ∧ (∃ sl ∈ row.slots, namesInput sl 1) ∧
      (row.slots.any fun sl => sl.source == .remote 7 2) = true ∧
      (row.slots.any fun sl => sl.source == .remote 7 3) = false) ∧
    (1 ≤ (4 : Byte).toNat ∧ (4 : Byte).toNat ≤ 4 ∧ 4 < (5 : Byte).toNat ∧ (1 : Byte) ≠ 0) ∧ idle.active .paths = false := by
  unfold State.steady PathsOk InputRec.ok PathRec.ok namesInput; and_intros <;> decide +kernel

/-- For the clause on PATHS coming into service. -/
theorem test_met_PathsIntoService : loaded.steady ∧ StoreOk loaded ∧ PathsOk loaded ∧ loaded.active .paths = true :=
  ⟨⟨rfl, rfl⟩, loaded_store, by unfold PathsOk InputRec.ok PathRec.ok; decide +kernel, by decide +kernel⟩

theorem test_met_PathsComeGoAndTimeOut :
    (loaded.steady ∧ loaded.room 1 ∧ (mapGet loaded.monitor.paths 0).isSome = true ∧
      (loaded.pathRow 0).isSome = true ∧ PathsOk loaded) ∧
    (mapGet loaded.monitor.paths 0).map PathRec.queue = some [] ∧
    ((mapGet (pathAs .alert .noDecision [400, 400, 450] none none).monitor.paths 0).bind fun x => x.queue.head?) =
      some 400 ∧
    (mapGet (pathAs .clearing .noDecision [] none (some 3900)).monitor.paths 0).bind PathRec.clear = some 3900 ∧
    (mapGet (pathAs .release .waiting [] (some 1200) none).monitor.paths 0).bind PathRec.confirm = some 1200 ∧
    PathsOk (pathAs .release .waiting [] (some 1200) none) ∧
    (∃ row ∈ loaded.pathRow 0, ∃ sl ∈ row.slots, sl.tripwire = true ∧ namesInput sl 1 ∧
      loaded.inputLevel 1 ≠ sl.rising ∧
      (loaded.withInput 1 { level := true, assignment := .tripwire true, dead := none }).inputLevel 1 = sl.rising) ∧
    (∀ row ∈ loaded.pathRow 0, ∀ sl ∈ row.slots, ∀ i, i < 1024 → namesInput sl i → i < 12) := by
  unfold State.steady State.room PathsOk InputRec.ok PathRec.ok namesInput; and_intros <;> decide +kernel

theorem test_met_WaitingPathsAreDecided :
    let s := pathAs .release .waiting [] (some 1200) none
    (s.ready ∧ s.room 2 ∧ s.monitor.started = true ∧ PathsOk s ∧ s.active .paths = true) ∧
    ((mapGet s.monitor.paths 0).map PathRec.decision = some .waiting ∧ (s.pathRow 0).isSome = true) ∧
    (mapGet loaded.monitor.paths 0).map PathRec.decision = some .noDecision ∧
    (15 < (16 : Byte).toNat ∧ (15 : Byte).toNat ≤ 15 ∧ mapGet s.monitor.paths (15 : Byte).toNat = none) ∧
    (mapGet s.monitor.paths 0).map (fun x => x.faults.length) = some 4 ∧ idle.active .paths = false := by
  unfold State.ready State.steady State.room PathsOk InputRec.ok PathRec.ok; intro s; and_intros <;> decide +kernel

/-- The Grade Evaluator's start decides the flag of a rule and raises the grade that follows (R66, R76): a rule with
stale ASSERT of a channel that is not LIVE is asserted. -/
theorem test_start_decides_flags :
    let t := after .gradeEvaluatorStart (channelAs .stale [] none 0)
    t.grader.flags = [(0, true)] ∧ (mapGet t.grader.segments 0).map GradeRec.raw = some 3 := by
  and_intros <;> decide +kernel

/-- A state with both leads of its segment 0 s, and with a notice grace. -/
def leadless (grace : Nat) (s : State) : State :=
  s.withSequencer { s.sequencer with segmentRows := [(0, rowOf [0, 0, 0, 0, grace, 2, 88, 3, 1])] }

/-- `segmentAs` with sign 0 CONFIRMED with a face. -/
def confirmedAs (face : Byte) (claims : Map Claim) (lead grace : Option Nat) : State :=
  (segmentAs .notice claims lead grace 2).withSign 0 { idleSign with status := .confirmed, confirmed := some (face, 7) }

/-- The CENTRE claim turning urgent, and an urgent claim that arrives, in each state that can meet one; leads of 0; the
grades with and without other claims. -/
theorem test_met_urgent_claims :
    (∀ s ∈ [segmentAs .notice [(0, calm)] (some 1300) none 2, segmentAs .notice [(0, calm)] (some 1150) none 2,
        segmentAs .notice [(0, calm)] none (some 1060) 2, segmentAs .closing [(0, calm)] none none 2,
        segmentAs .closed [(0, calm)] none none 2, segmentAs .notice [(0, harsh)] (some 1300) none 2,
        leadless 60 (segmentAs .notice [(0, calm)] (some 1300) none 2), leadless 60 loaded, leadless 0 loaded,
        segmentAs .notice [(2, harsh)] (some 1100) none 5, segmentAs .notice [(0, calm), (2, harsh)] (some 1100) none 5,
        segmentAs .closing [(2, harsh)] none none 5, confirmedAs 40 [(0, calm)] (some 1300) none],
      s.steady ∧ SegmentsOk s ∧ (s.segment 0).isSome = true ∧ (s.segmentRow 0).isSome = true) ∧
    (leadless 60 loaded).segmentRow 0 = (loaded.segmentRow 0).map
      (fun row => { row with normalLead := 0, urgentLead := 0 }) ∧
    ¬ signsAllow loaded 0 ∧ signsAllow (confirmedAs 40 [(0, calm)] (some 1300) none) 0 ∧ signsAllow idle 0 := by
  unfold State.steady SegmentsOk SegmentRec.ok signsAllow; and_intros <;> decide +kernel

/-- The CENTRE claim that turns urgent shortens the lead to the urgent lead of 20 s, which ends in minute 2 of the clock;
it ends a grace in CLOSING (R99, R103, R109). -/
theorem test_centre_turns_urgent :
    let t := fun (s : State) => ((after (.closeSegment 1 0 1) s).segment 0).map fun r => (r.state, r.lead, r.parameter)
    [t (segmentAs .notice [(0, calm)] (some 1300) none 2), t (segmentAs .notice [(0, calm)] none (some 1060) 2)] =
      [some (.notice, some 1200, 2), some (.closing, none, 0xFFFF)] := by decide +kernel

/-- A grade claim that leaves last takes NOTICE to OPEN (R103). -/
theorem test_grade_claim_leaves_notice :
    ((after (.gradeEvent 0 4 (some .remove)) (segmentAs .notice [(2, harsh)] (some 1100) none 5)).segment 0).map
      (fun r => (r.state, r.lead, r.parameter)) = some (.opened, none, 0xFFFF) := by decide +kernel

theorem test_met_ClaimsArePlacedAndRemoved :
    (loaded.steady ∧ SegmentsOk loaded ∧ (loaded.segment 0).isSome = true ∧ (loaded.segmentRow 0).isSome = true ∧
      loaded.room 1) ∧
    (maskHas 1 0 = true ∧ maskHas 2 0 = false ∧ loaded.segment 1 = none) ∧
    (∃ row ∈ loaded.segmentRow 0, row.urgentLead = 20 ∧ row.normalLead = 300 ∧ row.reopenLimit = 3) ∧
    ((loaded.withSequencer { loaded.sequencer with
        segmentRows := [(0, rowOf [0, 0, 0, 0, 0, 2, 88, 3, 1])] }).segmentRow 0).map
      (fun row => (row.urgentLead, row.normalLead)) = some (0, 0) ∧
    SegmentsOk (segmentAs .notice [(19, calm)] (some 1300) none 2) ∧
    SegmentsOk (segmentAs .notice [(19, calm)] none (some 1300) 2) ∧
    SegmentsOk (segmentAs .closing [(0, calm)] none none 2) ∧ SegmentsOk (segmentAs .closed [(0, calm)] none none 2) ∧
    SegmentsOk (segmentAs .closed [(0, calm)] none none 3) ∧ SegmentsOk (segmentAs .reopening [] none none 2) ∧
    SegmentsOk (segmentAs .closed [] none none 3) ∧
    (∀ i, i < 51 → i ≠ 0 → mapGet [(0, calm)] i = none) ∧ (mapGet [(0, calm), (19, calm)] 19).isSome = true := by
  unfold State.steady State.room SegmentsOk SegmentRec.ok; and_intros <;> decide +kernel

theorem test_met_TheCentreClosesAndReleases :
    (loaded.ready ∧ loaded.sequencer.started = true ∧ SegmentsOk loaded ∧ loaded.room 2) ∧
    (7 < (8 : Byte).toNat ∧ (7 : Byte).toNat ≤ 7 ∧ loaded.segment (7 : Byte).toNat = none ∧
      1 < (2 : Byte).toNat ∧ (1 : Byte).toNat ≤ 1) ∧
    ((loaded.segment 0).map fun r => (r.lead, r.claims)) = some (none, []) ∧
    (let s := segmentAs .notice [(0, calm), (1, harsh)] (some 1300) none 2
     s.ready ∧ SegmentsOk s ∧ ∀ i, i < 51 → 2 ≤ i → mapGet [(0, calm), (1, harsh)] i = none) ∧
    (let s := segmentAs .closed [(0, calm), (2, harsh)] none none 2
     s.ready ∧ SegmentsOk s ∧ (mapGet [(0, calm), (2, harsh)] 2).isSome = true) := by
  unfold State.ready State.steady State.room SegmentsOk SegmentRec.ok; and_intros <;> decide +kernel

theorem test_met_NoticesEndInClosingAndGatesMoveTheSegment :
    (let s := segmentAs .notice [(0, calm)] (some 1300) none 2
     s.steady ∧ SegmentsOk s ∧ s.room 1 ∧ (s.segmentRow 0).map SegmentRow.grace = some 60) ∧
    (∃ r ∈ (segmentAs .notice [(2, harsh)] (some 1300) none 2).segment 0, r.urgent = true) ∧
    (∃ x ∈ (loaded.reference .signs 0).map Machine.signRow, x.segment = 0 ∧ x.approach = true ∧ x.notice = 40 ∧
      x.closed = 50) ∧
    (∃ y ∈ mapGet (confirmedAs 40 [(0, calm)] (some 1300) none).publisher.signs 0,
      y.status = .confirmed ∧ y.confirmed = some (40, 7)) ∧
    (∀ i ∈ [0, 1], ∀ y ∈ mapGet loaded.publisher.signs i, y.status ≠ .confirmed) ∧
    (∀ i, i < 24 → ∀ x ∈ (idle.reference .signs i).map Machine.signRow, ¬ (x.segment = 0 ∧ x.approach = true)) ∧
    (confirmedAs 41 [(0, calm)] none (some 1300)).steady ∧ loaded.reference .signs 23 = none ∧
    (loaded.sequencer.gatesBuilt = true ∧ (loaded.gateRow 0).map GateRow.segment = some 0 ∧ loaded.gateRow 3 = none) ∧
    (idle.sequencer.gatesBuilt = false ∧ (segmentAs .closing [(0, calm)] none none 2).allGates 0 .lowered = false) ∧
    (segmentAs .reopening [] none none 2).allGates 0 .raised = true := by
  unfold State.steady State.room SegmentsOk SegmentRec.ok; and_intros <;> decide +kernel

theorem test_met_GatesMoveTheSegment_lowered :
    let low := { raisedGate with state := .lowered, count := 1000 }
    let s := (segmentAs .closing [] none none 3).withDrives
      { loaded.drives with gates := [(0, low), (1, low), (2, .unconfigured), (3, .unconfigured)] }
    s.steady ∧ SegmentsOk s ∧ s.allGates 0 .lowered = true ∧ s.allGates 0 .raised = false := by
  unfold State.steady SegmentsOk SegmentRec.ok; intro low s; and_intros <;> decide +kernel

theorem test_met_TheScheduleIsEvaluated :
    (loaded.ready ∧ SegmentsOk loaded ∧ loaded.sequencer.started = true) ∧ idle.sequencer.clock = none ∧
    loaded.sequencer.clock = some { day := 3, second := 100, next := 1005 } ∧
    (86400 ≤ (86400 : BitVec 24).toNat ∧ (86399 : BitVec 24).toNat ≤ 86399) ∧
    (∃ row ∈ loaded.scheduleRow 0, row.start = 3600 ∧ row.finish = 7200 ∧ row.firstDay = 0 ∧ row.lastDay = 65535 ∧
      maskHas row.mask 0 = true ∧ ∀ d, d < 7 → maskHas row.weekdays d = true) ∧
    (loaded.segmentRow 0).map SegmentRow.normalLead = some 300 := by
  unfold State.ready State.steady SegmentsOk SegmentRec.ok; and_intros <;> decide +kernel

/-- The schedule entry's claim is due from its start less the normal lead to its end, and never with no clock. -/
theorem test_met_TheScheduleIsEvaluated_window (row : ScheduleRow)
    (h : row = Machine.scheduleRow scheduleBytes) :
    windowDue row 300 (some { day := 3, second := 3300, next := 0 }) ∧
      windowDue row 300 (some { day := 3, second := 7199, next := 0 }) ∧
      ¬ windowDue row 300 (some { day := 0, second := 3299, next := 0 }) ∧ ¬ windowDue row 300 none := by
  subst h
  unfold windowDue windowAt
  refine ⟨⟨_, rfl, 3, by decide +kernel⟩, ⟨_, rfl, 3, by decide +kernel⟩, ?_, fun ⟨_, h, _⟩ => by cases h⟩
  rintro ⟨c, m, d, _, _, _, _, h, _⟩
  obtain rfl := Option.mem_some_iff.mp m
  have e : (Machine.scheduleRow scheduleBytes).start = 3600 := by decide +kernel
  simp only [e] at h
  omega

/-- Schedule entry 1: segment 0, every day from second 0 to second 1800. -/
def earlyBytes : Bytes := rowOf [1, 127, 0, 0, 0, 0, 7, 8, 0, 0, 255, 255]

/-- A state whose clock shows a second of day 3, with both schedule entries in use. -/
def atSecond (second : Nat) (s : State) : State :=
  s.withSequencer
    { s.sequencer with
      clock := some { day := 3, second := second, next := 1005 }
      scheduleRows := [(0, scheduleBytes), (1, earlyBytes)] }

/-- A state whose gates are STOPPED. -/
def gatesStopped (s : State) : State :=
  let g := { raisedGate with state := .stopped }
  s.withDrives { s.drives with gates := [(0, g), (1, g), (2, .unconfigured), (3, .unconfigured)] }

/-- For the clauses on what a segment makes of the SCHEDULE claims of one evaluation: the state and claims before it, and
the claims after it at a clock second. -/
theorem test_met_schedule_moves :
    ([segmentAs .opened [] none none 2, segmentAs .notice [(20, calm)] (some 1300) none 2,
      segmentAs .notice [(19, calm)] (some 1300) none 2, segmentAs .closing [(19, calm)] none none 2,
      gatesStopped (segmentAs .closing [(19, calm)] none none 2), segmentAs .closing [(0, calm), (19, calm)] none none 2,
      segmentAs .closed [(19, calm)] none none 2, segmentAs .closed [(19, calm)] none none 3,
      segmentAs .reopening [] none none 2].map fun s =>
        ([100, 2000, 3299].map fun x => ((after .clockSecond (atSecond x s)).segment 0).map fun r => mapKeys r.claims)) =
      [[some [20], some [], some [19]], [some [20], some [], some [19]], [some [20], some [], some [19]],
        [some [20], some [], some [19]], [some [20], some [], some [19]], [some [0, 20], some [0], some [0, 19]],
        [some [20], some [], some [19]], [some [20], some [], some [19]], [some [20], some [], some [19]]] ∧
    (∀ s ∈ [segmentAs .opened [] none none 2, segmentAs .notice [(19, calm)] (some 1300) none 2,
        gatesStopped (segmentAs .closing [(19, calm)] none none 2), segmentAs .closed [(19, calm)] none none 3],
      (atSecond 100 s).steady ∧ SegmentsOk (atSecond 100 s)) := by
  unfold State.steady SegmentsOk SegmentRec.ok; and_intros <;> decide +kernel

/-- A scheduled closure shows the minute its window starts at (R109): 60 for the window of second 3600, also where its
claim came late; 0 for the earlier of two windows; with a claim of the centre beside it the minute that the lead ends
in; and 0xFFFF while the clock is UNSET. -/
theorem test_schedule_parameter :
    let shown := fun (s : State) => ((after .clockSecond s).segment 0).map fun r => (r.state, r.lead, r.parameter)
    let both := segmentAs .notice [(0, calm)] (some 1300) none 2
    [shown (atSecond 3299 loaded), shown (atSecond 5000 loaded), shown (atSecond 100 loaded),
      shown (atSecond 3299 both)] =
      [some (.notice, some 4005, 60), some (.notice, some 4005, 60), some (.notice, some 4005, 0),
        some (.notice, some 1300, 55)] ∧
    ((after (.closeSegment 1 0 0) { loaded with sequencer := { loaded.sequencer with clock := none } }).segment 0).map
      SegmentRec.parameter = some 0xFFFF := by
  and_intros <;> decide +kernel

theorem test_met_SegmentsComeAndGoWithTheirGates :
    (loaded.steady ∧ PathsOk loaded ∧ SegmentsOk loaded ∧ (loaded.reference .segments 0).isSome = true ∧
      loaded.active .segments = true) ∧
    StoreOk loaded ∧ loaded.configuredGates 0 = [0, 1] ∧
    (∀ k ∈ loaded.configuredGates 0, loaded.gateState k = .raised) ∧
    (let s := gateAs { raisedGate with state := .fault, cause := .stall }
     s.steady ∧ s.gateState 0 ≠ .raised ∧ s.gateState 0 = .fault ∧ SegmentsOk s) ∧
    (∃ x ∈ mapGet (pathAs .release .claimed [] none none).monitor.paths 0, x.decision = .claimed) ∧
    SegmentsOk (segmentAs .closing [(0, calm)] none none 2) ∧ SegmentsOk (segmentAs .reopening [] none none 2) := by
  unfold State.steady PathsOk InputRec.ok PathRec.ok SegmentsOk SegmentRec.ok StoreOk RegionRecord.ok
    ClearRun.ok
  and_intros <;> decide +kernel

/-- `loaded` with another record of its gate 0, whose settle time is 0. -/
def quickAs (g : GateRec) : State :=
  (gateAs g).withDrives { (gateAs g).drives with rows := [(0, gateBytes.set 9 0), (1, gateBytes)] }

/-- A gate HELD, asking. -/
def askingGate : GateRec := { raisedGate with state := .held, order := .lower, admission := .requested }

theorem test_met_OrdersActByState :
    (loaded.steady ∧ GatesOk loaded) ∧ loaded.gateOf 2 = none ∧ (loaded.gateOf 0).map (fun x => x.1.order) = some .noOrder ∧
    (GatesOk (gateAs askingGate) ∧ GatesOk (gateAs runGate) ∧ GatesOk (gateAs settleGate)) ∧
    GatesOk (gateAs { raisedGate with state := .raising, phase := .run, order := .raise, admission := .held
                                      stallTimer := some 1008, travelTimer := some 1600 }) ∧
    wayIsClear loaded 0 (Machine.gateRow gateBytes) { raisedGate with state := .held } ∧
    (let s := loaded.withRegion .segments RegionRecord.blank
     s.steady ∧ s.gateSegment 0 = none ∧ (s.gateOf 0).isSome = true) := by
  unfold State.steady GatesOk GateRec.ok wayIsClear clearanceNow; and_intros <;> decide +kernel

theorem test_met_GrantsBeginTravels :
    (loaded.steady ∧ loaded.gateOf 2 = none ∧ (loaded.gateOf 0).map (fun x => x.1.admission) = some .noAdmission) ∧
    ((gateAs askingGate).steady ∧ wayIsClear (gateAs askingGate) 0 (Machine.gateRow gateBytes) askingGate ∧
      ((gateAs askingGate).gateOf 0).map Prod.fst = some askingGate) ∧
    (let s := pinsAs askingGate { GatePins.low with safety := true }
     s.steady ∧ ¬ wayIsClear s 0 (Machine.gateRow gateBytes) askingGate) ∧
    (let g := { raisedGate with state := .lowered, order := .raise, admission := .requested }
     ((gateAs g).gateOf 0).map Prod.fst = some g ∧ GatesOk (gateAs g)) ∧
    ((gateAs runGate).power = true ∧ GatesOk (gateAs runGate) ∧ mapGet (gateAs runGate).drives.gates 0 = some runGate ∧
      GatesOk loaded ∧ (mapGet loaded.drives.gates 0).isSome = true) := by
  unfold State.steady GatesOk GateRec.ok wayIsClear clearanceNow; and_intros <;> decide +kernel

/-- A gate in RUN of a lowering drives its motor toward lowered with the brake released; a gate at rest does not (R119). -/
theorem test_outputs : (gateAs runGate).gateMotor 0 = some .lowering ∧ (gateAs runGate).gateBrakeApplied 0 = false ∧
    loaded.gateMotor 0 = none ∧ loaded.gateBrakeApplied 0 = true ∧ loaded.gateBrakeApplied 7 = true := by
  and_intros <;> decide +kernel

theorem test_met_EncoderEdgesMoveTheCount :
    let places := fun (a b : Bool) => (quadrature a b + 4 - quadrature false false) % 4
    ((gateAs runGate).steady ∧ GatesOk (gateAs runGate) ∧ ((gateAs runGate).gateOf 0).isSome = true) ∧
    (∀ n, n < 4 → n ∈ [places false false, places true true, places false true, places true false]) ∧
    GatesOk (gateAs { runGate with encoderErrors := 15 }) ∧ GatesOk (gateAs { runGate with encoderErrors := 14 }) ∧
    (GatesOk (gateAs { runGate with count := 999 }) ∧
      (1000 : Int) ≤ 999 + (if ((1 : Nat) == 1) != (Machine.gateRow gateBytes).reversed then 1 else -1)) ∧
    1 ≤ (Machine.gateRow gateBytes).settleTime ∧
    (let s := quickAs { runGate with count := 999 }
     s.steady ∧ GatesOk s ∧ s.room 1 ∧ (s.gateOf 0).map (fun x => x.2.settleTime) = some 0) ∧
    (let g := { runGate with state := .raising, order := .raise, count := -4 }
     GatesOk (gateAs g) ∧ (-4 : Int) + (-1) ≤ -((Machine.gateRow gateBytes).tolerance : Int)) := by
  unfold State.steady GatesOk GateRec.ok; intro places; and_intros <;> decide +kernel

theorem test_met_TravelsTimeOutEndAndReverse :
    let g := { runGate with phase := .start, phaseTimer := some 1005, stallTimer := none, travelTimer := none }
    let stop := { runGate with state := .stopping, phase := .noPhase, order := .raise, phaseTimer := some 1010
                               stallTimer := none, travelTimer := none, begun := false }
    let up := { settleGate with state := .raising, obstacleRaise := true, retries := 2, count := 0 }
    (loaded.steady ∧ GatesOk loaded ∧ loaded.gateOf 2 = none ∧ (loaded.gateOf 0).map (fun x => x.1.phase) = some .noPhase) ∧
    (GatesOk (gateAs g) ∧ ((gateAs g).gateOf 0).map Prod.fst = some g ∧ (gateAs g).room 1) ∧
    (GatesOk (gateAs runGate) ∧ ((gateAs runGate).gateOf 0).map Prod.fst = some runGate) ∧
    (GatesOk (gateAs settleGate) ∧ ((gateAs settleGate).gateOf 0).map Prod.fst = some settleGate ∧
      (settleGate.count - 1000).natAbs ≤ 5) ∧
    (GatesOk (gateAs { settleGate with count := 994 }) ∧ ((gateAs settleGate).gatePins 0).closedEnd = false ∧
      ¬ ((994 : Int) - 1000).natAbs ≤ 5) ∧
    (GatesOk (gateAs up) ∧ ((gateAs up).gateOf 0).map Prod.fst = some up ∧
      GatesOk (gateAs { up with retries := 1 }) ∧ GatesOk (gateAs { up with obstacleRaise := false })) ∧
    (GatesOk (gateAs stop) ∧ ((gateAs stop).gateOf 0).map Prod.fst = some stop ∧
      GatesOk (gateAs { stop with order := .lower }) ∧ GatesOk (gateAs { stop with order := .noOrder }) ∧
      GatesOk (gateAs { stop with order := .lower, obstacleRaise := true })) ∧
    (endReached (Machine.gateRow gateBytes) { GatePins.low with home := true } stop .raising ∧
      ¬ endReached (Machine.gateRow gateBytes) GatePins.low stop .raising ∧
      ¬ endReached (Machine.gateRow gateBytes) GatePins.low stop .lowering ∧
      endReached (Machine.gateRow gateBytes) { GatePins.low with closedEnd := true } stop .lowering) ∧
    (GatesOk (quickAs stop) ∧ ((quickAs stop).gateOf 0).map (fun x => (x.1, x.2.settleTime)) = some (stop, 0)) ∧
    (wayIsClear (gateAs stop) 0 (Machine.gateRow gateBytes) stop ∧
      ¬ wayIsClear (pinsAs stop { GatePins.low with safety := true }) 0 (Machine.gateRow gateBytes) stop) := by
  unfold State.steady State.room GatesOk GateRec.ok endReached wayIsClear clearanceNow
  intro g stop up; and_intros <;> decide +kernel

theorem test_met_SafetyEdgeAndPresenceAreWatched :
    let loop := fun (level : Bool) (since : Nat) (loopFault : Bool) =>
      some ({ level := level, since := since, lastHigh := 5, lastLow := 7, loopFault := loopFault } : Presence)
    let held := { raisedGate with state := .held, order := .lower }
    let high := { held with presence := loop true 800 false, vehicleTimer := some 1600 }
    (loaded.steady ∧ GatesOk loaded ∧ (loaded.gatePins 0).safety = false ∧ loaded.gateOf 2 = none ∧ loaded.room 1) ∧
    (GatesOk (gateAs runGate) ∧ ((gateAs runGate).gateOf 0).map Prod.fst = some runGate) ∧
    (let s := pinsAs held { GatePins.low with safety := true }
     GatesOk s ∧ (s.gatePins 0).safety = true ∧ clearanceNow s.now (Machine.gateRow gateBytes) held) ∧
    (GatesOk (gateAs high) ∧ ((gateAs high).gateOf 0).map Prod.fst = some high) ∧
    (GatesOk (gateAs { held with presence := loop true 800 true })) ∧
    (GatesOk (gateAs { held with presence := loop false 980 false })) ∧
    (GatesOk (gateAs { held with presence := none })) := by
  unfold State.steady State.room GatesOk GateRec.ok clearanceNow; intro loop held high; and_intros <;> decide +kernel

theorem test_met_GatesAreStoppedAndResumed :
    (loaded.ready ∧ loaded.room 2 ∧ loaded.drives.started = true ∧ 3 < (4 : Byte).toNat ∧ (3 : Byte).toNat ≤ 3 ∧
      loaded.gateOf (3 : Byte).toNat = none ∧ (loaded.gateOf 0).isSome = true) ∧
    (∀ o ∈ [GateOrder.noOrder, .lower, .raise],
      (((gateAs { raisedGate with state := .stopped, order := o }).gateOf 0).map fun x => (x.1.state, x.1.order)) =
        some (.stopped, o)) ∧
    GatesOk (gateAs { raisedGate with state := .fault, order := .raise, cause := .stall }) ∧
    endReached (Machine.gateRow gateBytes) (loaded.gatePins 0) raisedGate .raising ∧
    (let s := quickAs { raisedGate with state := .stopped, order := .raise }
     s.ready ∧ s.room 2 ∧ GatesOk s ∧ s.drives.started = true ∧
       (s.gateOf 0).map (fun x => x.2.settleTime) = some 0) ∧
    ¬ endReached (Machine.gateRow gateBytes) (loaded.gatePins 0) raisedGate .lowering ∧
    (∃ r ∈ (segmentAs .closing [(0, calm)] none none 2).segment 0, r.state = .closing) ∧
    (∀ r ∈ loaded.segment 0, r.claims = [] ∧ r.state ≠ .closing) := by
  unfold State.ready State.steady State.room GatesOk GateRec.ok endReached; and_intros <;> decide +kernel

theorem test_met_GatesComeAndGo :
    (loaded.steady ∧ GatesOk loaded) ∧ (mapGet loaded.drives.gates 2).isSome = true ∧ loaded.gateRow 2 = none ∧
    (loaded.gateRow 0).map GateRow.loopFitted = some true ∧
    (mapGet loaded.drives.gates 0).map GateRec.state ≠ some .unconfigured := by
  unfold State.steady GatesOk GateRec.ok; and_intros <;> decide +kernel

/-- `loaded` with gate 1's request queued behind gate 0's admission. -/
def waiting : State :=
  { loaded with
    allocator :=
      { loaded.allocator with
        admitted := [(0, 600)]
        queue := [{ gate := 1, direction := .lowering, draw := 600, urgent := true, time := 990, joined := 0 }]
        urgent := [0] } }

theorem test_met_SetBudgetStoresAndRecomputes :
    loaded.ready ∧ loaded.room 2 ∧ loaded.allocator.started = true ∧ (4000 : BitVec 16).toNat ≤ 4000 ∧
      4000 < (4001 : BitVec 16).toNat := by
  unfold State.ready State.steady State.room; and_intros <;> decide +kernel

theorem test_met_MotorCurrentIsGrantedInOrder :
    (waiting.steady ∧ QueueOk waiting ∧ waiting.active .gates = true ∧ waiting.allocator.gatesIn = true ∧
      waiting.active .segments = true) ∧
    (idle.steady ∧ QueueOk idle ∧ idle.active .gates = false ∧ idle.active .segments = false) ∧
    (let s := { loaded with allocator := { loaded.allocator with gatesIn := false } }
     s.steady ∧ QueueOk s ∧ s.active .gates = true ∧ s.allocator.gatesIn = false) ∧
    (∀ r ∈ [Region.gates, .segments], let s := waiting.hand (.budgetRegionNotice r false)
      s.steady ∧ s.active r = true ∧ .budgetRegionNotice r false ∈ s.handed ∧ QueueOk s) ∧
    waiting.handed = [] ∧
    ((waiting.allocator.queue.filter fun e => e.gate != 1).head? ≠ waiting.allocator.queue.head? ∧
      (waiting.allocator.queue.filter fun e => e.gate != 0).head? = waiting.allocator.queue.head?) := by
  unfold State.steady QueueOk; and_intros <;> decide +kernel

theorem test_met_LightLitSignsAndRegionsRecompute :
    (loaded.steady ∧ QueueOk loaded ∧ loaded.room 1 ∧ loaded.active .signs = true ∧ loaded.allocator.signsIn = true ∧
      (loaded.allocatorSignRow 0).isSome = true ∧ loaded.allocatorSignRow 2 = none) ∧
    (let s := { loaded with allocator := { loaded.allocator with signsIn := false, gatesIn := false } }
     s.steady ∧ QueueOk s ∧ s.active .signs = true) ∧
    (∀ r ∈ [Region.signs, .gates, .segments], let s := loaded.hand (.budgetRegionNotice r false)
      s.steady ∧ QueueOk s ∧ s.active r = true ∧ .budgetRegionNotice r false ∈ s.handed) ∧ loaded.handed = [] ∧
    loaded.store.site.light ≠ some 0 ∧
    (let s := { loaded with
       store := { loaded.store with site := { loaded.store.site with lightChannel := 0, lightStep := 100 } } }
     s.steady ∧ s.store.site.light = some 0 ∧ (s.reference .channels 0).isSome = true ∧
       (min 7 (1 + max (150 : Int) 0 / (s.store.site.lightStep.toNat : Int))).toNat ≠ s.allocator.requested ∧
       (min 7 (1 + max (650 : Int) 0 / (s.store.site.lightStep.toNat : Int))).toNat = s.allocator.requested) := by
  unfold State.steady State.room QueueOk; and_intros <;> decide +kernel

/-- A sign that waits for a report. -/
def awaitingSign (attempts : Nat) (mismatch nextPending : Bool) : SignRec :=
  { SignRec.built 7 with
    phase := .awaiting, attempts := attempts, mismatch := mismatch, nextPending := nextPending, reply := some 1015
    token := 9, desired := { (SignRec.built 7).published with face := if nextPending then 60 else 0 } }

/-- A sign that waits for space. -/
def heldSign : SignRec := { SignRec.built 7 with phase := .held, attempts := 1 }

/-- `loaded` with sign 0 on port S's hold list, and a number of frames waiting there. -/
def holding (n : Nat) : State := ((signAs heldSign).withHold .s [0]).withPort .s (busyPort n)

theorem test_met_NoticesActAtTheSigns :
    (loaded.steady ∧ SignsOk loaded ∧ loaded.sign 2 = none ∧ (loaded.sign 0).isSome = true ∧
      (loaded.signRow 0).isSome = true) ∧
    (mapGet loaded.publisher.segmentView 1 = none ∧ (mapGet loaded.publisher.segmentView 0).isSome = true) ∧
    (SignsOk (signAs (awaitingSign 1 false false)) ∧ SignsOk (holding 0)) ∧
    ((holding 7).takesAt .s ∧ ¬ (holding 8).takesAt .s ∧ State.reset.takesAt .v) := by
  unfold State.steady SignsOk SignRec.ok State.takesAt; and_intros <;> decide +kernel

theorem test_met_ForcedFacesComeFirst :
    (loaded.ready ∧ SignsOk loaded ∧ loaded.publisher.started = true ∧ loaded.room 2) ∧
    (23 < (24 : Byte).toNat ∧ (23 : Byte).toNat ≤ 23 ∧ loaded.sign (23 : Byte).toNat = none ∧
      (loaded.sign 0).map SignRec.forced = some none ∧ (loaded.signRow 0).isSome = true) ∧
    (let s := signAs { idleSign with forced := some (9, 1500) }
     s.ready ∧ SignsOk s ∧ (s.sign 0).map SignRec.forced = some (some (9, 1500))) := by
  unfold State.ready State.steady State.room SignsOk SignRec.ok; and_intros <;> decide +kernel

/-- A cancellation where no face is forced changes nothing but port V's queue, also where the sign's segment is gone and
its winner would change (R156). -/
theorem test_force_face_cancels_nothing :
    let s := (signAs { idleSign with winner := { SignRec.built 7 |>.winner with kind := .advisory, face := 12 } }).hand
      (.signerSegmentsNotice false)
    (after (.forceFace 5 0 9 0) s).publisher = s.publisher ∧ (after (.forceFace 5 0 9 0) s).handed = s.handed := by
  and_intros <;> decide +kernel

/-- Sign 0 is the only sign at its line address. -/
theorem loaded_sign_row : ∀ h, h < 24 → ∀ row ∈ loaded.signRow h, row.address = 100 → h = 0 := by
  have all : ∀ h, h < 24 → (loaded.signRow h).all (fun row => !(row.address == 100) || h == 0) = true := by
    decide +kernel
  intro h k row m a
  have := all h k
  rw [Option.mem_def.mp m] at this
  simpa [a] using this

theorem test_met_AttemptsAreDecided :
    (∀ n ∈ [1, 2, 3], ∀ b ∈ [true, false], ∀ c ∈ [true, false], SignsOk (signAs (awaitingSign n b c))) ∧
    (∀ n ∈ [1, 2, 3], ∀ b ∈ [true, false], ∀ c ∈ [true, false],
      let s := signAs (awaitingSign n b c)
      s.steady ∧ s.room 2 ∧ (s.sign 0).map SignRec.phase = some .awaiting ∧ sweepElsewhere s 0) ∧
    (loaded.steady ∧ SignsOk loaded ∧ loaded.publisher.started = true ∧ loaded.sign 23 = none ∧
      (loaded.sign 0).map (fun r => (r.reply, r.republish)) = some (none, some 9000) ∧
      (loaded.signRow 0).map SignRow.address = some (arrivalOf 100 1022 [9, 0, 0, 0]).source.toNat) ∧
    (parseFaceReport [9, 0, 7, 3]).isSome = true ∧ (parseFaceReport [9, 0, 8, 0]).isNone = true ∧
    (parseFaceReport [9, 0, 0, 4]).isNone = true ∧ (parseFaceReport [9, 0, 0]).isNone = true ∧
    (parseFaceReport [9, 0, 0, 0]).map (fun f => (f.token, f.face, f.level)) = some (9, 0, 0) := by
  unfold State.steady State.room SignsOk SignRec.ok sweepElsewhere; and_intros <;> decide +kernel

/-- `loaded` with a sweep at sign 0, one of whose attempts waits for its report. -/
def sweeping (attempts : Nat) (own : Bool) (signs : List Nat) : State :=
  (signAs (awaitingSign attempts false false)).withSweep (some { signs := signs, position := 0, tag := 66, own := own })

theorem test_met_HoldListsAndSweepsGoInOrder :
    ((holding 7).steady ∧ SignsOk (holding 7) ∧ (holding 7).publisher.hold .s = [0] ∧
      (∀ g ∈ (holding 7).publisher.hold .s, ∃ row ∈ (holding 7).signRow g, row.port = .s)) ∧
    (loaded.ready ∧ loaded.publisher.started = true ∧ loaded.publisher.sweep = none ∧ loaded.active .signs = true ∧
      idle.active .signs = false) ∧
    (23 < (24 : Byte).toNat ∧ ¬ 23 < (23 : Byte).toNat ∧ 24 < (List.replicate 25 (0 : Byte)).length ∧
      loaded.sign (23 : Byte).toNat = none) ∧
    (∀ n ∈ [1, 2, 3], ∀ own ∈ [true, false], ∀ l ∈ [[0], [0, 1], [0, 0], [0, 5]], SignsOk (sweeping n own l)) ∧
    (∀ n ∈ [1, 2, 3], ∀ own ∈ [true, false], ∀ l ∈ [[0], [0, 1], [0, 0], [0, 5]],
      (sweeping n own l).ready ∧ (sweeping n own l).room 3 ∧
      ((sweeping n own l).sign 0).map (fun r => (r.phase, r.attempts, r.token, r.published.face, r.published.level)) =
        some (.awaiting, n, 9, 0, 0)) ∧
    ([[9, 0, 0, 0], [9, 1, 0, 0]].map fun l => (parseFaceReport l).map fun f => (f.token, f.face, f.level)) =
      [some (9, 0, 0), some (9, 1, 0)] ∧
    ((sweeping 3 true [0, 1]).sign 1).map SignRec.phase = some .idle ∧ (sweeping 3 true [0, 5]).sign 5 = none := by
  unfold State.ready State.steady State.room SignsOk SignRec.ok; and_intros <;> decide +kernel

theorem test_met_SignsComeAndGo :
    loaded.steady ∧ SignsOk loaded ∧ loaded.active .signs = true ∧ idle.active .signs = false ∧ idle.steady ∧
    SignsOk idle ∧ ((sweeping 3 true [0, 1]).steady ∧ (sweeping 3 true [0, 1]).room 1 ∧
      (sweeping 3 true [0, 1]).publisher.sweep.isSome = true) ∧
    (let s := { loaded with publisher := { loaded.publisher with started := false } }
     s.steady ∧ SignsOk s ∧ s.publisher.started = false) := by
  unfold State.steady State.room SignsOk SignRec.ok; and_intros <;> decide +kernel

theorem test_met_QueriesAnswerTheRecords :
    loaded.ready ∧ (63 < (64 : Byte).toNat ∧ 15 < (16 : Byte).toNat ∧ 3 < (4 : Byte).toNat ∧ 23 < (24 : Byte).toNat ∧
      7 < (8 : Byte).toNat ∧ 50 < (51 : Byte).toNat) ∧
    ((mapGet loaded.intake.channels 0).isSome = true ∧ mapGet loaded.intake.channels 63 = none ∧
      (mapGet loaded.monitor.paths 0).isSome = true ∧ mapGet loaded.monitor.paths 15 = none ∧
      (loaded.gateOf 0).isSome = true ∧ loaded.gateOf 3 = none ∧ (mapGet loaded.publisher.signs 0).isSome = true ∧
      mapGet loaded.publisher.signs 23 = none ∧ (mapGet loaded.sequencer.segments 0).isSome = true ∧
      mapGet loaded.sequencer.segments 7 = none) ∧
    (segmentAs .closed ((List.range 17).map fun n => (n, calm)) none none 2).ready := by
  unfold State.ready State.steady; and_intros <;> decide +kernel

end Sys2Proof.Tests
end

section
/-!
SUPPORT. The line's invariant `LineOk`, one lemma for each operation of the Line Switch: what is kept at one port, and
what a selection restores.
-/

namespace Sys2Proof.Machine

/-! ### One port -/

/-- A port within its bounds whose marked REPLY, if it holds one, belongs to a pending restart at port V (R174). -/
def PortKept (r : Responder) (p : Port) (q : PortState) : Prop :=
  q.ok ∧ ∀ l ∈ q.locals, l.restartReply = true → p = .v ∧ r.restartPending = true

/-- An idle transmitter has nothing to send, but for port V while a restart is to be taken first (R11, R12). -/
def PortRests (r : Responder) (p : Port) (q : PortState) : Prop :=
  q.busy = none → (p = .v → r.releasing = false) → q.localQ = [] ∧ q.forwardQ = []

/-- The invariant of the line with the idle transmitters at rest at some ports only: between the change of a queue and
the selection that follows it, the port at work is left out. -/
structure LineKept (rests : Port → Prop) (s : State) : Prop where
  kept : ∀ p, PortKept s.responder p (s.line.port p)
  idle : ∀ p, rests p → PortRests s.responder p (s.line.port p)
  timer : s.line.lineState = .connected ↔ s.line.silence.isSome = true
  marked : s.responder.releasing = true → s.responder.restartPending = true

theorem lineOk_iff (s : State) : LineOk s ↔ LineKept (fun _ => True) s := by
  constructor
  · rintro ⟨okV, okS, timer, restS, restV, marked, ownV, ownS⟩
    refine ⟨fun p => ?_, fun p _ => ?_, timer, marked⟩
    · cases p
      · exact ⟨okV, fun l hl e => ⟨rfl, ownV l hl e⟩⟩
      · refine ⟨okS, fun l hl e => ?_⟩
        rw [ownS l hl] at e
        cases e
    · cases p
      · exact fun b r => restV b (r rfl)
      · exact fun b _ => restS b
  · rintro ⟨kept, idle, timer, marked⟩
    refine ⟨(kept .v).1, (kept .s).1, timer, fun b => idle .s trivial b (fun e => nomatch e),
      fun b r => idle .v trivial b fun _ => r, marked, fun l hl e => ((kept .v).2 l hl e).2, fun l hl => ?_⟩
    cases e : l.restartReply
    · rfl
    · exact nomatch ((kept .s).2 l hl e).1

theorem lineKept_mono {A B : Port → Prop} {s : State} (h : LineKept A s) (k : ∀ p, B p → A p) : LineKept B s :=
  ⟨h.kept, fun p hp => h.idle p (k p hp), h.timer, h.marked⟩

/-- The invariant speaks of the Line Switch and the Responder only. -/
theorem lineKept_congr {A : Port → Prop} {s t : State} (hl : t.line = s.line) (hr : t.responder = s.responder)
    (h : LineKept A s) : LineKept A t :=
  ⟨by rw [hr, hl]; exact h.kept, by rw [hr, hl]; exact h.idle, by rw [hl]; exact h.timer, by rw [hr]; exact h.marked⟩

/-- Nor does it speak of what the blocks were told (log 8). -/
theorem lineKept_withLine {A : Port → Prop} {s : State} {l : LineSwitch} (h : LineKept A s)
    (ports : ∀ p, l.port p = s.line.port p) (timer : l.lineState = .connected ↔ l.silence.isSome = true) :
    LineKept A (s.withLine l) :=
  ⟨fun p => by simpa [ports p] using h.kept p, fun p hp => by simpa [ports p] using h.idle p hp, timer, h.marked⟩

theorem lineKept_give {A : Port → Prop} {s : State} (gs : List Given) (h : LineKept A s) : LineKept A (s.give gs) := by
  unfold State.give
  split
  · exact h
  · exact lineKept_withLine h (fun p => by cases p <;> rfl) h.timer

theorem port_eq_or_opposite (p q : Port) : q = p ∨ q = opposite p := by cases p <;> cases q <;> simp [opposite]

theorem port_setPort_of_ne (l : LineSwitch) {p x : Port} (q : PortState) (h : x ≠ p) :
    (l.setPort p q).port x = l.port x := by
  obtain rfl := (port_eq_or_opposite p x).resolve_left h
  cases p <;> rfl

/-- A port replaced by one that is kept: the others rest as they did. -/
theorem lineKept_withPort {A : Port → Prop} {s : State} {p : Port} {q : PortState} (h : LineKept A s)
    (k : PortKept s.responder p q) : LineKept (fun x => A x ∧ x ≠ p) (s.withPort p q) := by
  refine ⟨fun x => ?_, fun x hx => ?_, by simpa [State.withPort] using h.timer, h.marked⟩
  · by_cases e : x = p
    · subst e; simpa [State.withPort] using k
    · simpa [State.withPort, port_setPort_of_ne _ _ e] using h.kept x
  · simpa [State.withPort, port_setPort_of_ne _ _ hx.2] using h.idle x hx.1

/-- One more port known to be at rest. -/
theorem lineKept_of_rests {A : Port → Prop} {s : State} {p : Port} (h : LineKept (fun x => A x ∧ x ≠ p) s)
    (k : PortRests s.responder p (s.line.port p)) : LineKept A s := by
  refine ⟨h.kept, fun x hx => ?_, h.timer, h.marked⟩
  by_cases e : x = p
  · subst e; exact k
  · exact h.idle x ⟨hx, e⟩

/-- The answer to an offer told. -/
theorem lineKept_answered {A : Port → Prop} {s : State} {p : Port} {q : PortState} {a : Option (Port × OfferAnswer)}
    (h : LineKept A (s.withPort p q)) : LineKept A (s.withLine { s.line.setPort p q with answer := a }) :=
  lineKept_withLine (s := s.withPort p q) h (fun x => by cases x <;> rfl) h.timer

/-! ### The frames a port holds -/

/-- The frame a transmitter sends. -/
def sendingFrames : Option Sending → List Frame
  | none => []
  | some (.own l) => [l.frame]
  | some (.passing f) => [f]

theorem PortState.frames_eq (q : PortState) :
    q.frames = sendingFrames q.busy ++ q.localQ.map LocalFrame.frame ++ q.forwardQ := by
  unfold PortState.frames sendingFrames
  rcases q.busy with _ | _ | _ <;> rfl

theorem allSealed_append (a b : List Frame) : allSealed (a ++ b) ↔ allSealed a ∧ allSealed b := by
  simp only [allSealed, List.mem_append]
  exact ⟨fun h => ⟨fun f hf => h f (.inl hf), fun f hf => h f (.inr hf)⟩, fun h f hf => hf.elim (h.1 f) (h.2 f)⟩

theorem allSealed_cons (f : Frame) (l : List Frame) :
    allSealed (f :: l) ↔ f.check = lineCheck f.body ∧ allSealed l := by
  simp [allSealed]

@[simp] theorem allSealed_nil : allSealed [] := by simp [allSealed]

/-- A sealed frame's check is the one of its header and payload, which the seal does not change (R3). -/
@[simp] theorem Frame.check_sealed (f : Frame) : f.sealed.check = lineCheck f.sealed.body := rfl

/-- What the bounds of a port say, its frames taken apart. -/
theorem PortState.ok_iff (q : PortState) :
    q.ok ↔ (q.forwardQ.length ≤ 16 ∧ q.localQ.length ≤ 8 ∧ q.streak ≤ 4) ∧
      (q.badFrames ≤ 65535 ∧ q.overflow ≤ 65535 ∧ q.reportLoss ≤ 65535 ∧ q.forwarded ≤ 65535) ∧
      (q.up = false → q.forwardQ = [] ∧ q.localQ = [] ∧ q.busy = none ∧ q.streak = 0) ∧
      allSealed (sendingFrames q.busy) ∧ allSealed (q.localQ.map LocalFrame.frame) ∧ allSealed q.forwardQ := by
  unfold PortState.ok
  rw [PortState.frames_eq, allSealed_append, allSealed_append]
  tauto

/-! ### Operations on one port -/

section
variable {r : Responder} {p : Port} {q : PortState} (h : PortKept r p q)
include h

/-- A local frame joins the tail of the queue of a port that is UP and has a free place. -/
theorem portKept_enqueue {l : LocalFrame} (up : q.up = true) (room : q.localQ.length < Config.localPlaces)
    (sealed : l.frame.check = lineCheck l.frame.body)
    (own : l.restartReply = true → p = .v ∧ r.restartPending = true) :
    PortKept r p { q with localQ := q.localQ ++ [l] } := by
  obtain ⟨ok, marks⟩ := h
  obtain ⟨⟨hf, hl, hs⟩, counts, -, busy, locals, forwards⟩ := q.ok_iff.mp ok
  refine ⟨(PortState.ok_iff _).mpr ⟨⟨hf, ?_, hs⟩, counts, fun d => ?_, busy, ?_, forwards⟩, fun x hx e => ?_⟩
  · simp only [Config.localPlaces] at room
    simp only [List.length_append, List.length_singleton]
    omega
  · exact absurd d (by simp [up])
  · simpa [allSealed_append, allSealed_cons] using ⟨locals, sealed⟩
  · simp only [PortState.locals, ← List.append_assoc, List.mem_append, List.mem_singleton] at hx
    rcases hx with hx | rfl
    · exact marks x (by simpa [PortState.locals] using hx) e
    · exact own e

/-- A frame joins the tail of the forward queue of a port that is UP and has a free place. -/
theorem portKept_forward {f : Frame} (up : q.up = true) (room : q.forwardQ.length < Config.forwardPlaces)
    (sealed : f.check = lineCheck f.body) : PortKept r p { q with forwardQ := q.forwardQ ++ [f] } := by
  obtain ⟨ok, marks⟩ := h
  obtain ⟨⟨hf, hl, hs⟩, counts, -, busy, locals, forwards⟩ := q.ok_iff.mp ok
  refine ⟨(PortState.ok_iff _).mpr ⟨⟨?_, hl, hs⟩, counts, fun d => ?_, busy, locals, ?_⟩, marks⟩
  · simp only [Config.forwardPlaces] at room
    simp only [List.length_append, List.length_singleton]
    omega
  · exact absurd d (by simp [up])
  · simpa [allSealed_append, allSealed_cons] using ⟨forwards, sealed⟩

/-- Counters that stop at their greatest value. -/
theorem portKept_count {a b c d : Nat} (ha : a ≤ 65535) (hb : b ≤ 65535) (hc : c ≤ 65535) (hd : d ≤ 65535) :
    PortKept r p { q with badFrames := a, overflow := b, reportLoss := c, forwarded := d } := by
  obtain ⟨ok, marks⟩ := h
  obtain ⟨bounds, -, down, frames⟩ := q.ok_iff.mp ok
  exact ⟨(PortState.ok_iff _).mpr ⟨bounds, ⟨ha, hb, hc, hd⟩, down, frames⟩, marks⟩

/-- The counters of a kept port. -/
theorem portKept_counters :
    q.badFrames ≤ 65535 ∧ q.overflow ≤ 65535 ∧ q.reportLoss ≤ 65535 ∧ q.forwarded ≤ 65535 := (q.ok_iff.mp h.1).2.1

/-- A transmission that stops. -/
theorem portKept_idle : PortKept r p { q with busy := none } := by
  obtain ⟨ok, marks⟩ := h
  obtain ⟨bounds, counts, down, -, frames⟩ := q.ok_iff.mp ok
  refine ⟨(PortState.ok_iff _).mpr ⟨bounds, counts, fun d => ?_, allSealed_nil, frames⟩, fun l hl => marks l ?_⟩
  · obtain ⟨a, b, -, c⟩ := down d
    exact ⟨a, b, rfl, c⟩
  · exact List.mem_append_right _ hl

/-- A port emptied, its link as it may be (R1). -/
theorem portKept_emptied (up : Bool) :
    PortKept r p { q with up := up, forwardQ := [], localQ := [], busy := none, streak := 0 } := by
  obtain ⟨-, counts, -⟩ := q.ok_iff.mp h.1
  exact ⟨(PortState.ok_iff _).mpr ⟨by simp, counts, by simp [sendingFrames]⟩, by simp [PortState.locals, sendingLocal]⟩

/-- A port at the restart holds no marked REPLY (R19). -/
theorem portKept_restart (x : Responder) : PortKept x p (restartPort q) := by
  obtain ⟨ok, -⟩ := h
  obtain ⟨-, -, down, busy, -⟩ := q.ok_iff.mp ok
  refine ⟨(PortState.ok_iff _).mpr
    ⟨by simp [restartPort], by simp [restartPort], fun d => ?_, ?_, by simp [restartPort]⟩,
    fun l hl e => ?_⟩
  · obtain ⟨-, -, b, -⟩ := down d
    simp [restartPort, b, unmarked]
  · rcases b : q.busy with _ | l | f
    · simp [restartPort, unmarked, sendingFrames, b]
    · simpa [restartPort, unmarked, sendingFrames, b] using busy
    · simpa [restartPort, unmarked, sendingFrames, b] using busy
  · rcases b : q.busy with _ | m | f <;> simp [PortState.locals, restartPort, unmarked, sendingLocal, b] at hl
    subst hl
    cases e

/-- What a selection makes of a kept port: it is kept, and sends. -/
theorem portKept_choose {x : Sending} {q' : PortState} (up : q.up = true) (e : chooseFrame q = some (x, q')) :
    PortKept r p q' ∧ q'.busy = some x := by
  obtain ⟨ok, marks⟩ := h
  obtain ⟨⟨hf, hl, hs⟩, counts, -, -, locals, forwards⟩ := q.ok_iff.mp ok
  have own : ∀ l ∈ q.localQ, l.restartReply = true → p = .v ∧ r.restartPending = true :=
    fun l hl => marks l (List.mem_append_right _ hl)
  have down : ¬ q.up = false := by simp [up]
  have build : ∀ {ls : List LocalFrame} {fs : List Frame} {n : Nat}, fs.length ≤ 16 → ls.length ≤ 8 → n ≤ 4 →
      allSealed (sendingFrames (some x)) → allSealed (ls.map LocalFrame.frame) → allSealed fs →
      (∀ l ∈ sendingLocal (some x) ++ ls, l.restartReply = true → p = .v ∧ r.restartPending = true) →
      PortKept r p { q with localQ := ls, forwardQ := fs, busy := some x, streak := n } :=
    fun a b c d f g m => ⟨(PortState.ok_iff _).mpr ⟨⟨a, b, c⟩, counts, fun u => absurd u down, d, f, g⟩, m⟩
  unfold chooseFrame at e
  split at e
  · cases e
  · next l ls hq hF =>
    cases e
    rw [hq] at hl locals own
    obtain ⟨sl, sls⟩ := (allSealed_cons ..).mp locals
    refine ⟨?_, rfl⟩
    have := build (fs := q.forwardQ) (ls := ls) (n := 0) (by omega) (by simp at hl; omega) (by omega)
      ((allSealed_cons ..).mpr ⟨sl, allSealed_nil⟩) sls forwards (by simpa [sendingLocal] using own)
    exact this
  · next f fs hq hF =>
    cases e
    rw [hF] at hf forwards
    obtain ⟨sf, sfs⟩ := (allSealed_cons ..).mp forwards
    refine ⟨?_, rfl⟩
    have := build (fs := fs) (ls := q.localQ) (n := 0) (by simp at hf; omega) hl (by omega)
      ((allSealed_cons ..).mpr ⟨sf, allSealed_nil⟩) locals sfs (by simpa [sendingLocal] using own)
    exact this
  · next l ls f fs hq hF =>
    split at e
    · next lt =>
      cases e
      rw [hq] at hl locals own
      obtain ⟨sl, sls⟩ := (allSealed_cons ..).mp locals
      refine ⟨?_, rfl⟩
      simp only [Config.streakLimit] at lt
      have := build (fs := q.forwardQ) (ls := ls) (n := q.streak + 1) (by omega) (by simp at hl; omega) (by omega)
        ((allSealed_cons ..).mpr ⟨sl, allSealed_nil⟩) sls forwards (by simpa [sendingLocal] using own)
      exact this
    · cases e
      rw [hF] at hf forwards
      obtain ⟨sf, sfs⟩ := (allSealed_cons ..).mp forwards
      refine ⟨?_, rfl⟩
      have := build (fs := fs) (ls := q.localQ) (n := 0) (by simp at hf; omega) hl (by omega)
        ((allSealed_cons ..).mpr ⟨sf, allSealed_nil⟩) locals sfs (by simpa [sendingLocal] using own)
      exact this

end

theorem chooseFrame_eq_none {q : PortState} (h : chooseFrame q = none) : q.localQ = [] ∧ q.forwardQ = [] := by
  unfold chooseFrame at h
  split at h
  · next a b => exact ⟨a, b⟩
  · cases h
  · cases h
  · split at h <;> cases h

/-! ### Selections, releases and offers -/

/-- A transmitter that makes no selection is DOWN, busy, or port V's that waits for a restart (R12). -/
theorem State.selects_eq_true {s : State} {p : Port} :
    s.selects p = true ↔ (s.line.port p).up = true ∧ (s.line.port p).busy = none ∧
      (p = .v → s.responder.releasing = false) := by
  unfold State.selects
  cases p <;> simp [and_assoc]

/-- A selection puts the port at work to rest again. -/
theorem lineKept_select {A : Port → Prop} {s : State} {p : Port} (h : LineKept (fun x => A x ∧ x ≠ p) s) :
    LineKept A (select p s) := by
  obtain ⟨ok, -⟩ := h.kept p
  obtain ⟨-, -, down, -⟩ := (PortState.ok_iff _).mp ok
  unfold select
  split
  · next sel =>
    obtain ⟨up, -, -⟩ := State.selects_eq_true.mp sel
    have sent : ∀ {x q}, chooseFrame (s.line.port p) = some (x, q) → LineKept A (s.withPort p q) := by
      intro x q e
      obtain ⟨k, b⟩ := portKept_choose (h.kept p) up e
      refine lineKept_of_rests (lineKept_mono (lineKept_withPort h k) fun x hx => ⟨hx, hx.2⟩) fun n => ?_
      simp [State.withPort, b] at n
    split
    · next e => exact lineKept_of_rests h fun _ _ => chooseFrame_eq_none e
    · next q e => exact lineKept_congr (s := s.withPort p q) rfl rfl (sent e)
    · next e => exact sent e
  · next sel =>
    refine lineKept_of_rests h fun b r => ?_
    cases u : (s.line.port p).up
    · obtain ⟨f, l, -⟩ := down u
      exact ⟨l, f⟩
    · exact absurd (State.selects_eq_true.mpr ⟨u, b, r⟩) sel

/-- A release leaves port V to wait, and belongs to a pending restart. -/
theorem lineKept_releaseRestart {A : Port → Prop} {s : State} (h : LineKept A s)
    (pending : s.responder.restartPending = true) : LineKept A (releaseRestart s) :=
  ⟨h.kept, fun p hp b r => h.idle p hp b fun e => absurd (r e)
      (by simp [releaseRestart, State.handFirst, State.withHanded, State.withResponder]), h.timer,
    fun _ => pending⟩

/-- A port that has answered FULL: a FACE SET is not counted as a report loss (R10, R17). -/
def lossCounted (f : Frame) (q : PortState) : PortState :=
  if isFaceSet f then q else { q with reportLoss := saturate Config.counterMax (q.reportLoss + 1) }

section
variable {p : Port} {l : LocalFrame} {s : State}

/-- A frame offered to a port that is DOWN is accepted and lost. -/
theorem offer_of_down (down : (s.line.port p).up = false) :
    offer p l s =
      (let t := s.withLine { s.line with
          answer := some (p, .accepted), outcomes := [{ port := p, frame := l.frame, outcome := .lost }] }
       if l.restartReply then releaseRestart t else t, .accepted) := by
  unfold offer
  simp only [down, if_true]
  rfl

/-- A port with a free place queues the frame and selects. -/
theorem offer_of_room (up : (s.line.port p).up = true) (room : (s.line.port p).localQ.length < Config.localPlaces) :
    offer p l s =
      (select p (s.withLine
        { s.line.setPort p { s.line.port p with localQ := (s.line.port p).localQ ++ [l] } with
          answer := some (p, .accepted) }), .accepted) := by
  unfold offer
  simp only [up, room, if_true]
  rfl

/-- A full port refuses the frame. -/
theorem offer_of_full (up : (s.line.port p).up = true) (full : Config.localPlaces ≤ (s.line.port p).localQ.length) :
    offer p l s =
      (let t := s.withLine
          { s.line.setPort p (lossCounted l.frame (s.line.port p)) with answer := some (p, .full) }
       if l.restartReply then releaseRestart t else t, .full) := by
  unfold offer
  dsimp only
  rw [if_neg (by simp [up]), if_neg (Nat.not_lt.mpr full)]
  rfl

/-- An offer is answered in one of three ways. -/
theorem offer_cases (p : Port) (s : State) :
    (s.line.port p).up = false ∨
      (s.line.port p).up = true ∧ (s.line.port p).localQ.length < Config.localPlaces ∨
      (s.line.port p).up = true ∧ Config.localPlaces ≤ (s.line.port p).localQ.length := by
  cases (s.line.port p).up
  · exact .inl rfl
  · exact .inr ((Nat.lt_or_ge _ _).imp (.intro rfl) (.intro rfl))

/-- An offer of a frame with a correct check keeps the invariant; a marked REPLY only of a pending restart, and only at
port V. -/
theorem lineOk_offer (h : LineOk s) (sealed : l.frame.check = lineCheck l.frame.body)
    (own : l.restartReply = true → p = .v ∧ s.responder.restartPending = true) : LineOk (offer p l s).1 := by
  rw [lineOk_iff] at *
  have k := h.kept p
  rcases offer_cases p s with down | ⟨up, room⟩ | ⟨up, full⟩
  · rw [offer_of_down down]
    have lost : LineKept (fun _ => True) (s.withLine { s.line with
        answer := some (p, .accepted), outcomes := [{ port := p, frame := l.frame, outcome := .lost }] }) :=
      lineKept_withLine h (fun x => by cases x <;> rfl) h.timer
    dsimp only
    split
    · next m => exact lineKept_releaseRestart lost (own m).2
    · exact lost
  · rw [offer_of_room up room]
    exact lineKept_select (lineKept_answered (lineKept_withPort h (portKept_enqueue k up room sealed own)))
  · rw [offer_of_full up full]
    obtain ⟨a, b, c, d⟩ := portKept_counters k
    have counted : LineKept (fun _ => True) (s.withPort p (lossCounted l.frame (s.line.port p))) := by
      unfold lossCounted
      refine lineKept_of_rests (p := p) (lineKept_withPort h ?_) ?_
      · split
        · exact k
        · exact portKept_count k a b (saturate_le ..) d
      · rw [State.withPort, State.withLine_line, LineSwitch.port_setPort]
        split
        · exact h.idle p trivial
        · exact h.idle p trivial
    dsimp only
    split
    · next m => exact lineKept_releaseRestart (lineKept_answered counted) (own m).2
    · exact lineKept_answered counted

end

end Sys2Proof.Machine
end

section
/-!
SUPPORT. What a command of a job can do to the part: operations of its block, which change the block's own record, hand
events on and ask for reports, and offers of frames that the part composes. `Offers` is the closure of the two; whatever
an offer keeps, a command of a job keeps.
-/

namespace Sys2Proof.Machine

/-! ### Events that the jobs hand on are no requests (R169) -/

@[simp] theorem waitsFor_orderEvent (k o) : waitsFor (.orderEvent k o) = none := rfl
@[simp] theorem waitsFor_segmentNotice (g st v) : waitsFor (.segmentNotice g st v) = none := rfl
@[simp] theorem waitsFor_urgencyNotice (g u) : waitsFor (.urgencyNotice g u) = none := rfl
@[simp] theorem waitsFor_gateStateNotice (k) : waitsFor (.gateStateNotice k) = none := rfl
@[simp] theorem waitsFor_admissionRequest (k d n) : waitsFor (.admissionRequest k d n) = none := rfl
@[simp] theorem waitsFor_requestWithdrawn (k) : waitsFor (.requestWithdrawn k) = none := rfl
@[simp] theorem waitsFor_handBack (k) : waitsFor (.handBack k) = none := rfl
@[simp] theorem waitsFor_gatesBuiltNotice : waitsFor (.gatesBuiltNotice) = none := rfl
@[simp] theorem waitsFor_channelUpdate (u) : waitsFor (.channelUpdate u) = none := rfl
@[simp] theorem waitsFor_lightChannelChange (c st v) : waitsFor (.lightChannelChange c st v) = none := rfl
@[simp] theorem waitsFor_gradeEvent (g n a) : waitsFor (.gradeEvent g n a) = none := rfl
@[simp] theorem waitsFor_gradeNotice (g n) : waitsFor (.gradeNotice g n) = none := rfl
@[simp] theorem waitsFor_warningNotice (p w m) : waitsFor (.warningNotice p w m) = none := rfl
@[simp] theorem waitsFor_claimPlacement (c u m) : waitsFor (.claimPlacement c u m) = none := rfl
@[simp] theorem waitsFor_claimRemoval (c m) : waitsFor (.claimRemoval c m) = none := rfl
@[simp] theorem waitsFor_grantNotice (g l) : waitsFor (.grantNotice g l) = none := rfl
@[simp] theorem waitsFor_grant (k d) : waitsFor (.grant k d) = none := rfl
@[simp] theorem waitsFor_budgetRegionNotice (r e) : waitsFor (.budgetRegionNotice r e) = none := rfl
@[simp] theorem waitsFor_litNotice (g l) : waitsFor (.litNotice g l) = none := rfl
@[simp] theorem waitsFor_confirmationNotice (g f) : waitsFor (.confirmationNotice g f) = none := rfl
@[simp] theorem waitsFor_spaceSignal (p) : waitsFor (.spaceSignal p) = none := rfl

theorem noRequest_map {α : Type} {l : List α} {f : α → Instr} (k : ∀ a, waitsFor (f a) = none) :
    ∀ e ∈ l.map f, waitsFor e = none := by
  intro e he
  obtain ⟨a, _, rfl⟩ := List.mem_map.mp he
  exact k a

theorem noRequest_append {l m : List Instr} (h : ∀ e ∈ l, waitsFor e = none) (k : ∀ e ∈ m, waitsFor e = none) :
    ∀ e ∈ l ++ m, waitsFor e = none := fun e he => (List.mem_append.mp he).elim (h e) (k e)

theorem noRequest_flatMap {α : Type} {l : List α} {f : α → List Instr} (k : ∀ a, ∀ e ∈ f a, waitsFor e = none) :
    ∀ e ∈ l.flatMap f, waitsFor e = none := by
  intro e he
  obtain ⟨a, _, ha⟩ := List.mem_flatMap.mp he
  exact k a e ha

/-! ### What one block leaves of the others -/

/-- A change of the traffic alone is a change of any block. -/
theorem leavesOthers_of_traffic {b : Touched} {s t : State} (h : t = s.withTraffic t) : leavesOthers b s t := by
  unfold leavesOthers
  cases b
  case whole => exact trivial
  all_goals rw [h]; rfl

theorem leavesOthers_trans {b : Touched} {s t u : State} (h : leavesOthers b s t) (k : leavesOthers b t u) :
    leavesOthers b s u := by
  unfold leavesOthers at *
  cases b
  case whole => exact trivial
  all_goals rw [k, h]; rfl

/-- What one block may change beside another. -/
def Touched.covers (b c : Touched) : Prop := ∀ s t, leavesOthers c s t → leavesOthers b s t

theorem storeAndSequencer_covers_sequencer : Touched.covers .storeAndSequencer .sequencer :=
  fun _ _ h => by unfold leavesOthers at *; rw [h]; rfl
theorem storeAndSequencer_covers_store : Touched.covers .storeAndSequencer .store :=
  fun _ _ h => by unfold leavesOthers at *; rw [h]; rfl
theorem storeAndAllocator_covers_allocator : Touched.covers .storeAndAllocator .allocator :=
  fun _ _ h => by unfold leavesOthers at *; rw [h]; rfl
theorem storeAndAllocator_covers_store : Touched.covers .storeAndAllocator .store :=
  fun _ _ h => by unfold leavesOthers at *; rw [h]; rfl
theorem storeAndJobs_covers_storeAndSequencer : Touched.covers .storeAndJobs .storeAndSequencer :=
  fun _ _ h => by unfold leavesOthers at *; rw [h]; rfl
theorem storeAndJobs_covers_storeAndAllocator : Touched.covers .storeAndJobs .storeAndAllocator :=
  fun _ _ h => by unfold leavesOthers at *; rw [h]; rfl
theorem storeAndJobs_covers_store : Touched.covers .storeAndJobs .store :=
  fun _ _ h => by unfold leavesOthers at *; rw [h]; rfl
theorem publisher_covers_allocator : Touched.covers .publisher .allocator :=
  fun _ _ h => by unfold leavesOthers at *; rw [h]; rfl

/-! ### Operations of a block, and offers -/

/-- An operation of the block `b`: the other blocks stay, the Line Switch, the Responder and the running time too, and
no request is handed on. -/
structure JobActs (b : Touched) (s t : State) : Prop where
  others : leavesOthers b s t
  line : t.line = s.line
  responder : t.responder = s.responder
  time : t.time = s.time
  handed : ∀ e ∈ t.handed, e ∈ s.handed ∨ waitsFor e = none

/-- `t` is reached from `s` by operations of the block `b` and by offers, at some of the ports, of frames that the part
composes. -/
inductive Offers (b : Touched) (ports : Port → Prop) (s : State) : State → Prop
  | refl : Offers b ports s s
  | acts {t u : State} : Offers b ports s t → JobActs b t u → Offers b ports s u
  | offered {t : State} {p : Port} {kind : LocalKind} {dest : Addr} {payload : Bytes} : Offers b ports s t → ports p →
      Offers b ports s (offer p { frame := t.compose kind dest payload, restartReply := false } t).1

section
variable {b : Touched} {ports : Port → Prop} {s t u : State}

theorem JobActs.refl : JobActs b s s := ⟨leavesOthers_of_traffic rfl, rfl, rfl, rfl, fun _ h => .inl h⟩

theorem Offers.trans (h : Offers b ports s t) (k : Offers b ports t u) : Offers b ports s u := by
  induction k with
  | refl => exact h
  | acts _ a ih => exact ih.acts a
  | offered _ p ih => exact ih.offered p

theorem Offers.mono {c : Touched} (hc : b.covers c) (h : Offers c ports s t) : Offers b ports s t := by
  induction h with
  | refl => exact .refl
  | acts _ a ih => exact ih.acts ⟨hc _ _ a.others, a.line, a.responder, a.time, a.handed⟩
  | offered _ p ih => exact ih.offered p

/-! ### What an offer of a frame without a mark keeps -/

theorem compose_sealed (s : State) (kind : LocalKind) (dest : Addr) (payload : Bytes) :
    (s.compose kind dest payload).check = lineCheck (s.compose kind dest payload).body := rfl

/-- What a selection, or an offer without a mark, hands on: at most the signal of space (R13). -/
def signalsOnly (p : Port) (s t : State) : Prop := t.handed = s.handed ∨ t.handed = s.handed ++ [.spaceSignal p]

/-- What an offer leaves: the line state, the other port, the link and three counters of its own, the Responder, and
what waits but for the signal of space (R10, R13). -/
structure OfferLeaves (p : Port) (s t : State) : Prop where
  lineState : t.line.lineState = s.line.lineState
  silence : t.line.silence = s.line.silence
  responder : t.responder = s.responder
  linked : (s.line.port p).linked (t.line.port p)
  opposite : t.line.port (opposite p) = s.line.port (opposite p)
  handed : signalsOnly p s t

theorem linked_refl (q : PortState) : q.linked q := ⟨rfl, rfl, rfl, rfl⟩

theorem linked_trans {q r x : PortState} (h : q.linked r) (k : r.linked x) : q.linked x :=
  ⟨k.1.trans h.1, k.2.1.trans h.2.1, k.2.2.1.trans h.2.2.1, k.2.2.2.trans h.2.2.2⟩

theorem linked_chooseFrame {q q' : PortState} {x : Sending} (e : chooseFrame q = some (x, q')) : q.linked q' := by
  unfold chooseFrame at e
  split at e
  · cases e
  · cases e; exact linked_refl q
  · cases e; exact linked_refl q
  · split at e <;> (cases e; exact linked_refl q)

theorem offerLeaves_select (p : Port) (s : State) : OfferLeaves p s (select p s) := by
  unfold select
  split
  · split
    · exact ⟨rfl, rfl, rfl, linked_refl _, rfl, .inl rfl⟩
    · next q e => exact ⟨by simp [State.withPort], by simp [State.withPort], rfl,
        by simpa [State.withPort] using linked_chooseFrame e, by simp [State.withPort], .inr rfl⟩
    · next q e => exact ⟨by simp [State.withPort], by simp [State.withPort], rfl,
        by simpa [State.withPort] using linked_chooseFrame e, by simp [State.withPort], .inl rfl⟩
  · exact ⟨rfl, rfl, rfl, linked_refl _, rfl, .inl rfl⟩

/-- The port at work changed, and an answer told, before a selection. -/
theorem OfferLeaves.of_set {p : Port} {s t : State} {q : PortState} (a : Option (Port × OfferAnswer))
    (l : (s.line.port p).linked q)
    (h : OfferLeaves p (s.withLine { s.line.setPort p q with answer := a }) t) : OfferLeaves p s t := by
  obtain ⟨h1, h2, h3, h4, h5, h6⟩ := h
  have hp : ({ s.line.setPort p q with answer := a } : LineSwitch).port p = q := by cases p <;> rfl
  have ho : ({ s.line.setPort p q with answer := a } : LineSwitch).port (Machine.opposite p) =
      s.line.port (Machine.opposite p) := by cases p <;> rfl
  rw [State.withLine_line, hp] at h4
  rw [State.withLine_line, ho] at h5
  exact ⟨h1.trans (by simp), h2.trans (by simp), h3, linked_trans l h4, h5, h6⟩

theorem linked_lossCounted (f : Frame) (q : PortState) : q.linked (lossCounted f q) := by
  unfold lossCounted
  split <;> exact ⟨rfl, rfl, rfl, rfl⟩

theorem offerLeaves_offer {p : Port} {l : LocalFrame} (m : l.restartReply = false) (s : State) :
    OfferLeaves p s (offer p l s).1 := by
  rcases offer_cases p s with down | ⟨up, room⟩ | ⟨up, full⟩
  · rw [offer_of_down down, m]
    cases p <;> exact ⟨rfl, rfl, rfl, linked_refl _, rfl, .inl rfl⟩
  · rw [offer_of_room up room]
    refine .of_set (some (p, .accepted)) ?_ (offerLeaves_select p _)
    exact ⟨rfl, rfl, rfl, rfl⟩
  · rw [offer_of_full up full, m]
    exact .of_set (some (p, .full)) (linked_lossCounted ..) ⟨rfl, rfl, rfl, linked_refl _, rfl, .inl rfl⟩

/-! ### What a command of a job keeps -/

theorem Offers.lineOk (h : Offers b ports s t) (k : LineOk s) : LineOk t := by
  induction h with
  | refl => exact k
  | acts _ a ih => rw [lineOk_iff] at *; exact lineKept_congr a.line a.responder ih
  | offered _ _ ih => exact lineOk_offer ih (compose_sealed ..) fun e => nomatch e

theorem Offers.time (h : Offers b ports s t) : t.time = s.time := by
  induction h with
  | refl => rfl
  | acts _ a ih => exact a.time.trans ih
  | offered _ _ ih => exact (lineTouched_time (lineTouched_offer ..)).trans ih

theorem Offers.others (h : Offers b ports s t) : leavesOthers b s t := by
  induction h with
  | refl => exact leavesOthers_of_traffic rfl
  | acts _ a ih => exact leavesOthers_trans ih a.others
  | @offered u p kind dest payload _ _ ih =>
    refine leavesOthers_trans ih (leavesOthers_of_traffic ?_)
    rw [lineTouched_offer p { frame := u.compose kind dest payload, restartReply := false } u]
    rfl

/-- No request is handed on. -/
theorem Offers.handed (h : Offers b ports s t) : ∀ e ∈ t.handed, e ∈ s.handed ∨ waitsFor e = none := by
  induction h with
  | refl => exact fun _ h => .inl h
  | acts _ a ih => exact fun e he => (a.handed e he).elim (ih e) .inr
  | @offered u p kind dest payload _ _ ih =>
    intro e he
    rcases (offerLeaves_offer (p := p) (l := { frame := u.compose kind dest payload, restartReply := false })
      rfl u).handed with k | k <;> rw [k] at he
    · exact ih e he
    · rcases List.mem_append.mp he with he | he
      · exact ih e he
      · rw [List.mem_singleton.mp he]; exact .inr rfl

/-- Every port keeps its link and its other three counters. -/
theorem OfferLeaves.offersOnly {p : Port} {s t : State} (k : OfferLeaves p s t) : offersOnly s t := by
  cases p
  · exact ⟨k.lineState, k.silence, k.responder, k.linked,
      by rw [show t.line.portS = _ from k.opposite]; exact linked_refl _⟩
  · exact ⟨k.lineState, k.silence, k.responder,
      by rw [show t.line.portV = _ from k.opposite]; exact linked_refl _, k.linked⟩

theorem offersOnly_refl (s : State) : offersOnly s s := ⟨rfl, rfl, rfl, linked_refl _, linked_refl _⟩

theorem offersOnly_trans {s t u : State} (h : offersOnly s t) (k : offersOnly t u) : offersOnly s u := by
  obtain ⟨a, b, c, v, w⟩ := h
  obtain ⟨a', b', c', v', w'⟩ := k
  exact ⟨a'.trans a, b'.trans b, c'.trans c, linked_trans v v', linked_trans w w'⟩

theorem offersOnly_of_line (hl : t.line = s.line) (hr : t.responder = s.responder) : Machine.offersOnly s t := by
  unfold Machine.offersOnly
  rw [hl]
  exact ⟨rfl, rfl, hr, linked_refl _, linked_refl _⟩

theorem Offers.offersOnly (h : Offers b ports s t) : offersOnly s t := by
  induction h with
  | refl => exact offersOnly_refl s
  | acts _ a ih => exact offersOnly_trans ih (offersOnly_of_line a.line a.responder)
  | offered _ _ ih => exact offersOnly_trans ih (offerLeaves_offer rfl _).offersOnly

/-- A port at which nothing is offered stays as it is. -/
theorem Offers.port {p : Port} (h : Offers b ports s t) (n : ¬ ports p) : t.line.port p = s.line.port p := by
  induction h with
  | refl => rfl
  | acts _ a ih => rw [a.line, ih]
  | @offered u x _ _ _ _ hx ih =>
    have e : p = opposite x := (port_eq_or_opposite x p).resolve_left fun e => n (e ▸ hx)
    rw [e, (offerLeaves_offer rfl u).opposite, ← e, ih]

/-! ### One step of a block -/

theorem Offers.line_of_none (h : Offers b (fun _ => False) s t) : t.line = s.line := by
  induction h with
  | refl => rfl
  | acts _ a ih => rw [a.line, ih]
  | offered _ hx => exact hx.elim

section
variable (h : Offers b ports s t)
include h

@[simp] theorem offers_withHanded {l : List Instr} (k : ∀ e ∈ l, e ∈ t.handed ∨ waitsFor e = none) :
    Offers b ports s (t.withHanded l) := h.acts ⟨leavesOthers_of_traffic rfl, rfl, rfl, rfl, k⟩

@[simp] theorem offers_withWaiting (l : List Instr) : Offers b ports s (t.withWaiting l) :=
  h.acts ⟨leavesOthers_of_traffic rfl, rfl, rfl, rfl, fun _ k => .inl k⟩

@[simp] theorem offers_deferred (c : Instr) : Offers b ports s (t.deferred c) := offers_withWaiting h _

@[simp] theorem offers_withReports (l : List ReportRequest) : Offers b ports s (t.withReports l) :=
  h.acts ⟨leavesOthers_of_traffic rfl, rfl, rfl, rfl, fun _ k => .inl k⟩

@[simp] theorem offers_report (kind : Byte) (data : Bytes) : Offers b ports s (t.report kind data) :=
  offers_withReports h _

@[simp] theorem offers_handAll {l : List Instr} (k : ∀ e ∈ l, waitsFor e = none) : Offers b ports s (t.handAll l) :=
  offers_withHanded h fun e he => (List.mem_append.mp he).imp_right (k e)

@[simp] theorem offers_hand {c : Instr} (k : waitsFor c = none) : Offers b ports s (t.hand c) :=
  offers_handAll h fun e he => by rw [List.mem_singleton.mp he]; exact k

/-- What every operation of a list of indices keeps, all of them together keep. -/
theorem offers_forEach {l : List Nat} {f : Nat → State → State}
    (k : ∀ i u, Offers b ports s u → Offers b ports s (f i u)) : Offers b ports s (forEach l f t) :=
  forEach_keeps h fun i _ u => k i u

theorem offers_foldl {α : Type} {l : List α} {f : State → α → State}
    (k : ∀ a u, Offers b ports s u → Offers b ports s (f u a)) : Offers b ports s (l.foldl f t) := by
  induction l generalizing t with
  | nil => exact h
  | cons a l ih => exact ih (k a t h)

/-! ### Offers of the Responder -/

@[simp] theorem offers_reply (hv : ports .v) (code tag result : Byte) (data : Bytes) :
    Offers b ports s (t.reply code tag result data) := h.offered hv

@[simp] theorem offers_flushReports (hv : ports .v) : Offers b ports s (flushReports t) :=
  offers_foldl (offers_withReports h _) fun _ _ k => k.offered hv

/-- The requests that wait for an owner, taken. -/
theorem offers_takeWaiting (hv : ports .v) {own : Instr → Option (State → State)}
    (k : ∀ c f u, own c = some f → Offers b ports s u → Offers b ports s (f u)) :
    Offers b ports s (takeWaiting own t) := by
  unfold takeWaiting
  refine offers_foldl (offers_withWaiting (offers_flushReports h hv) _) fun c u hu => ?_
  split
  · next f e => exact offers_flushReports (k c f u e hu) hv
  · exact hu

end

/-! ### Blocks replaced -/

section
variable {ports : Port → Prop} {s t : State}

@[simp] theorem offers_withIntake (h : Offers .intake ports s t) (x : Intake) :
    Offers .intake ports s (t.withIntake x) := h.acts ⟨rfl, rfl, rfl, rfl, fun _ k => .inl k⟩
@[simp] theorem offers_withGrader (h : Offers .grader ports s t) (x : Grader) :
    Offers .grader ports s (t.withGrader x) := h.acts ⟨rfl, rfl, rfl, rfl, fun _ k => .inl k⟩
@[simp] theorem offers_withMonitor (h : Offers .monitor ports s t) (x : Monitor) :
    Offers .monitor ports s (t.withMonitor x) := h.acts ⟨rfl, rfl, rfl, rfl, fun _ k => .inl k⟩
@[simp] theorem offers_withSequencer (h : Offers .sequencer ports s t) (x : Sequencer) :
    Offers .sequencer ports s (t.withSequencer x) := h.acts ⟨rfl, rfl, rfl, rfl, fun _ k => .inl k⟩
@[simp] theorem offers_withDrives (h : Offers .drives ports s t) (x : GateDrives) :
    Offers .drives ports s (t.withDrives x) := h.acts ⟨rfl, rfl, rfl, rfl, fun _ k => .inl k⟩
@[simp] theorem offers_withDrawn (h : Offers .drives ports s t) (n : Nat) :
    Offers .drives ports s (t.withDrawn n) := h.acts ⟨rfl, rfl, rfl, rfl, fun _ k => .inl k⟩
@[simp] theorem offers_withAllocator (h : Offers .allocator ports s t) (x : Allocator) :
    Offers .allocator ports s (t.withAllocator x) := h.acts ⟨rfl, rfl, rfl, rfl, fun _ k => .inl k⟩
@[simp] theorem offers_withPublisher (h : Offers .publisher ports s t) (x : Publisher) :
    Offers .publisher ports s (t.withPublisher x) := h.acts ⟨rfl, rfl, rfl, rfl, fun _ k => .inl k⟩
@[simp] theorem offers_withStore (h : Offers .store ports s t) (x : TableStore) :
    Offers .store ports s (t.withStore x) := h.acts ⟨rfl, rfl, rfl, rfl, fun _ k => .inl k⟩

end

end

end Sys2Proof.Machine
end

section
/-!
SUPPORT. The operations of the Closure Sequencer as operations of its block: each changes the block's record, hands
events on and asks for reports, and offers at most at port V.
-/

namespace Sys2Proof.Machine

section
variable {ports : Port → Prop} {s t : State} (h : Offers .sequencer ports s t)
include h

/-! ### Records and states -/

@[simp] theorem offers_withSegment (g : Nat) (r : SegmentRec) : Offers .sequencer ports s (t.withSegment g r) :=
  offers_withSequencer h _

@[simp] theorem offers_withClock (c : Option Clock) : Offers .sequencer ports s (t.withClock c) :=
  offers_withSequencer h _

@[simp] theorem offers_refreshParameter (g : Nat) : Offers .sequencer ports s (refreshParameter g t) := by
  unfold refreshParameter
  split
  · split
    · exact offers_hand (offers_withSegment h ..) rfl
    · exact h
  · exact h

@[simp] theorem offers_enterState (g : Nat) (r : SegmentRec) (st : ClosureState) :
    Offers .sequencer ports s (enterState g r st t) := by
  have k : Offers .sequencer ports s ((t.withSegment g { r with state := st }).handAll
      ((t.orderedGates g r.state st).map fun k => .orderEvent k (orderOf st))) :=
    offers_handAll (offers_withSegment h ..) (noRequest_map fun _ => rfl)
  unfold enterState
  dsimp only
  split
  · exact offers_hand (offers_withSequencer k _) rfl
  · exact offers_hand k rfl

@[simp] theorem offers_raisedTest (g : Nat) : Offers .sequencer ports s (raisedTest g t) := by
  unfold raisedTest
  split
  · exact h
  · split <;> simp [h]

@[simp] theorem offers_enterReopening (g : Nat) (r : SegmentRec) :
    Offers .sequencer ports s (enterReopening g r t) := by simp [enterReopening, h]

@[simp] theorem offers_reopenTest (g : Nat) : Offers .sequencer ports s (reopenTest g t) := by
  unfold reopenTest
  split
  · split
    · split <;> simp [h]
    · exact h
  · exact h

@[simp] theorem offers_loweredTest (g : Nat) : Offers .sequencer ports s (loweredTest g t) := by
  unfold loweredTest
  split
  · exact h
  · split <;> simp [h]

@[simp] theorem offers_enterClosing (g : Nat) (r : SegmentRec) : Offers .sequencer ports s (enterClosing g r t) := by
  simp [enterClosing, h]

@[simp] theorem offers_enterNotice (g : Nat) (row : SegmentRow) (urgent : Bool) (r : SegmentRec) :
    Offers .sequencer ports s (enterNotice g row urgent r t) := by simp [enterNotice, h]

/-! ### Claims -/

@[simp] theorem offers_claimArrives (g : Nat) (urgent : Bool) :
    Offers .sequencer ports s (claimArrives g urgent t) := by
  unfold claimArrives
  split
  · split
    · simp [h]
    · split
      · simp [h]
      · split <;> simp [h]
    · exact h
    · simp [h]
    · simp [h]
  · exact h

@[simp] theorem offers_claimDeparts (g : Nat) : Offers .sequencer ports s (claimDeparts g t) := by
  unfold claimDeparts
  split
  · exact h
  · split
    · exact h
    · split <;> simp [h]
    · split <;> simp [h]
    · simp [h]
    · exact h

@[simp] theorem offers_placeClaim (source : Nat) (urgent : Bool) (g : Nat) :
    Offers .sequencer ports s (placeClaim source urgent g t) := by
  unfold placeClaim
  split
  · exact h
  · split
    · simp [h]
    · split
      · dsimp only
        split <;> simp [h]
      · exact h

@[simp] theorem offers_removeClaims (sources : List Nat) (g : Nat) :
    Offers .sequencer ports s (removeClaims sources g t) := by
  unfold removeClaims
  split
  · exact h
  · split <;> simp [h]

/-! ### Events -/

@[simp] theorem offers_segmentOutcome (cause : SegmentCause) (before : State) (g : Nat) :
    Offers .sequencer ports s (segmentOutcome cause before g t) := by
  unfold segmentOutcome
  split
  · dsimp only
    have k : ∀ u : Prop, [Decidable u] → ∀ c, waitsFor c = none →
        Offers .sequencer ports s (if u then t else t.hand c) := by
      intro u _ c hc
      split
      · exact h
      · exact offers_hand h hc
    split
    · exact offers_report (k _ _ rfl) _ _
    · exact k _ _ rfl
  · exact h

theorem offers_segmentEvent (cause : SegmentCause) {f : State → State}
    (k : ∀ u, Offers .sequencer ports s u → Offers .sequencer ports s (f u)) :
    Offers .sequencer ports s (segmentEvent cause f t) :=
  offers_forEach (k t h) fun g _ hu => offers_segmentOutcome hu cause _ g

@[simp] theorem offers_leadDecision (g : Nat) : Offers .sequencer ports s (leadDecision g t) := by
  unfold leadDecision
  split
  · split
    · dsimp only
      split <;> simp [h]
    · exact h
  · exact h

@[simp] theorem offers_graceDecision (g : Nat) : Offers .sequencer ports s (graceDecision g t) := by
  unfold graceDecision
  split
  · exact h
  · split <;> simp [h]

@[simp] theorem offers_graceStep (g : Nat) : Offers .sequencer ports s (graceStep g t) :=
  offers_segmentEvent h _ fun _ k => offers_graceDecision k g

@[simp] theorem offers_leadStep (g : Nat) : Offers .sequencer ports s (leadStep g t) := by
  have k := offers_segmentEvent h .leadExpiry fun _ k => offers_leadDecision k g
  unfold leadStep
  dsimp only
  split
  · exact offers_graceStep k g
  · exact k

@[simp] theorem offers_zeroLeads (before : State) : Offers .sequencer ports s (zeroLeads before t) :=
  offers_forEach h fun g u hu => by
    split
    · exact offers_leadStep hu g
    · exact hu

theorem offers_sequencerEvent (cause : SegmentCause) {f : State → State}
    (k : ∀ u, Offers .sequencer ports s u → Offers .sequencer ports s (f u)) :
    Offers .sequencer ports s (sequencerEvent cause f t) :=
  offers_zeroLeads (offers_segmentEvent h cause k) _

@[simp] theorem offers_placement (source : ClaimSource) (urgent : Bool) (mask : Byte) :
    Offers .sequencer ports s (placement source urgent mask t) :=
  offers_sequencerEvent h _ fun _ k => offers_forEach k fun g _ ku => offers_placeClaim ku _ urgent g

@[simp] theorem offers_removal (source : ClaimSource) (mask : Byte) :
    Offers .sequencer ports s (removal source mask t) :=
  offers_sequencerEvent h _ fun _ k => offers_forEach k fun g _ ku => offers_removeClaims ku _ g

@[simp] theorem offers_confirmAt (face : Byte) (row : SignRow) : Offers .sequencer ports s (confirmAt face row t) := by
  unfold confirmAt
  split
  · exact h
  · split <;> simp [h]

@[simp] theorem offers_confirmation (sign : Nat) (face : Byte) :
    Offers .sequencer ports s (confirmation sign face t) := by
  unfold confirmation
  split
  · exact h
  · exact offers_sequencerEvent h _ fun _ k => offers_confirmAt k face _

@[simp] theorem offers_refreshGateFault (g : Nat) : Offers .sequencer ports s (refreshGateFault g t) := by
  unfold refreshGateFault
  split <;> simp [h]

@[simp] theorem offers_gateNotice (k : Nat) : Offers .sequencer ports s (gateNotice k t) := by
  unfold gateNotice
  split
  · exact h
  · exact offers_sequencerEvent h _ fun _ k => offers_raisedTest (offers_loweredTest (offers_refreshGateFault k _) _) _

@[simp] theorem offers_takeGrade (g grade : Nat) (action : Option ClaimAction) :
    Offers .sequencer ports s (takeGrade g grade action t) := by
  unfold takeGrade
  split
  · exact h
  · refine offers_reopenTest ?_ g
    split
    · exact offers_withSegment h ..
    · exact offers_placeClaim (offers_withSegment h ..) ..
    · exact offers_removeClaims (offers_withSegment h ..) ..

/-! ### The schedule, derivations and conversions -/

@[simp] theorem offers_evaluatePair (e g : Nat) : Offers .sequencer ports s (evaluatePair e g t) := by
  unfold evaluatePair
  split
  · split
    · split
      · simp [h]
      · split <;> simp [h]
    · exact h
  · exact h

@[simp] theorem offers_evaluateSchedule : Offers .sequencer ports s (evaluateSchedule t) :=
  offers_forEach h fun e _ k => offers_forEach k fun g _ ku => offers_evaluatePair ku e g

@[simp] theorem offers_evaluateAfterSet : Offers .sequencer ports s (evaluateAfterSet t) :=
  offers_forEach (offers_evaluateSchedule h) fun g _ k => offers_refreshParameter k g

@[simp] theorem offers_scheduleEnters : Offers .sequencer ports s (scheduleEnters t) := by
  unfold scheduleEnters
  split
  · exact offers_sequencerEvent (offers_withSequencer h _) _ fun _ k => offers_evaluateSchedule k
  · exact h

@[simp] theorem offers_orderGates (g : Nat) (o : GateOrder) : Offers .sequencer ports s (orderGates g o t) := by
  simp [orderGates, h]

@[simp] theorem offers_deriveOpen (g : Nat) (r : SegmentRec) : Offers .sequencer ports s (deriveOpen g r t) := by
  unfold deriveOpen
  split <;> simp [h]

@[simp] theorem offers_deriveStart (g : Nat) : Offers .sequencer ports s (deriveStart g t) := by
  unfold deriveStart
  split <;> simp [h]

@[simp] theorem offers_deriveClaims (g : Nat) : Offers .sequencer ports s (deriveClaims g t) := by
  unfold deriveClaims
  split
  · refine offers_forEach ?_ fun p _ k => offers_placeClaim k _ true g
    split <;> simp [h]
  · exact h

@[simp] theorem offers_deriveOutcome (g : Nat) : Offers .sequencer ports s (deriveOutcome g t) := by
  unfold deriveOutcome
  split
  · exact h
  · next r _ =>
    have k : Offers .sequencer ports s (if r.urgent = true then t.hand (.urgencyNotice g true) else t) := by
      split
      · exact offers_hand h rfl
      · exact h
    dsimp only
    split
    · exact k
    · exact offers_report k ..

@[simp] theorem offers_makeSegments : Offers .sequencer ports s (makeSegments t) := offers_withSequencer h _

@[simp] theorem offers_buildSegments : Offers .sequencer ports s (buildSegments t) :=
  offers_zeroLeads (offers_forEach (offers_evaluateSchedule (offers_forEach
    (offers_forEach (offers_makeSegments h) fun g _ k => offers_deriveStart k g)
    fun g _ k => offers_deriveClaims k g)) fun g _ k => offers_deriveOutcome k g) _

@[simp] theorem offers_segmentsEnter : Offers .sequencer ports s (segmentsEnter t) := by
  unfold segmentsEnter
  split <;> simp [h]

@[simp] theorem offers_dropSegments : Offers .sequencer ports s (dropSegments t) := offers_withSequencer h _

@[simp] theorem offers_withholdOrders (g : Nat) : Offers .sequencer ports s (withholdOrders g t) :=
  offers_withSequencer (offers_handAll h (noRequest_map fun _ => rfl)) _

@[simp] theorem offers_rederive (g : Nat) : Offers .sequencer ports s (rederive g t) := by
  unfold rederive
  split
  · exact h
  · dsimp only
    have k := offers_withSegment h
    split
    · exact offers_deriveOpen (k ..) ..
    · exact offers_withholdOrders (k ..) g
    · exact offers_loweredTest (offers_orderGates (k ..) ..) g
    · exact offers_raisedTest (offers_orderGates (k ..) ..) g
    · split
      · exact offers_orderGates (k ..) ..
      · exact offers_orderGates (offers_enterState (k ..) ..) ..

@[simp] theorem offers_gatesBuilt : Offers .sequencer ports s (gatesBuilt t) := by
  unfold gatesBuilt
  split
  · exact offers_sequencerEvent (offers_withSequencer h _) _ fun _ k =>
      offers_forEach k fun g _ ku => offers_rederive ku g
  · exact h

@[simp] theorem offers_becomeGateless (g : Nat) : Offers .sequencer ports s (becomeGateless g t) :=
  offers_raisedTest (offers_loweredTest (offers_refreshGateFault h g) g) g

@[simp] theorem offers_gatesGone : Offers .sequencer ports s (gatesGone t) :=
  offers_sequencerEvent (offers_withSequencer h _) _ fun _ k =>
    offers_forEach k fun g _ ku => offers_becomeGateless ku g

@[simp] theorem offers_convertAt (lo hi g : Nat) : Offers .sequencer ports s (convertAt lo hi g t) := by
  unfold convertAt
  split
  · exact h
  · split <;> simp [h]

@[simp] theorem offers_convertSources (lo hi : Nat) : Offers .sequencer ports s (convertSources lo hi t) :=
  offers_segmentEvent h _ fun _ k => offers_forEach k fun g _ ku => offers_convertAt ku lo hi g

@[simp] theorem offers_takeWaitingClaims : Offers .sequencer ports s (takeWaitingClaims t) := by
  refine offers_foldl (offers_withHanded h fun e he => .inl (List.mem_filter.mp he).1) fun c u k => ?_
  unfold takeClaimEvent
  split <;> simp [k]

@[simp] theorem offers_convertPaths : Offers .sequencer ports s (convertPaths t) := by simp [convertPaths, h]

@[simp] theorem offers_convertSchedule : Offers .sequencer ports s (convertSchedule t) := by simp [convertSchedule, h]

/-! ### Requests and the start -/

section
variable (hv : ports .v)
include hv

theorem offers_segmentRequest (code tag : Byte) (g : Nat) {f : State → State}
    (k : ∀ u, Offers .sequencer ports s u → Offers .sequencer ports s (f u)) :
    Offers .sequencer ports s (segmentRequest code tag g f t) :=
  offers_zeroLeads (offers_reply (offers_segmentEvent h _ k) hv ..) _

@[simp] theorem offers_closeSegment (tag segment urgent : Byte) :
    Offers .sequencer ports s (closeSegment tag segment urgent t) := by
  unfold closeSegment
  dsimp only
  split
  · simp [h]
  · split
    · simp [h, hv]
    · split
      · simp [h, hv]
      · split
        · simp [h, hv]
        · exact offers_segmentRequest h hv _ _ _ fun _ k => offers_placeClaim k ..

@[simp] theorem offers_releaseSegment (tag segment : Byte) :
    Offers .sequencer ports s (releaseSegment tag segment t) := by
  unfold releaseSegment
  dsimp only
  split
  · simp [h]
  · split
    · simp [h, hv]
    · split
      · simp [h, hv]
      · split
        · exact offers_segmentRequest h hv _ _ _ fun _ k => offers_removeClaims k ..
        · simp [h, hv]

@[simp] theorem offers_setTime (tag : Byte) (broadcast : Bool) (day : BitVec 16) (second : BitVec 24) :
    Offers .sequencer ports s (setTime tag broadcast day second t) := by
  unfold setTime
  split
  · simp [h]
  · split
    · split
      · exact h
      · simp [h, hv]
    · have k := offers_segmentEvent (offers_withClock h (some
        { day := day.toNat, second := second.toNat, next := t.now + 10 })) .claim
        fun _ k => offers_evaluateAfterSet k
      dsimp only
      split <;> simp [k, hv]

theorem offers_sequencerStarts : Offers .sequencer ports s (sequencerStarts t) := by
  refine offers_takeWaiting (offers_segmentsEnter (offers_withSequencer h _)) hv fun c f u e k => ?_
  unfold sequencerRequest at e
  split at e <;> cases e <;> simp [k, hv]

end

end

end Sys2Proof.Machine
end

section
/-!
SUPPORT. The operations of the Gate Drive Units, of Sample Intake, the Grade Evaluator and the Path Monitor as
operations of their blocks.
-/

namespace Sys2Proof.Machine

/-! ### The Gate Drive Units -/

section
variable {ports : Port → Prop} {s t : State} (h : Offers .drives ports s t)
include h

@[simp] theorem offers_putGate (k : Nat) (g : GateRec) : Offers .drives ports s (putGate k g t) := by
  unfold putGate
  dsimp only
  split
  · exact offers_withDrives h _
  · exact offers_hand (offers_withDrives h _) rfl

@[simp] theorem offers_gateReport (k : Nat) (before : GateState) (cause : GateCause) :
    Offers .drives ports s (gateReport k before t cause) := by
  unfold gateReport
  split
  · exact h
  · exact offers_report h ..

theorem offers_gateReports (k : Nat) (before : GateState) (causes : List GateCause) :
    Offers .drives ports s (causes.foldl (gateReport k before) t) :=
  offers_foldl h fun cause _ hu => offers_gateReport hu k before cause

theorem offers_gateEvent (k : Nat) {f : GateRec → GateRow → State → GateRun}
    (hf : ∀ g row, Offers .drives ports s (f g row t).1) : Offers .drives ports s (gateEvent k f t) := by
  unfold gateEvent
  split
  · exact h
  · exact offers_gateReports (hf ..) ..

@[simp] theorem offers_giveUp (k : Nat) (g : GateRec) : Offers .drives ports s (giveUp k g t) := by
  unfold giveUp
  split
  · exact h
  · exact offers_hand h rfl
  · exact offers_hand h rfl

@[simp] theorem offers_requestRaise (k : Nat) (row : GateRow) (g : GateRec) :
    Offers .drives ports s (requestRaise k row g t) := by
  unfold requestRaise
  split
  · exact offers_hand (offers_putGate h ..) rfl
  · exact offers_putGate h ..

@[simp] theorem offers_askLowering (k : Nat) (row : GateRow) (g : GateRec) :
    Offers .drives ports s (askLowering k row g t) := by
  unfold askLowering
  split
  · exact offers_hand (offers_putGate h ..) rfl
  · exact offers_putGate h ..

@[simp] theorem offers_enterHeld (k : Nat) (row : GateRow) (g : GateRec) :
    Offers .drives ports s (enterHeld k row g t) := offers_askLowering h ..

@[simp] theorem offers_goFault (k : Nat) (cause : FaultCause) (g : GateRec) :
    Offers .drives ports s (goFault k cause g t).1 := offers_putGate (offers_giveUp h ..) ..

@[simp] theorem offers_settleEnd (k : Nat) (row : GateRow) (g : GateRec) :
    Offers .drives ports s (settleEnd k row g t).1 := by
  unfold settleEnd
  split
  · unfold settleLowered
    split
    · dsimp only
      split
      · exact offers_requestRaise h ..
      · exact offers_putGate h ..
    · exact offers_goFault h ..
  · unfold settleRaised
    dsimp only
    split
    · split
      · exact offers_enterHeld h ..
      · exact offers_goFault h ..
    · split
      · exact offers_enterHeld (offers_putGate h ..) ..
      · exact offers_putGate h ..

@[simp] theorem offers_enterSettle (k : Nat) (dir : Direction) (row : GateRow) (g : GateRec) :
    Offers .drives ports s (enterSettle k dir row g t).1 := by
  have e : ∀ r, Offers .drives ports s (putGate k r (giveUp k g t)) := fun r => offers_putGate (offers_giveUp h ..) ..
  unfold enterSettle
  dsimp only
  split
  · exact offers_settleEnd (e _) ..
  · exact e _

@[simp] theorem offers_beginTravel (k : Nat) (dir : Direction) (row : GateRow) (g : GateRec) :
    Offers .drives ports s (beginTravel k dir row g t).1 := by
  unfold beginTravel
  dsimp only
  split
  · exact offers_putGate (offers_putGate h ..) ..
  · split
    · exact offers_putGate (offers_putGate h ..) ..
    · exact offers_putGate h ..

@[simp] theorem offers_dwellEnd (k : Nat) (g : GateRec) (row : GateRow) :
    Offers .drives ports s (dwellEnd k g row t).1 := by
  unfold dwellEnd
  dsimp only
  split
  · exact offers_putGate (offers_giveUp h ..) ..
  · split
    · exact offers_enterSettle h ..
    · split
      · exact offers_enterHeld (offers_giveUp h ..) ..
      · exact offers_beginTravel h ..

@[simp] theorem offers_lowerAtRest (k : Nat) (row : GateRow) (g : GateRec) :
    Offers .drives ports s (lowerAtRest k row g t) := by
  unfold lowerAtRest
  split
  · exact offers_enterHeld (offers_giveUp h ..) ..
  · exact offers_enterHeld h ..
  · exact offers_putGate (offers_giveUp h ..) ..
  · exact offers_askLowering h ..
  · exact offers_putGate h ..

@[simp] theorem offers_raiseHeld (k : Nat) (row : GateRow) (g : GateRec) :
    Offers .drives ports s (raiseHeld k row g t) := by
  unfold raiseHeld
  dsimp only
  split
  · exact offers_putGate (offers_giveUp h ..) ..
  · exact offers_requestRaise (offers_giveUp h ..) ..

@[simp] theorem offers_actOnOrder (k : Nat) (g : GateRec) (row : GateRow) :
    Offers .drives ports s (actOnOrder k g row t) := by
  unfold actOnOrder
  split
  · refine offers_putGate ?_ ..
    split
    · exact offers_giveUp h ..
    · exact h
  · split
    · exact offers_putGate h ..
    · exact offers_lowerAtRest h ..
  · dsimp only
    split
    · exact offers_requestRaise h ..
    · exact offers_requestRaise h ..
    · exact offers_raiseHeld h ..
    · split <;> exact offers_putGate h ..
    · exact offers_putGate h ..

@[simp] theorem offers_takeOrder (o : GateOrder) (k : Nat) (g : GateRec) (row : GateRow) :
    Offers .drives ports s (takeOrder o k g row t).1 := by
  unfold takeOrder
  split
  · exact h
  · exact offers_actOnOrder h ..

@[simp] theorem offers_loseSegment (k : Nat) : Offers .drives ports s (loseSegment k t) := by
  unfold loseSegment
  split
  · exact offers_gateEvent h k fun _ _ => offers_takeOrder h ..
  · exact h

@[simp] theorem offers_grantAt (dir : Direction) (k : Nat) (g : GateRec) (row : GateRow) :
    Offers .drives ports s (grantAt dir k g row t).1 := by
  unfold grantAt
  split
  · split
    · exact offers_beginTravel h ..
    · exact offers_putGate (offers_hand h rfl) ..
  · split
    · exact offers_beginTravel h ..
    · exact offers_hand h rfl

@[simp] theorem offers_takeGrant (k : Nat) (dir : Direction) : Offers .drives ports s (takeGrant k dir t) := by
  unfold takeGrant
  split
  · exact offers_gateEvent h k fun _ _ => offers_grantAt h ..
  · exact offers_hand h rfl

@[simp] theorem offers_testEnd (k : Nat) (row : GateRow) (g : GateRec) :
    Offers .drives ports s (testEnd k row g t).1 := by
  unfold testEnd
  split
  · exact offers_putGate h ..
  · split
    · split
      · exact offers_enterSettle h ..
      · exact offers_putGate h ..
    · split
      · exact offers_enterSettle h ..
      · split
        · exact offers_goFault h ..
        · exact offers_putGate h ..

@[simp] theorem offers_illegalEdge (k : Nat) (g : GateRec) : Offers .drives ports s (illegalEdge k g t).1 := by
  unfold illegalEdge
  split
  · dsimp only
    split
    · exact offers_goFault h ..
    · exact offers_putGate h ..
  · exact h

@[simp] theorem offers_edgeAt (moved k : Nat) (g : GateRec) (row : GateRow) :
    Offers .drives ports s (edgeAt moved k g row t).1 := by
  unfold edgeAt
  split
  · exact h
  · exact offers_illegalEdge h ..
  · exact offers_testEnd h ..

@[simp] theorem offers_encoderEdge (k : Nat) (a b home closedEnd : Bool) :
    Offers .drives ports s (encoderEdge k a b home closedEnd t) := by
  unfold encoderEdge
  split
  · exact h
  · exact offers_gateEvent (offers_withDrives h _) k fun _ _ => offers_edgeAt (offers_withDrives h _) ..

@[simp] theorem offers_safetyAt (active : Bool) (k : Nat) (g : GateRec) (row : GateRow) :
    Offers .drives ports s (safetyAt active k g row t).1 := by
  unfold safetyAt
  split
  · exact offers_putGate h ..
  · exact offers_askLowering h ..

@[simp] theorem offers_safetyEdge (k : Nat) (active : Bool) : Offers .drives ports s (safetyEdge k active t) := by
  unfold safetyEdge
  split
  · exact h
  · dsimp only
    split
    · exact h
    · exact offers_gateEvent (offers_withDrives h _) k fun _ _ => offers_safetyAt (offers_withDrives h _) ..

@[simp] theorem offers_loopAt (level : Bool) (k : Nat) (g : GateRec) (row : GateRow) :
    Offers .drives ports s (loopAt level k g row t).1 := by
  unfold loopAt
  split
  · exact h
  · split
    · exact h
    · exact offers_putGate h ..

@[simp] theorem offers_loopEdge (k : Nat) (level : Bool) : Offers .drives ports s (loopEdge k level t) := by
  unfold loopEdge
  split
  · exact h
  · exact offers_gateEvent (offers_withDrives h _) k fun _ _ => offers_loopAt (offers_withDrives h _) ..

@[simp] theorem offers_buildGate (k : Nat) : Offers .drives ports s (buildGate k t) := by
  unfold buildGate
  split
  · exact offers_withDrawn (offers_withDrives h _) _
  · exact h

@[simp] theorem offers_useGates : Offers .drives ports s (useGates t) :=
  offers_forEach (offers_withDrives h _) fun k _ hu => offers_buildGate hu k

@[simp] theorem offers_gatesEnter : Offers .drives ports s (gatesEnter t) := by
  unfold gatesEnter
  split
  · exact offers_hand (offers_useGates h) rfl
  · exact h

@[simp] theorem offers_gatesLeave : Offers .drives ports s (gatesLeave t) := by
  refine offers_withDrives (offers_forEach h fun k u hu => ?_) _
  unfold releaseGate
  split
  · exact hu
  · exact offers_putGate (offers_giveUp hu ..) ..

@[simp] theorem offers_buildDrives : Offers .drives ports s (buildDrives t) := by
  unfold buildDrives
  dsimp only
  split
  · exact offers_gatesEnter (offers_withDrives h _)
  · split
    · exact offers_useGates (offers_withDrives h _)
    · exact offers_withDrives h _

theorem offers_resumeAt (k : Nat) (g : GateRec) (row : GateRow) {r : GateRun} (e : resumeAt k g row t = some r) :
    Offers .drives ports s r.1 := by
  unfold resumeAt at e
  dsimp only at e
  split at e
  · cases e; exact offers_putGate h ..
  · split at e
    · cases e; exact offers_enterSettle h ..
    · split at e
      · cases e
      · split at e
        · cases e; exact offers_enterHeld h ..
        · cases e; exact offers_requestRaise h ..

section
variable (hv : ports .v)
include hv

@[simp] theorem offers_gateStop (tag gate : Byte) : Offers .drives ports s (gateStop tag gate t) := by
  unfold gateStop
  dsimp only
  split
  · exact offers_deferred h _
  · split
    · exact offers_reply h hv ..
    · split
      · exact offers_reply h hv ..
      · have k : ∀ r x data,
          Offers .drives ports s ((putGate gate.toNat r (giveUp gate.toNat x t)).reply 0x28 tag done data) :=
          fun _ _ _ => offers_reply (offers_putGate (offers_giveUp h ..) ..) hv ..
        split
        · exact k ..
        · exact offers_gateReport (k ..) ..

@[simp] theorem offers_gateResume (tag gate : Byte) : Offers .drives ports s (gateResume tag gate t) := by
  unfold gateResume
  dsimp only
  split
  · exact offers_deferred h _
  · split
    · exact offers_reply h hv ..
    · split
      · exact offers_reply h hv ..
      · split
        · split
          · exact offers_reply h hv ..
          · next e => exact offers_gateReports (offers_reply (offers_resumeAt h _ _ _ e) hv ..) ..
        · exact offers_reply h hv ..

theorem offers_drivesStart : Offers .drives ports s (drivesStart t) := by
  refine offers_takeWaiting (offers_buildDrives h) hv fun c f u e k => ?_
  unfold drivesRequest at e
  split at e <;> cases e
  · exact offers_gateStop k hv ..
  · exact offers_gateResume k hv ..

end

end

/-! ### Sample Intake -/

theorem neverEvents_noRequest (light : Option Nat) (m : Map ChannelRec) :
    ∀ e ∈ neverEvents light m, waitsFor e = none := by
  refine noRequest_flatMap fun a => ?_
  split
  · simp
  · split <;> simp

section
variable {ports : Port → Prop} {s t : State} (h : Offers .intake ports s t)
include h

@[simp] theorem offers_storeChannel (c : Nat) (kind : Byte) (old new : ChannelRec) (good : Bool) :
    Offers .intake ports s (storeChannel c kind old new good t) := by
  have k := offers_withIntake h { t.intake with channels := mapPut t.intake.channels c new }
  have k2 : ∀ (x : Prop) [Decidable x] (kind data), Offers .intake ports s
      (if x then (t.withIntake { t.intake with channels := mapPut t.intake.channels c new }).report kind data
        else t.withIntake { t.intake with channels := mapPut t.intake.channels c new }) := by
    intro x _ _ _
    split
    · exact offers_report k ..
    · exact k
  unfold storeChannel
  dsimp only
  split
  · refine offers_hand ?_ rfl
    split
    · exact offers_hand (k2 ..) rfl
    · exact k2 ..
  · split
    · exact offers_hand (k2 ..) rfl
    · exact k2 ..

@[simp] theorem offers_takeSample (a : Arrival) : Offers .intake ports s (takeSample a t) := by
  unfold takeSample
  split
  · split
    · exact h
    · refine offers_foldl h fun e u hu => ?_
      unfold takeEntry
      split
      · exact hu
      · split
        · split
          · exact hu
          · split <;> exact offers_storeChannel hu ..
        · exact hu
  · exact h

@[simp] theorem offers_useChannels : Offers .intake ports s (useChannels t) := offers_withIntake h _

@[simp] theorem offers_intakeEnters : Offers .intake ports s (intakeEnters t) := by
  unfold intakeEnters
  split
  · exact offers_useChannels h
  · exact h

@[simp] theorem offers_intakeLeaves : Offers .intake ports s (intakeLeaves t) :=
  offers_handAll (offers_withIntake h _) (neverEvents_noRequest _ _)

@[simp] theorem offers_intakeStarts : Offers .intake ports s (intakeStarts t) := by
  unfold intakeStarts
  dsimp only
  split
  · exact offers_useChannels (offers_withIntake h _)
  · exact offers_withIntake h _

@[simp] theorem offers_intakeRestarts : Offers .intake ports s (intakeRestarts t) :=
  offers_handAll (offers_withIntake h _) (neverEvents_noRequest _ _)

end

/-! ### The Grade Evaluator -/

theorem gradeEvents_noRequest (closes : Bool) (g old new : Nat) :
    ∀ e ∈ gradeEvents closes g old new, waitsFor e = none := by simp [gradeEvents]

section
variable {ports : Port → Prop} {s t : State} (h : Offers .grader ports s t)
include h

@[simp] theorem offers_storeGrade (g : Nat) (cause : GradeCause) (old new : GradeRec) :
    Offers .grader ports s (storeGrade g cause old new t) := by
  unfold storeGrade
  dsimp only
  split
  · exact offers_withGrader h _
  · exact offers_report (offers_handAll (offers_withGrader h _) (gradeEvents_noRequest _ _ _ _)) ..

@[simp] theorem offers_regrade (g : Nat) : Offers .grader ports s (regrade g t) := by
  unfold regrade
  split
  · exact h
  · exact offers_storeGrade h ..

@[simp] theorem offers_regradeAll : Offers .grader ports s (regradeAll t) :=
  offers_forEach h fun g _ hu => offers_regrade hu g

@[simp] theorem offers_applyFlags (new : Map Bool) : Offers .grader ports s (applyFlags new t) :=
  offers_forEach (offers_withGrader h _) fun g _ hu => offers_regrade hu g

@[simp] theorem offers_makeFlags : Offers .grader ports s (makeFlags t) := offers_withGrader (offers_withGrader h _) _

@[simp] theorem offers_rulesEnter : Offers .grader ports s (rulesEnter t) := by
  unfold rulesEnter
  split
  · exact offers_regradeAll (offers_makeFlags h)
  · exact h

@[simp] theorem offers_rulesLeave : Offers .grader ports s (rulesLeave t) := offers_regradeAll (offers_withGrader h _)

@[simp] theorem offers_buildGrades : Offers .grader ports s (buildGrades t) :=
  offers_handAll (offers_withGrader (offers_withGrader h _) _)
    (noRequest_flatMap fun _ => gradeEvents_noRequest _ _ _ _)

@[simp] theorem offers_gradesEnter : Offers .grader ports s (gradesEnter t) := by
  unfold gradesEnter
  split
  · exact offers_buildGrades h
  · exact h

@[simp] theorem offers_dropGrades : Offers .grader ports s (dropGrades t) := offers_withGrader h _

@[simp] theorem offers_graderRestarts : Offers .grader ports s (graderRestarts t) := by
  refine offers_forEach (offers_withGrader h _) fun g u hu => ?_
  unfold restartGrade
  split
  · exact hu
  · exact offers_storeGrade hu ..

@[simp] theorem offers_buildGrader : Offers .grader ports s (buildGrader t) := by
  have k := offers_withGrader h
  unfold buildGrader
  dsimp only
  split
  · split
    · exact offers_buildGrades (offers_makeFlags (k _))
    · exact offers_makeFlags (k _)
  · split
    · exact offers_buildGrades (k _)
    · exact k _

@[simp] theorem offers_holdGrade (hv : ports .v) (tag segment floor : Byte) :
    Offers .grader ports s (holdGrade tag segment floor t) := by
  unfold holdGrade
  dsimp only
  split
  · exact offers_deferred h _
  · split
    · exact offers_reply h hv ..
    · split
      · exact offers_reply h hv ..
      · split
        · exact offers_reply h hv ..
        · exact offers_reply (offers_storeGrade h ..) hv ..

theorem offers_graderStarts (hv : ports .v) : Offers .grader ports s (graderStarts t) := by
  refine offers_takeWaiting (offers_buildGrader h) hv fun c f u e k => ?_
  unfold graderRequest at e
  split at e <;> cases e
  exact offers_holdGrade k hv ..

end

/-! ### The Path Monitor -/

theorem pathEvents_noRequest (p : Nat) (mask : Byte) (old new : PathRec) :
    ∀ e ∈ warningEvents p mask old new ++ claimEvents p mask old new, waitsFor e = none := by
  refine noRequest_append ?_ ?_
  · unfold warningEvents
    split <;> simp
  · unfold claimEvents
    split
    · simp
    · split <;> simp

section
variable {ports : Port → Prop} {s t : State} (h : Offers .monitor ports s t)
include h

@[simp] theorem offers_storePath (p : Nat) (mask : Byte) (cause : PathCause) (old new : PathRec) :
    Offers .monitor ports s (storePath p mask cause old new t) := by
  have k := offers_handAll (offers_withMonitor h { t.monitor with paths := mapPut t.monitor.paths p new })
    (pathEvents_noRequest p mask old new)
  unfold storePath
  dsimp only
  split
  · exact offers_report k ..
  · exact k

@[simp] theorem offers_changePath (p : Nat) (cause : PathCause) (f : PathRow → PathRec → PathRec) :
    Offers .monitor ports s (changePath p cause f t) := by
  unfold changePath
  split
  · exact offers_storePath h ..
  · exact h

@[simp] theorem offers_withInput (i : Nat) (r : InputRec) : Offers .monitor ports s (t.withInput i r) :=
  offers_withMonitor h _

@[simp] theorem offers_inputEdge (i : Nat) (level : Bool) : Offers .monitor ports s (inputEdge i level t) := by
  unfold inputEdge
  split
  · exact h
  · split
    · exact h
    · split
      · exact offers_withInput h ..
      · split
        · exact offers_withInput h ..
        · unfold countingEdge
          split
          · exact offers_forEach (offers_withInput h ..) fun p _ hu => offers_changePath hu ..
          · exact offers_withInput h ..
        · unfold tripwireEdge
          dsimp only
          split
          · exact offers_forEach (offers_withInput h ..) fun p _ hu => offers_changePath hu ..
          · exact offers_forEach (offers_withInput h ..) fun p _ hu => offers_changePath hu ..

@[simp] theorem offers_takeDetect (a : Arrival) : Offers .monitor ports s (takeDetect a t) := by
  unfold takeDetect
  split
  · split
    · exact h
    · refine offers_forEach h fun p u hu => ?_
      unfold detectAt
      split
      · exact offers_changePath hu ..
      · exact hu
  · exact h

@[simp] theorem offers_lineIsolated : Offers .monitor ports s (lineIsolated t) :=
  offers_forEach h fun _ _ hu => offers_changePath hu ..

@[simp] theorem offers_pathsEnter : Offers .monitor ports s (pathsEnter t) := by
  unfold pathsEnter
  split
  · exact offers_forEach (offers_withMonitor (offers_withMonitor h _) _) fun _ _ hu => offers_changePath hu ..
  · exact h

@[simp] theorem offers_pathsLeave : Offers .monitor ports s (pathsLeave t) := by
  refine offers_handAll (offers_withMonitor h _) fun e he => ?_
  obtain ⟨a, _, ha⟩ := List.mem_filterMap.mp he
  split at ha <;> cases ha
  rfl

@[simp] theorem offers_buildMonitor : Offers .monitor ports s (buildMonitor t) :=
  offers_pathsEnter (offers_withMonitor h _)

@[simp] theorem offers_monitorRestarts : Offers .monitor ports s (monitorRestarts t) :=
  offers_forEach h fun _ _ hu => offers_changePath hu ..

section
variable (hv : ports .v)
include hv

@[simp] theorem offers_answerPath (code : Byte) (request : Instr) (tag path : Byte) (decision : Decision) :
    Offers .monitor ports s (answerPath code request tag path decision t) := by
  unfold answerPath
  dsimp only
  split
  · exact offers_deferred h _
  · split
    · exact offers_reply h hv ..
    · split
      · exact offers_reply h hv ..
      · split
        · exact offers_reply h hv ..
        · exact offers_reply (offers_changePath h ..) hv ..

@[simp] theorem offers_clearPathRequest (tag path : Byte) :
    Offers .monitor ports s (clearPathRequest tag path t) := by
  unfold clearPathRequest
  dsimp only
  split
  · exact offers_deferred h _
  · split
    · exact offers_reply h hv ..
    · split
      · exact offers_reply h hv ..
      · exact offers_reply (offers_changePath h ..) hv ..

theorem offers_monitorStarts : Offers .monitor ports s (monitorStarts t) := by
  refine offers_takeWaiting (offers_buildMonitor h) hv fun c f u e k => ?_
  unfold monitorRequest at e
  split at e <;> cases e
  · exact offers_answerPath k hv ..
  · exact offers_answerPath k hv ..
  · exact offers_clearPathRequest k hv ..

end

end

end Sys2Proof.Machine
end

section
/-!
SUPPORT. The operations of the Budget Allocator, the Sign Publisher and the Table Store as operations of their blocks.
The Sign Publisher alone offers at both ports.
-/

namespace Sys2Proof.Machine

/-! ### The Budget Allocator -/

theorem examineEntries_noRequest (l : List MotionEntry) (a : Allocator) :
    ∀ e ∈ (examineEntries a l).2, waitsFor e = none := by
  induction l generalizing a with
  | nil => simp [examineEntries]
  | cons x rest ih =>
    unfold examineEntries
    split
    · intro e he
      rcases List.mem_cons.mp he with rfl | he
      · rfl
      · exact ih _ e he
    · simp

section
variable {ports : Port → Prop} {s t : State} (h : Offers .allocator ports s t)
include h

@[simp] theorem offers_examineQueue : Offers .allocator ports s (examineQueue t) := by
  unfold examineQueue
  split
  · exact offers_handAll (offers_withAllocator h _) (examineEntries_noRequest _ _)
  · exact h

@[simp] theorem offers_storeQueue (q : List MotionEntry) : Offers .allocator ports s (storeQueue q t) := by
  unfold storeQueue
  dsimp only
  split
  · exact offers_withAllocator h _
  · exact offers_examineQueue (offers_withAllocator h _)

@[simp] theorem offers_computeFigures : Offers .allocator ports s (computeFigures t) := offers_withAllocator h _

theorem offers_grantNotices (old new : Map Nat) : Offers .allocator ports s (t.handAll (grantNotices old new)) := by
  refine offers_handAll h fun e he => ?_
  obtain ⟨a, _, ha⟩ := List.mem_filterMap.mp he
  split at ha
  · cases ha
  · split at ha <;> cases ha
    rfl

@[simp] theorem offers_recompute (cause : BudgetCause) : Offers .allocator ports s (recompute cause t) := by
  have k : ∀ (old new : Map Nat) (x : Prop) [Decidable x], Offers .allocator ports s
      (if x then examineQueue ((computeFigures t).handAll (grantNotices old new))
        else (computeFigures t).handAll (grantNotices old new)) := by
    intro old new x _
    split
    · exact offers_examineQueue (offers_grantNotices (offers_computeFigures h) ..)
    · exact offers_grantNotices (offers_computeFigures h) ..
  unfold recompute
  dsimp only
  split
  · exact k ..
  · exact offers_report (k ..) ..

theorem offers_takeEarly {notice : Instr} {effect : State → State}
    (k : ∀ u, Offers .allocator ports s u → Offers .allocator ports s (effect u)) :
    Offers .allocator ports s (takeEarly notice effect t) := by
  unfold takeEarly
  split
  · exact k _ (offers_withHanded h fun e he => .inl (List.mem_filter.mp he).1)
  · exact h

@[simp] theorem offers_allocatorSigns : Offers .allocator ports s (allocatorSigns t) := by
  unfold allocatorSigns
  split
  · exact h
  · exact offers_recompute (offers_withAllocator h _) _

@[simp] theorem offers_allocatorGates : Offers .allocator ports s (allocatorGates t) := by
  unfold allocatorGates
  split
  · exact h
  · exact offers_recompute (offers_withAllocator h _) _

@[simp] theorem offers_refreshRequested (n : Nat) : Offers .allocator ports s (refreshRequested n t) := by
  unfold refreshRequested
  split
  · exact h
  · exact offers_recompute (offers_withAllocator h _) _

@[simp] theorem offers_allocatorSignsGone : Offers .allocator ports s (allocatorSignsGone t) :=
  offers_recompute (offers_withAllocator h _) _

@[simp] theorem offers_allocatorGatesGone : Offers .allocator ports s (allocatorGatesGone t) :=
  offers_recompute (offers_withAllocator h _) _

@[simp] theorem offers_allocatorSegmentsGone : Offers .allocator ports s (allocatorSegmentsGone t) :=
  offers_storeQueue (offers_withAllocator h _) _

@[simp] theorem offers_ensureSigns : Offers .allocator ports s (ensureSigns t) := by
  unfold ensureSigns
  split
  · exact offers_allocatorSigns (offers_takeEarly h fun _ k => offers_allocatorSignsGone k)
  · exact h

@[simp] theorem offers_ensureGates : Offers .allocator ports s (ensureGates t) := by
  unfold ensureGates
  split
  · exact offers_allocatorGates (offers_takeEarly h fun _ k => offers_allocatorGatesGone k)
  · exact h

@[simp] theorem offers_ensureSegments : Offers .allocator ports s (ensureSegments t) := by
  unfold ensureSegments
  split
  · exact offers_takeEarly h fun _ k => offers_allocatorSegmentsGone k
  · exact h

@[simp] theorem offers_budgetRegion (r : Region) (entered : Bool) :
    Offers .allocator ports s (budgetRegion r entered t) := by
  unfold budgetRegion
  split
  · exact offers_ensureSigns h
  · exact offers_allocatorSignsGone h
  · exact offers_ensureGates h
  · exact offers_allocatorGatesGone h
  · exact offers_recompute (offers_withAllocator h _) _
  · exact offers_allocatorSegmentsGone h
  · exact offers_ensureSegments h
  · exact h

@[simp] theorem offers_requestAdmission (k : Nat) (dir : Direction) (draw : Nat) :
    Offers .allocator ports s (requestAdmission k dir draw t) := by
  unfold requestAdmission
  dsimp only
  split
  · exact offers_examineQueue (offers_withAllocator (offers_ensureGates h) _)
  · exact offers_ensureGates h

@[simp] theorem offers_takeBack (k : Nat) : Offers .allocator ports s (takeBack k t) :=
  offers_examineQueue (offers_withAllocator h _)

@[simp] theorem offers_segmentUrgency (g : Nat) (urgent : Bool) :
    Offers .allocator ports s (segmentUrgency g urgent t) := by
  unfold segmentUrgency
  split
  · exact offers_storeQueue (offers_withAllocator (offers_ensureSegments h) _) _
  · exact h

@[simp] theorem offers_signLit (g : Nat) (lit : Bool) : Offers .allocator ports s (signLit g lit t) := by
  have k := offers_ensureSigns h
  unfold signLit
  dsimp only
  generalize (if lit then setInsert _ g else setRemove _ g) = l
  split
  · exact k
  · split
    · exact k
    · exact offers_recompute (offers_withAllocator k _) _

@[simp] theorem offers_lightChange (c : Nat) (status : ChannelStatus) (filtered : Int) :
    Offers .allocator ports s (lightChange c status filtered t) := by
  unfold lightChange
  split
  · exact offers_refreshRequested h _
  · exact h

@[simp] theorem offers_siteChanged (f : SiteField) : Offers .allocator ports s (siteChanged f t) := by
  unfold siteChanged
  split
  · exact h
  · split
    · exact offers_recompute h _
    · exact offers_refreshRequested h _
    · exact offers_refreshRequested h _
    all_goals exact h

@[simp] theorem offers_firstFigures : Offers .allocator ports s (firstFigures t) :=
  offers_withAllocator (offers_recompute (offers_withAllocator (offers_withAllocator h _) _) _) _

@[simp] theorem offers_setBudget (hv : ports .v) (tag : Byte) (budget : BitVec 16) :
    Offers .allocator ports s (setBudget tag budget t) := by
  unfold setBudget
  split
  · exact offers_deferred h _
  · exact offers_reply (offers_recompute (offers_withAllocator h _) _) hv ..

theorem offers_allocatorStarts (hv : ports .v) : Offers .allocator ports s (allocatorStarts t) := by
  refine offers_takeWaiting (offers_handAll (offers_firstFigures h) (noRequest_map fun _ => rfl)) hv fun c f u e k => ?_
  unfold allocatorRequest at e
  split at e <;> cases e
  exact offers_setBudget k hv ..

end

/-! ### The Sign Publisher -/

section
variable {s t : State} (h : Offers .publisher (fun _ => True) s t)
include h

@[simp] theorem offers_withSign (g : Nat) (r : SignRec) : Offers .publisher (fun _ => True) s (t.withSign g r) :=
  offers_withPublisher h _

@[simp] theorem offers_withHold (p : Port) (l : List Nat) : Offers .publisher (fun _ => True) s (t.withHold p l) :=
  offers_withPublisher h _

@[simp] theorem offers_withSweep (w : Option Sweep) : Offers .publisher (fun _ => True) s (t.withSweep w) :=
  offers_withPublisher h _

@[simp] theorem offers_attempt (g : Nat) (front : Bool) :
    Offers .publisher (fun _ => True) s (attempt g front t).1 := by
  unfold attempt
  split
  · next r row _ _ =>
    have k := h.offered (p := row.port) (kind := .faceSet) (dest := BitVec.ofNat 10 row.address)
      (payload := faceSetPayload (r.token + 1) r.desired) trivial
    dsimp only
    split
    · next u e => rw [e] at k; exact offers_withSign k ..
    · next u e => rw [e] at k; exact offers_withHold (offers_withSign k ..) ..
  · exact h

@[simp] theorem offers_startCycle (g : Nat) : Offers .publisher (fun _ => True) s (startCycle g t) := by
  unfold startCycle
  split
  · exact h
  · exact offers_attempt (offers_withSign h ..) ..

theorem offers_serveHeld (p : Port) (l : List Nat) : Offers .publisher (fun _ => True) s (serveHeld p l t) := by
  induction l generalizing t with
  | nil => exact h
  | cons g rest ih =>
    have k := offers_attempt (offers_withHold h p rest) g true
    unfold serveHeld
    split
    · next u e => rw [e] at k; exact ih k
    · next u e => rw [e] at k; exact k

@[simp] theorem offers_refreshDesired (g : Nat) : Offers .publisher (fun _ => True) s (refreshDesired g t) := by
  unfold refreshDesired
  split
  · exact h
  · dsimp only
    split
    · exact h
    · split
      · split
        · exact offers_withSign h ..
        · exact offers_startCycle (offers_withSign h ..) g
      · exact offers_withSign h ..
      · exact offers_withSign h ..

@[simp] theorem offers_decideSign (g : Nat) : Offers .publisher (fun _ => True) s (decideSign g t) := by
  unfold decideSign
  split
  · dsimp only
    refine offers_refreshDesired ?_ g
    split
    · exact offers_withSign h ..
    · exact offers_hand (offers_withSign h ..) rfl
  · exact h

theorem offers_decideSigns (l : List Nat) : Offers .publisher (fun _ => True) s (forEach l decideSign t) :=
  offers_forEach h fun g _ hu => offers_decideSign hu g

@[simp] theorem offers_viewSegment (g : Nat) (f : SegmentView → SegmentView) :
    Offers .publisher (fun _ => True) s (viewSegment g f t) := by
  unfold viewSegment
  split
  · exact h
  · exact offers_decideSigns (offers_withPublisher h _) _

@[simp] theorem offers_viewPath (p : Nat) (on : Bool) (mask : Byte) :
    Offers .publisher (fun _ => True) s (viewPath p on mask t) := offers_decideSigns (offers_withPublisher h _) _

@[simp] theorem offers_takeGranted (g level : Nat) : Offers .publisher (fun _ => True) s (takeGranted g level t) := by
  unfold takeGranted
  split
  · exact h
  · exact offers_refreshDesired (offers_withSign h ..) g

@[simp] theorem offers_sweepDone (w : Sweep) : Offers .publisher (fun _ => True) s (sweepDone w t) :=
  offers_reply (offers_withSweep h _) trivial ..

@[simp] theorem offers_sweepStop (w : Sweep) (reason : Byte) :
    Offers .publisher (fun _ => True) s (sweepStop w reason t) := offers_reply (offers_withSweep h _) trivial ..

@[simp] theorem offers_sweepTake (w : Sweep) : Offers .publisher (fun _ => True) s (sweepTake w t) := by
  unfold sweepTake
  split
  · exact offers_sweepDone h w
  · split
    · exact offers_sweepStop h ..
    · split
      · exact offers_withSweep (offers_startCycle h _) _
      · exact offers_withSweep h _

@[simp] theorem offers_sweepOwnEnd (w : Sweep) (status : SignStatus) :
    Offers .publisher (fun _ => True) s (sweepOwnEnd w status t) := by
  unfold sweepOwnEnd
  split
  · exact offers_sweepTake h _
  · exact offers_sweepStop h ..

@[simp] theorem offers_cycleEnd (g : Nat) (status : SignStatus) :
    Offers .publisher (fun _ => True) s (cycleEnd g status t) := by
  have k : ∀ (x : Prop) [Decidable x] r, Offers .publisher (fun _ => True) s
      (if x then startCycle g (t.withSign g r) else t.withSign g r) := by
    intro x _ r
    split
    · exact offers_startCycle (offers_withSign h ..) g
    · exact offers_withSign h ..
  unfold cycleEnd
  split
  · dsimp only
    split
    · exact k ..
    · split
      · split
        · exact offers_sweepOwnEnd (k ..) ..
        · exact offers_withSweep (offers_startCycle (offers_withSign h ..) g) _
      · exact k ..
  · exact h

@[simp] theorem offers_signReport (g : Nat) (old : SignRec) (mismatch : Bool) :
    Offers .publisher (fun _ => True) s (signReport g old mismatch t) := by
  unfold signReport
  split
  · exact h
  · split
    · exact h
    · exact offers_report h ..

@[simp] theorem offers_failAttempt (g : Nat) (old r : SignRec) :
    Offers .publisher (fun _ => True) s (failAttempt g old r t) := by
  unfold failAttempt
  split
  · exact offers_signReport (offers_attempt (offers_withSign h ..) ..) ..
  · exact offers_signReport (offers_cycleEnd (offers_withSign h ..) ..) ..

@[simp] theorem offers_takeReport (a : Arrival) : Offers .publisher (fun _ => True) s (takeReport a t) := by
  unfold takeReport
  split
  · split
    · unfold reportAt
      split
      · exact h
      · split
        · dsimp only
          split
          · exact offers_signReport (offers_cycleEnd (offers_hand (offers_withSign h ..) rfl) ..) ..
          · exact offers_failAttempt h ..
        · exact h
    · exact h
  · exact h

@[simp] theorem offers_setForced (g : Nat) (f : Option (Byte × Nat)) :
    Offers .publisher (fun _ => True) s (setForced g f t) := by
  unfold setForced
  split
  · exact h
  · exact offers_decideSign (offers_withSign h ..) g

@[simp] theorem offers_forceFace (tag sign face : Byte) (duration : BitVec 16) :
    Offers .publisher (fun _ => True) s (forceFace tag sign face duration t) := by
  unfold forceFace
  dsimp only
  split
  · exact offers_deferred h _
  · split
    · exact offers_reply h trivial ..
    · split
      · exact offers_reply h trivial ..
      · refine offers_reply ?_ trivial ..
        split
        · exact h
        · exact offers_setForced h ..

@[simp] theorem offers_signSweep (tag : Byte) (signs : List Byte) :
    Offers .publisher (fun _ => True) s (signSweep tag signs t) := by
  unfold signSweep
  split
  · exact offers_deferred h _
  · split
    · exact offers_reply h trivial ..
    · split
      · exact offers_reply h trivial ..
      · split
        · exact offers_reply h trivial ..
        · split
          · exact offers_reply h trivial ..
          · exact offers_sweepTake h _

@[simp] theorem offers_publishSign (wasLit : Nat → Bool) (g : Nat) :
    Offers .publisher (fun _ => True) s (publishSign wasLit g t) := by
  unfold publishSign
  split
  · dsimp only
    refine offers_startCycle ?_ g
    split
    · exact offers_withSign h ..
    · exact offers_hand (offers_withSign h ..) rfl
  · exact h

@[simp] theorem offers_buildSigns (wasLit : Nat → Bool) :
    Offers .publisher (fun _ => True) s (buildSigns wasLit t) := by
  refine offers_forEach (offers_withPublisher ?_ _) fun g _ hu => offers_publishSign hu wasLit g
  exact (offers_withPublisher h _).trans (.mono publisher_covers_allocator (offers_ensureSigns .refl))

@[simp] theorem offers_signsEnter : Offers .publisher (fun _ => True) s (signsEnter t) := by
  unfold signsEnter
  split
  · exact offers_buildSigns h _
  · exact h

@[simp] theorem offers_signsLeave : Offers .publisher (fun _ => True) s (signsLeave t) := by
  unfold signsLeave
  dsimp only
  split
  · exact offers_withPublisher h _
  · exact offers_sweepStop (offers_withPublisher h _) ..

@[simp] theorem offers_signerSegments (entered : Bool) :
    Offers .publisher (fun _ => True) s (signerSegments entered t) := offers_decideSigns (offers_withPublisher h _) _

@[simp] theorem offers_rebuildSigns (started : Bool) (wasLit : Nat → Bool) :
    Offers .publisher (fun _ => True) s (rebuildSigns started wasLit t) := by
  unfold rebuildSigns
  dsimp only
  split
  · exact offers_buildSigns (offers_withPublisher (offers_withPublisher h _) _) _
  · exact offers_withPublisher (offers_withPublisher h _) _

theorem offers_publisherStarts : Offers .publisher (fun _ => True) s (publisherStarts t) := by
  refine offers_takeWaiting (offers_rebuildSigns h ..) trivial fun c f u e k => ?_
  unfold publisherRequest at e
  split at e <;> cases e
  · exact offers_forceFace k ..
  · exact offers_signSweep k ..

end

/-! ### The Table Store -/

theorem entryNotices_noRequest (r : Region) : ∀ e ∈ entryNotices r, waitsFor e = none := by cases r <;> decide
theorem exitNotices_noRequest (r : Region) : ∀ e ∈ exitNotices r, waitsFor e = none := by cases r <;> decide

/-- A request at the Table Store waits, or is taken. -/
theorem offers_whenFree {b : Touched} {ports : Port → Prop} {s t : State} (h : Offers b ports s t) {c : Instr}
    {f : State → State} (k : Offers b ports s (f t)) : Offers b ports s (whenFree c f t) := by
  unfold whenFree
  split
  · exact offers_deferred h c
  · exact k

/-- A request that names a region is refused, or taken. -/
theorem offers_onRegion {b : Touched} {ports : Port → Prop} {s t : State} (h : Offers b ports s t) (hv : ports .v)
    {code tag region : Byte} {f : Region → State → State} (k : ∀ r, Offers b ports s (f r t)) :
    Offers b ports s (onRegion code tag region f t) := by
  unfold onRegion
  split
  · exact offers_reply h hv ..
  · exact k _

theorem offers_regionReport {b : Touched} {ports : Port → Prop} {s t : State} (h : Offers b ports s t)
    (cause : RegionCause) (r : Region) : Offers b ports s (regionReport cause t r) := offers_report h ..

section
variable {ports : Port → Prop} {s t : State} (h : Offers .store ports s t)
include h

@[simp] theorem offers_withRegion (r : Region) (x : RegionRecord) : Offers .store ports s (t.withRegion r x) :=
  offers_withStore h _

@[simp] theorem offers_withField (f : SiteField) (v : BitVec 16) : Offers .store ports s (t.withField f v) :=
  offers_withStore h _

theorem offers_writeRows (r : Region) (i : Nat) (rows : List Bytes) :
    Offers .store ports s (writeRows r i rows t).1 := by
  induction rows generalizing i t with
  | nil => exact h
  | cons row rest ih =>
    unfold writeRows
    split
    · exact h
    · exact ih (offers_withRegion h ..) _

theorem offers_lineConnected : Offers .store ports s (lineConnected t) :=
  offers_withStore (offers_foldl h fun r _ hu => offers_regionReport hu _ r) _

/-- The clear of a region without claims to convert. -/
theorem offers_clearChannels (hv : ports .v) : Offers .store ports s (clearOne .channels t) := by
  unfold clearOne
  dsimp only
  split
  · exact offers_handAll (offers_flushReports (offers_withStore (offers_withRegion h ..) _) hv)
      (exitNotices_noRequest _)
  · exact offers_withStore (offers_withRegion h ..) _

theorem offers_takeClearAll (hv : ports .v) (tag : Byte) : Offers .store ports s (takeClearAll tag t) := by
  refine offers_whenFree h ?_
  unfold beginClearAll
  split
  · exact offers_reply h hv ..
  · exact offers_withStore (offers_clearChannels h hv) _

variable (hv : ports .v)
include hv

theorem offers_takeOpen (tag region count : Byte) : Offers .store ports s (takeOpen tag region count t) := by
  refine offers_whenFree h (offers_onRegion h hv fun r => ?_)
  unfold openRegion
  split
  · exact offers_reply h hv ..
  · split
    · exact offers_reply h hv ..
    · exact offers_reply (offers_withRegion h ..) hv ..

theorem offers_takeWrite (tag region first count : Byte) (rows : List Bytes) :
    Offers .store ports s (takeWrite tag region first count rows t) := by
  refine offers_whenFree h (offers_onRegion h hv fun r => ?_)
  have k := offers_writeRows h r first.toNat (rows.take count.toNat)
  unfold writeRequest
  split
  · exact offers_reply h hv ..
  · split
    · exact offers_reply h hv ..
    · split
      · next e => rw [e] at k; exact offers_reply k hv ..
      · next e => rw [e] at k; exact offers_reply k hv ..

theorem offers_takeActivate (tag region : Byte) (check : BitVec 16) :
    Offers .store ports s (takeActivate tag region check t) := by
  refine offers_whenFree h (offers_onRegion h hv fun r => ?_)
  unfold activateRequest
  split
  · exact offers_reply h hv ..
  · exact offers_regionReport
      (offers_reply (offers_handAll (offers_withRegion h ..) (entryNotices_noRequest r)) hv ..) ..

end

section
variable {b : Touched} {ports : Port → Prop} {s t : State} (h : Offers b ports s t) (hv : ports .v)
include h hv

theorem offers_takeRead (tag region first count : Byte) : Offers b ports s (takeRead tag region first count t) := by
  refine offers_whenFree h (offers_onRegion h hv fun r => ?_)
  unfold readRequest
  split <;> exact offers_reply h hv ..

theorem offers_takeBlank (tag region : Byte) : Offers b ports s (takeBlank tag region t) := by
  refine offers_whenFree h (offers_onRegion h hv fun r => ?_)
  unfold blankRequest
  split <;> exact offers_reply h hv ..

theorem offers_takeSiteRead (tag : Byte) : Offers b ports s (takeSiteRead tag t) :=
  offers_whenFree h (offers_reply h hv ..)

end

section
variable {ports : Port → Prop} {s t : State} (h : Offers .storeAndSequencer ports s t) (hv : ports .v)
include h

theorem offers_convertRegion (r : Region) : Offers .storeAndSequencer ports s (convertRegion r t) := by
  unfold convertRegion
  split
  · exact h.trans (.mono storeAndSequencer_covers_sequencer (offers_convertPaths .refl))
  · exact h.trans (.mono storeAndSequencer_covers_sequencer (offers_convertSchedule .refl))
  · exact h

include hv

theorem offers_clearOne (r : Region) : Offers .storeAndSequencer ports s (clearOne r t) := by
  have k : Offers .storeAndSequencer ports s _ :=
    h.trans (.mono storeAndSequencer_covers_store (offers_withStore (offers_withRegion .refl r cleared)
      { (t.withRegion r cleared).store with
        startList := (t.withRegion r cleared).store.startList.filter fun x => x != r }))
  unfold clearOne
  dsimp only
  split
  · exact offers_handAll (offers_flushReports (offers_convertRegion k r) hv) (exitNotices_noRequest r)
  · exact k

theorem offers_takeClear (tag region : Byte) : Offers .storeAndSequencer ports s (takeClear tag region t) := by
  refine offers_whenFree h (offers_onRegion h hv fun r => ?_)
  unfold clearRequest
  split
  · exact offers_reply h hv ..
  · exact offers_regionReport (offers_reply (offers_clearOne h hv r) hv ..) ..

end

theorem offers_takeSiteWrite {ports : Port → Prop} {s t : State} (h : Offers .storeAndAllocator ports s t)
    (hv : ports .v) (tag field : Byte) (value : BitVec 16) :
    Offers .storeAndAllocator ports s (takeSiteWrite tag field value t) := by
  refine offers_whenFree h ?_
  unfold siteWrite
  split
  · exact offers_reply h hv ..
  · next f _ =>
    exact ((offers_reply h hv ..).trans (.mono storeAndAllocator_covers_store (offers_withField .refl ..))).trans
      (.mono storeAndAllocator_covers_allocator (offers_siteChanged .refl f))

/-! ### A CLEAR ALL that goes on -/

section
variable {ports : Port → Prop} {s t : State} (h : Offers .storeAndJobs ports s t) (hv : ports .v)
include h hv

theorem offers_tableRequest {c : Instr} {f : State → State} (e : tableRequest c = some f) :
    Offers .storeAndJobs ports s (f t) := by
  unfold tableRequest at e
  split at e <;> cases e
  · exact h.trans (.mono storeAndJobs_covers_store (offers_takeOpen .refl hv ..))
  · exact h.trans (.mono storeAndJobs_covers_store (offers_takeWrite .refl hv ..))
  · exact offers_takeRead h hv ..
  · exact offers_takeBlank h hv ..
  · exact h.trans (.mono storeAndJobs_covers_store (offers_takeActivate .refl hv ..))
  · exact h.trans (.mono storeAndJobs_covers_storeAndSequencer (offers_takeClear .refl hv ..))
  · exact h.trans (.mono storeAndJobs_covers_store (offers_takeClearAll .refl hv _))
  · exact h.trans (.mono storeAndJobs_covers_storeAndAllocator (offers_takeSiteWrite .refl hv ..))
  · exact offers_takeSiteRead h hv _

theorem offers_endClearAll (tag result : Byte) (data : Bytes) (n : Nat) :
    Offers .storeAndJobs ports s (endClearAll tag result data n t) := by
  refine offers_takeWaiting (offers_foldl (offers_reply ?_ hv ..) fun r _ hu => offers_regionReport hu _ r) hv
    fun c f u e k => offers_tableRequest k hv e
  exact h.trans (.mono storeAndJobs_covers_store (offers_withStore .refl _))

theorem offers_clearGoesOn : Offers .storeAndJobs ports s (clearGoesOn t) := by
  have cleared : ∀ r, Offers .storeAndJobs ports s (clearOne r t) := fun r =>
    h.trans (.mono storeAndJobs_covers_storeAndSequencer (offers_clearOne .refl hv r))
  unfold clearGoesOn
  split
  · exact h
  · refine offers_flushReports ?_ hv
    unfold clearNext
    split
    · exact offers_endClearAll h hv ..
    · split
      · exact offers_endClearAll h hv ..
      · split
        · exact (cleared _).trans (.mono storeAndJobs_covers_store (offers_withStore .refl _))
        · exact offers_endClearAll (cleared _) hv ..

end

end Sys2Proof.Machine
end

section
/-!
SUPPORT. What each command of a job does: operations of its blocks and offers, at port V but for those of the Sign
Publisher, from the running time the command happens at.
-/

namespace Sys2Proof.Machine

/-- The ports at which the commands of a block offer. -/
def offeredAt : Touched → Port → Prop
  | .publisher => fun _ => True
  | _ => fun p => p = .v

/-- `t` is reached from `s`, at the running time of the command `c`, by operations of the blocks that `c` touches and
by offers. -/
def Brings (c : Instr) (s t : State) : Prop :=
  ∃ n, (movesTime c = false → n = s.time) ∧ Offers (touched c) (offeredAt (touched c)) (s.withTime n) t

section
variable {c : Instr} {s t : State}

/-- At the running time that stands. -/
theorem Brings.of_offers (h : Offers (touched c) (offeredAt (touched c)) s t) : Brings c s t :=
  ⟨s.time, fun _ => rfl, h⟩

/-- At the time of an expiry. -/
theorem Brings.of_reach {n : Nat} (m : movesTime c = true)
    (h : Offers (touched c) (offeredAt (touched c)) (s.withTime n) t) : Brings c s t :=
  ⟨n, fun e => absurd (m.symm.trans e) (by decide), h⟩

theorem offeredAt_v (b : Touched) : offeredAt b .v := by cases b <;> trivial

/-- The frame every meaning stands in is one of them: the event no longer waits, and the reports go out. -/
theorem taken_brings {effect : State → State} (h : taken c effect s = .next t) (k : ∀ u, Brings c u (effect u)) :
    Brings c s t := by
  rcases taken_next h with ⟨-, rfl⟩ | ⟨-, rfl⟩
  · exact .of_offers .refl
  · obtain ⟨n, time, o⟩ := k (s.withHanded (s.handed.erase c))
    have start : Offers (touched c) (offeredAt (touched c)) (s.withTime n)
        ((s.withTime n).withHanded (s.handed.erase c)) :=
      offers_withHanded .refl fun e he => .inl (List.mem_of_mem_erase he)
    exact ⟨n, time, offers_flushReports (start.trans o) (offeredAt_v _)⟩

end

/-! ### The expiries -/

section
variable (s : State)

theorem brings_ageExpired (c : Nat) : Brings (.ageTimerExpiry c) s (ageExpired c s) := by
  unfold ageExpired
  split
  · exact .of_offers .refl
  · split
    · exact .of_offers .refl
    · exact .of_reach rfl (offers_storeChannel .refl ..)

theorem brings_holdExpired (g : Nat) : Brings (.descentHoldExpiry g) s (holdExpired g s) := by
  unfold holdExpired
  split
  · exact .of_offers .refl
  · split
    · exact .of_offers .refl
    · exact .of_reach rfl (offers_storeGrade .refl ..)

theorem brings_deadExpired (i : Nat) : Brings (.deadTimerExpiry i) s (deadExpired i s) := by
  unfold deadExpired
  split
  · exact .of_offers .refl
  · split
    · exact .of_offers .refl
    · exact .of_reach rfl (offers_withInput .refl ..)

theorem brings_pathAgeOut (p : Nat) : Brings (.ageOut p) s (pathAgeOut p s) := by
  unfold pathAgeOut
  split
  · split
    · exact .of_offers .refl
    · exact .of_reach rfl (offers_changePath .refl ..)
  · exact .of_offers .refl

theorem brings_clearExpired (p : Nat) : Brings (.clearWaitExpiry p) s (clearExpired p s) := by
  unfold clearExpired
  split
  · exact .of_offers .refl
  · exact .of_reach rfl (offers_changePath .refl ..)

theorem brings_confirmExpired (p : Nat) : Brings (.confirmWaitExpiry p) s (confirmExpired p s) := by
  unfold confirmExpired
  split
  · exact .of_offers .refl
  · exact .of_reach rfl (offers_changePath .refl ..)

theorem brings_leadExpired (g : Nat) : Brings (.leadTimerExpiry g) s (leadExpired g s) := by
  unfold leadExpired
  split
  · exact .of_offers .refl
  · exact .of_reach rfl (offers_leadStep .refl g)

theorem brings_graceExpired (g : Nat) : Brings (.graceTimerExpiry g) s (graceExpired g s) := by
  unfold graceExpired
  split
  · exact .of_offers .refl
  · exact .of_reach rfl (offers_graceStep .refl g)

theorem brings_clockSecond : Brings .clockSecond s (clockSecond s) := by
  unfold clockSecond
  split
  · exact .of_offers .refl
  · exact .of_reach rfl (offers_sequencerEvent (offers_withClock .refl _) _ fun _ k => offers_evaluateSchedule k)

theorem brings_gateExpiry {c : Instr} {k : Nat} {timer : GateRec → Option Nat}
    {f : GateRec → GateRow → State → GateRun} (m : movesTime c = true) (d : touched c = .drives)
    (hf : ∀ u g row, Offers .drives (offeredAt .drives) u (f g row u).1) : Brings c s (gateExpiry k timer f s) := by
  unfold gateExpiry
  split
  · exact .of_offers .refl
  · exact .of_reach m (by rw [d]; exact offers_gateEvent .refl k fun _ _ => hf ..)

theorem brings_setLoopFault (k : Nat) : Brings (.loopFaultSet k) s (setLoopFault k s) := by
  unfold setLoopFault
  split
  · exact .of_offers .refl
  · exact .of_reach rfl (offers_gateEvent .refl k fun _ _ => offers_askLowering .refl ..)

theorem brings_clearanceHolds (k : Nat) : Brings (.presenceClearance k) s (clearanceHolds k s) := by
  unfold clearanceHolds
  split
  · exact .of_offers .refl
  · exact .of_reach rfl (offers_gateEvent .refl k fun _ _ => offers_askLowering .refl ..)

theorem brings_forcedExpired (g : Nat) : Brings (.forcedTimerExpiry g) s (forcedExpired g s) := by
  unfold forcedExpired
  split
  · exact .of_offers .refl
  · exact .of_reach rfl (offers_setForced .refl ..)

theorem brings_replyExpired (g : Nat) : Brings (.replyTimerExpiry g) s (replyExpired g s) := by
  unfold replyExpired
  split
  · exact .of_offers .refl
  · split
    · exact .of_offers .refl
    · exact .of_reach rfl (offers_failAttempt .refl ..)

theorem brings_republishExpired (g : Nat) : Brings (.republishTimerExpiry g) s (republishExpired g s) := by
  unfold republishExpired
  split
  · exact .of_offers .refl
  · exact .of_reach rfl (offers_startCycle .refl g)

end

/-! ### Every command of a job -/

/-- Every command but those of the Line Switch, the Responder, and the supply. -/
theorem exec_brings {c : Instr} {s t : State} (h : exec c s = .next t) (whole : touched c ≠ .whole)
    (line : touched c ≠ .lineOnly) : Brings c s t := by
  cases c with
  | powerOn _ | supplyLost _ => exact absurd rfl whole
  | carrierDetected _ | carrierLost _ | frameReceived _ _ | silenceTimerExpiry | frameOffered _ _ _ _
  | transmissionComplete _ | restartTakesEffect | manageFrame _ | unknownRequest _ _ | readRows _ _ _ _
  | blankCheck _ _ | siteRead _ | sectionStatus _ | channelQuery _ _ | segmentQuery _ _ _ | pathQuery _ _
  | gateQuery _ _ | signQuery _ _ | restart _ => exact absurd rfl line
  | sampleIntakeStart => exact taken_brings h fun _ => .of_offers (offers_intakeStarts .refl)
  | gradeEvaluatorStart => exact taken_brings h fun _ => .of_offers (offers_graderStarts .refl (offeredAt_v _))
  | pathMonitorStart => exact taken_brings h fun _ => .of_offers (offers_monitorStarts .refl (offeredAt_v _))
  | gateDriveStart => exact taken_brings h fun _ => .of_offers (offers_drivesStart .refl (offeredAt_v _))
  | closureSequencerStart => exact taken_brings h fun _ => .of_offers (offers_sequencerStarts .refl (offeredAt_v _))
  | budgetAllocatorStart => exact taken_brings h fun _ => .of_offers (offers_allocatorStarts .refl (offeredAt_v _))
  | signPublisherStart => exact taken_brings h fun _ => .of_offers (offers_publisherStarts .refl)
  | spaceSignal p => exact taken_brings h fun _ => .of_offers (offers_serveHeld .refl p _)
  | sampleIntakeRestart => exact taken_brings h fun _ => .of_offers (offers_intakeRestarts .refl)
  | gradeEvaluatorRestart => exact taken_brings h fun _ => .of_offers (offers_graderRestarts .refl)
  | pathMonitorRestart => exact taken_brings h fun _ => .of_offers (offers_monitorRestarts .refl)
  | signPublisherRestart => exact taken_brings h fun _ => .of_offers (offers_rebuildSigns .refl ..)
  | lineConnectedNotice => exact taken_brings h fun _ => .of_offers (offers_lineConnected .refl)
  | lineIsolatedNotice => exact taken_brings h fun _ => .of_offers (offers_lineIsolated .refl)
  | openRegion _ _ _ => exact taken_brings h fun _ => .of_offers (offers_takeOpen .refl (offeredAt_v _) ..)
  | writeRows _ _ _ _ _ => exact taken_brings h fun _ => .of_offers (offers_takeWrite .refl (offeredAt_v _) ..)
  | activateRegion _ _ _ => exact taken_brings h fun _ => .of_offers (offers_takeActivate .refl (offeredAt_v _) ..)
  | clearRegion _ _ => exact taken_brings h fun _ => .of_offers (offers_takeClear .refl (offeredAt_v _) ..)
  | clearAll tag => exact taken_brings h fun _ => .of_offers (offers_takeClearAll .refl (offeredAt_v _) tag)
  | siteWrite _ _ _ => exact taken_brings h fun _ => .of_offers (offers_takeSiteWrite .refl (offeredAt_v _) ..)
  | channelsIntoService => exact taken_brings h fun _ => .of_offers (offers_intakeEnters .refl)
  | channelsOutOfService => exact taken_brings h fun _ => .of_offers (offers_intakeLeaves .refl)
  | sampleFrame a => exact taken_brings h fun _ => .of_offers (offers_takeSample .refl a)
  | ageTimerExpiry c => exact taken_brings h fun u => brings_ageExpired u c
  | channelUpdate _ => exact taken_brings h fun _ => .of_offers (offers_applyFlags .refl _)
  | gradeRulesIntoService => exact taken_brings h fun _ => .of_offers (offers_rulesEnter .refl)
  | gradeRulesOutOfService => exact taken_brings h fun _ => .of_offers (offers_rulesLeave .refl)
  | graderSegmentsIntoService => exact taken_brings h fun _ => .of_offers (offers_gradesEnter .refl)
  | graderSegmentsOutOfService => exact taken_brings h fun _ => .of_offers (offers_dropGrades .refl)
  | graderChannelsNotice _ => exact taken_brings h fun _ => .of_offers (offers_applyFlags .refl _)
  | descentHoldExpiry g => exact taken_brings h fun u => brings_holdExpired u g
  | holdGrade _ _ _ => exact taken_brings h fun _ => .of_offers (offers_holdGrade .refl (offeredAt_v _) ..)
  | gradeEvent _ _ _ =>
    exact taken_brings h fun _ => .of_offers (offers_sequencerEvent .refl _ fun _ k => offers_takeGrade k ..)
  | gradeNotice g _ => exact taken_brings h fun _ => .of_offers (offers_viewSegment .refl g _)
  | countingInputEdge _ _ => exact taken_brings h fun _ => .of_offers (offers_inputEdge .refl ..)
  | tripwireInputEdge _ _ => exact taken_brings h fun _ => .of_offers (offers_inputEdge .refl ..)
  | unassignedInputEdge _ _ => exact taken_brings h fun _ => .of_offers (offers_inputEdge .refl ..)
  | deadTimerExpiry i => exact taken_brings h fun u => brings_deadExpired u i
  | detectFrame a => exact taken_brings h fun _ => .of_offers (offers_takeDetect .refl a)
  | ageOut p => exact taken_brings h fun u => brings_pathAgeOut u p
  | clearWaitExpiry p => exact taken_brings h fun u => brings_clearExpired u p
  | confirmWaitExpiry p => exact taken_brings h fun u => brings_confirmExpired u p
  | confirmPath _ _ => exact taken_brings h fun _ => .of_offers (offers_answerPath .refl (offeredAt_v _) ..)
  | declinePath _ _ => exact taken_brings h fun _ => .of_offers (offers_answerPath .refl (offeredAt_v _) ..)
  | clearPath _ _ => exact taken_brings h fun _ => .of_offers (offers_clearPathRequest .refl (offeredAt_v _) ..)
  | pathsIntoService => exact taken_brings h fun _ => .of_offers (offers_pathsEnter .refl)
  | pathsOutOfService => exact taken_brings h fun _ => .of_offers (offers_pathsLeave .refl)
  | warningNotice _ _ _ => exact taken_brings h fun _ => .of_offers (offers_viewPath .refl ..)
  | claimPlacement _ _ _ => exact taken_brings h fun _ => .of_offers (offers_placement .refl ..)
  | claimRemoval _ _ => exact taken_brings h fun _ => .of_offers (offers_removal .refl ..)
  | closeSegment _ _ _ => exact taken_brings h fun _ => .of_offers (offers_closeSegment .refl (offeredAt_v _) ..)
  | releaseSegment _ _ => exact taken_brings h fun _ => .of_offers (offers_releaseSegment .refl (offeredAt_v _) ..)
  | leadTimerExpiry g => exact taken_brings h fun u => brings_leadExpired u g
  | graceTimerExpiry g => exact taken_brings h fun u => brings_graceExpired u g
  | confirmationNotice _ _ => exact taken_brings h fun _ => .of_offers (offers_confirmation .refl ..)
  | gateStateNotice k => exact taken_brings h fun _ => .of_offers (offers_gateNotice .refl k)
  | clockSecond => exact taken_brings h fun u => brings_clockSecond u
  | setTime _ _ _ _ => exact taken_brings h fun _ => .of_offers (offers_setTime .refl (offeredAt_v _) ..)
  | segmentsIntoService => exact taken_brings h fun _ => .of_offers (offers_segmentsEnter .refl)
  | segmentsOutOfService => exact taken_brings h fun _ => .of_offers (offers_dropSegments .refl)
  | gatesBuiltNotice => exact taken_brings h fun _ => .of_offers (offers_gatesBuilt .refl)
  | sequencerGatesOutOfService => exact taken_brings h fun _ => .of_offers (offers_gatesGone .refl)
  | scheduleIntoService => exact taken_brings h fun _ => .of_offers (offers_scheduleEnters .refl)
  | segmentNotice g _ _ => exact taken_brings h fun _ => .of_offers (offers_viewSegment .refl g _)
  | urgencyNotice _ _ => exact taken_brings h fun _ => .of_offers (offers_segmentUrgency .refl ..)
  | orderEvent k _ =>
    exact taken_brings h fun _ => .of_offers (offers_gateEvent .refl k fun _ _ => offers_takeOrder .refl ..)
  | gatesIntoService => exact taken_brings h fun _ => .of_offers (offers_gatesEnter .refl)
  | gatesOutOfService => exact taken_brings h fun _ => .of_offers (offers_gatesLeave .refl)
  | encoderEdge _ _ _ _ _ => exact taken_brings h fun _ => .of_offers (offers_encoderEdge .refl ..)
  | startDelayExpiry k => exact taken_brings h fun u => brings_gateExpiry u rfl rfl fun _ _ _ => offers_putGate .refl ..
  | settleExpiry k => exact taken_brings h fun u => brings_gateExpiry u rfl rfl fun _ _ _ => offers_settleEnd .refl ..
  | reversalDwellExpiry k =>
    exact taken_brings h fun u => brings_gateExpiry u rfl rfl fun _ _ _ => offers_dwellEnd .refl ..
  | stallTimerExpiry k => exact taken_brings h fun u => brings_gateExpiry u rfl rfl fun _ _ _ => offers_goFault .refl ..
  | travelTimerExpiry k =>
    exact taken_brings h fun u => brings_gateExpiry u rfl rfl fun _ _ _ => offers_goFault .refl ..
  | safetyEdgeChange _ _ => exact taken_brings h fun _ => .of_offers (offers_safetyEdge .refl ..)
  | loopEdge _ _ => exact taken_brings h fun _ => .of_offers (offers_loopEdge .refl ..)
  | loopFaultSet k => exact taken_brings h fun u => brings_setLoopFault u k
  | presenceClearance k => exact taken_brings h fun u => brings_clearanceHolds u k
  | vehicleWaitExpiry k =>
    exact taken_brings h fun u => brings_gateExpiry u rfl rfl fun _ _ _ => offers_putGate .refl ..
  | grant _ _ => exact taken_brings h fun _ => .of_offers (offers_takeGrant .refl ..)
  | gateStop _ _ => exact taken_brings h fun _ => .of_offers (offers_gateStop .refl (offeredAt_v _) ..)
  | gateResume _ _ => exact taken_brings h fun _ => .of_offers (offers_gateResume .refl (offeredAt_v _) ..)
  | admissionRequest _ _ _ => exact taken_brings h fun _ => .of_offers (offers_requestAdmission .refl ..)
  | handBack k => exact taken_brings h fun _ => .of_offers (offers_takeBack .refl k)
  | requestWithdrawn _ => exact taken_brings h fun _ => .of_offers (offers_storeQueue .refl _)
  | setBudget _ _ => exact taken_brings h fun _ => .of_offers (offers_setBudget .refl (offeredAt_v _) ..)
  | lightChannelChange _ _ _ => exact taken_brings h fun _ => .of_offers (offers_lightChange .refl ..)
  | litNotice _ _ => exact taken_brings h fun _ => .of_offers (offers_signLit .refl ..)
  | budgetRegionNotice _ _ => exact taken_brings h fun _ => .of_offers (offers_budgetRegion .refl ..)
  | grantNotice _ _ => exact taken_brings h fun _ => .of_offers (offers_takeGranted .refl ..)
  | forceFace _ _ _ _ => exact taken_brings h fun _ => .of_offers (offers_forceFace .refl ..)
  | forcedTimerExpiry g => exact taken_brings h fun u => brings_forcedExpired u g
  | faceReport a => exact taken_brings h fun _ => .of_offers (offers_takeReport .refl a)
  | replyTimerExpiry g => exact taken_brings h fun u => brings_replyExpired u g
  | republishTimerExpiry g => exact taken_brings h fun u => brings_republishExpired u g
  | signSweep _ _ => exact taken_brings h fun _ => .of_offers (offers_signSweep .refl ..)
  | signsIntoService => exact taken_brings h fun _ => .of_offers (offers_signsEnter .refl)
  | signsOutOfService => exact taken_brings h fun _ => .of_offers (offers_signsLeave .refl)
  | signerSegmentsNotice entered => exact taken_brings h fun _ => .of_offers (offers_signerSegments .refl entered)
  | segmentReferenceAbsent =>
    exact taken_brings h fun _ => .of_offers (offers_forEach .refl fun k _ hu => offers_loseSegment hu k)

end Sys2Proof.Machine
end

section
/-!
SUPPORT. The commands that only read; and the line's invariant through every command of the Line Switch and of the
Responder, the supply, and what the part does of itself.
-/

namespace Sys2Proof.Machine

/-! ### Queries and reading requests -/

/-- What a command that only reads does: nothing, or it waits, or one REPLY is offered. -/
inductive Answers (c : Instr) (s : State) : State → Prop
  | silent : Answers c s s
  | deferred : Answers c s (s.deferred c)
  | replied (code tag result : Byte) (data : Bytes) : Answers c s (s.reply code tag result data)

theorem answers_whenFree {c : Instr} {s : State} {f : State → State} (k : Answers c s (f s)) :
    Answers c s (whenFree c f s) := by
  unfold whenFree
  split
  · exact .deferred
  · exact k

theorem answers_onRegion {c : Instr} {code tag region : Byte} {s : State} {f : Region → State → State}
    (k : ∀ r, Answers c s (f r s)) : Answers c s (onRegion code tag region f s) := by
  unfold onRegion
  split
  · exact .replied ..
  · exact k _

theorem answers_answerQuery {α : Type} {c : Instr} {code tag : Byte} {i last : Nat} {r : Option α} {data : α → Bytes}
    {s : State} : Answers c s (answerQuery code tag i last r data s) := by
  unfold answerQuery
  split
  · exact .replied ..
  · split <;> exact .replied ..

theorem answers_takeRead (tag region first count : Byte) (s : State) :
    Answers (.readRows tag region first count) s (takeRead tag region first count s) := by
  refine answers_whenFree (answers_onRegion fun r => ?_)
  unfold readRequest
  split <;> exact .replied ..

theorem answers_takeBlank (tag region : Byte) (s : State) :
    Answers (.blankCheck tag region) s (takeBlank tag region s) := by
  refine answers_whenFree (answers_onRegion fun r => ?_)
  unfold blankRequest
  split <;> exact .replied ..

theorem answers_refuseUnknown (code tag : Byte) (s : State) :
    Answers (.unknownRequest code tag) s (refuseUnknown code tag s) := by
  unfold refuseUnknown
  split
  · exact .replied ..
  · exact .silent

theorem answers_segmentQuery (tag segment first : Byte) (s : State) :
    Answers (.segmentQuery tag segment first) s (segmentQuery tag segment first s) := by
  unfold segmentQuery
  split
  · exact .replied ..
  · exact answers_answerQuery

/-- The meaning of every command that only reads. -/
theorem exec_reads {c : Instr} {s t : State} (h : exec c s = .next t) (reads : readsOnly c = true) :
    ∃ f, taken c f s = .next t ∧ ∀ u, Answers c u (f u) := by
  cases c with
  | readRows _ _ _ _ => exact ⟨_, h, fun u => answers_takeRead _ _ _ _ u⟩
  | blankCheck _ _ => exact ⟨_, h, fun u => answers_takeBlank _ _ u⟩
  | siteRead _ => exact ⟨_, h, fun _ => answers_whenFree (.replied ..)⟩
  | unknownRequest _ _ => exact ⟨_, h, fun u => answers_refuseUnknown _ _ u⟩
  | sectionStatus tag => exact ⟨fun s => s.reply 0x40 tag done (statusData s), h, fun _ => .replied ..⟩
  | channelQuery _ _ => exact ⟨_, h, fun _ => answers_answerQuery⟩
  | segmentQuery _ _ _ => exact ⟨_, h, fun u => answers_segmentQuery _ _ _ u⟩
  | pathQuery _ _ => exact ⟨_, h, fun _ => answers_answerQuery⟩
  | gateQuery _ _ => exact ⟨_, h, fun _ => answers_answerQuery⟩
  | signQuery _ _ => exact ⟨_, h, fun _ => answers_answerQuery⟩
  | _ => exact nomatch reads

theorem Answers.offers {c : Instr} {s t : State} (h : Answers c s t) : Offers .lineOnly (fun p => p = .v) s t := by
  cases h with
  | silent => exact .refl
  | deferred => exact offers_deferred .refl c
  | replied _ _ _ _ => exact offers_reply (ports := fun p => p = .v) .refl rfl ..

/-! ### The invariant through the Line Switch's own operations -/

theorem lineKept_withHanded {A : Port → Prop} {s : State} (h : LineKept A s) (l : List Instr) :
    LineKept A (s.withHanded l) := lineKept_congr (s := s) rfl rfl h

/-- The invariant through the frame of every meaning. -/
theorem taken_lineOk {c : Instr} {effect : State → State} {s t : State} (ok : LineOk s)
    (h : taken c effect s = .next t) (k : ∀ u, LineOk u → LineOk (effect u)) : LineOk t := by
  rcases taken_next h with ⟨-, rfl⟩ | ⟨-, rfl⟩
  · exact ok
  · have flushed : Offers .lineOnly (fun p => p = .v) _ _ :=
      offers_flushReports (.refl (s := effect (s.withHanded (s.handed.erase c)))) rfl
    exact flushed.lineOk (k _ ok)

section
variable {s : State} (h : LineOk s)
include h

theorem lineOk_linkUp (p : Port) : LineOk (linkUp p s) := by
  unfold linkUp
  dsimp only
  split
  · exact h
  · rw [lineOk_iff] at *
    have emptied : LineKept (fun _ => True) (s.withPort p
        { s.line.port p with up := true, forwardQ := [], localQ := [], busy := none, streak := 0 }) :=
      lineKept_of_rests (p := p) (lineKept_withPort h (portKept_emptied (h.kept p) true))
        (by simp [PortRests, State.withPort])
    exact lineKept_withHanded emptied _

/-- The frames of a port that loses carrier are lost; a marked REPLY among them belongs to a pending restart. -/
theorem lineOk_linkDown (p : Port) : LineOk (linkDown p s) := by
  unfold linkDown
  dsimp only
  split
  · rw [lineOk_iff] at *
    have emptied : LineKept (fun _ => True) (s.withPort p
        { s.line.port p with up := false, forwardQ := [], localQ := [], busy := none, streak := 0 }) :=
      lineKept_of_rests (p := p) (lineKept_withPort h (portKept_emptied (h.kept p) false))
        (by simp [PortRests, State.withPort])
    unfold loseFrames
    dsimp only
    split
    · next lost =>
      obtain ⟨l, hl, marked⟩ := List.any_eq_true.mp lost
      refine lineKept_releaseRestart (lineKept_give _ emptied) ?_
      have pending := ((h.kept p).2 l hl marked).2
      unfold State.give
      split <;> exact pending
    · exact lineKept_give _ emptied
  · exact h

theorem lineOk_centreHeard : LineOk (centreHeard s) := by
  rw [lineOk_iff] at *
  unfold centreHeard
  dsimp only
  split
  · next e => exact lineKept_withLine h (fun p => by cases p <;> rfl) (by simp [e])
  · exact lineKept_congr (s := s.withLine { s.line with
      silence := some (s.now + seconds s.store.site.silenceLimit.toNat), lineState := .connected }) rfl rfl
      (lineKept_withLine h (fun p => by cases p <;> rfl) (by simp))

theorem lineOk_forwardFrame (p : Port) (f : Frame) : LineOk (forwardFrame p f s) := by
  rw [lineOk_iff] at *
  have k := h.kept (opposite p)
  unfold forwardFrame
  dsimp only
  split
  · exact h
  · split
    · exact h
    · next up =>
      split
      · next room =>
        exact lineKept_select (lineKept_withPort h (portKept_forward k (by simpa using up) room (Frame.check_sealed _)))
      · obtain ⟨a, b, c, d⟩ := portKept_counters k
        refine lineKept_of_rests (p := opposite p) (lineKept_withPort h (portKept_count k a (saturate_le ..) c d)) ?_
        rw [State.withPort, State.withLine_line, LineSwitch.port_setPort]
        exact h.idle _ trivial

theorem lineOk_hand (c : Instr) : LineOk (s.hand c) := h

theorem lineOk_disposeFrame (p : Port) (f : Frame) : LineOk (disposeFrame p f s) := by
  unfold disposeFrame
  dsimp only
  split
  · exact h
  · split
    · split
      · exact lineOk_hand h _
      · split
        · exact lineOk_hand h _
        · exact h
    · split
      · refine lineOk_forwardFrame ?_ p f
        split
        · exact lineOk_hand h _
        · split
          · exact lineOk_hand h _
          · split
            · exact lineOk_hand h _
            · exact h
      · exact lineOk_forwardFrame h p f

theorem lineOk_receiveUnit (p : Port) (u : Bytes) : LineOk (receiveUnit p u s) := by
  unfold receiveUnit
  dsimp only
  split
  · exact h
  · split
    · rw [lineOk_iff] at *
      obtain ⟨a, b, c, d⟩ := portKept_counters (h.kept p)
      refine lineKept_of_rests (p := p) (lineKept_withPort h (portKept_count (h.kept p) (saturate_le ..) b c d)) ?_
      rw [State.withPort, State.withLine_line, LineSwitch.port_setPort]
      exact h.idle _ trivial
    · refine lineOk_disposeFrame ?_ p _
      split
      · exact lineOk_centreHeard h
      · exact h

theorem lineOk_silenceExpired : LineOk (silenceExpired s) := by
  unfold silenceExpired
  split
  · exact h
  · rw [lineOk_iff] at *
    exact lineKept_congr (s := s.withLine { s.line with silence := none, lineState := .isolated }) rfl rfl
      (lineKept_withLine h (fun p => by cases p <;> rfl) (by simp))

theorem lineOk_completeTransmission (p : Port) : LineOk (completeTransmission p s) := by
  unfold completeTransmission
  dsimp only
  rw [lineOk_iff] at *
  have k := h.kept p
  split
  · exact h
  · next l busy =>
    have sent := lineKept_give [{ port := p, frame := l.frame, outcome := .sent }]
      (lineKept_withPort h (portKept_idle k))
    refine lineKept_select ?_
    split
    · next marked =>
      exact lineKept_releaseRestart sent (k.2 l (by simp [PortState.locals, busy, sendingLocal]) marked).2
    · exact sent
  · obtain ⟨a, b, c, d⟩ := portKept_counters k
    exact lineKept_select (lineKept_withPort h (portKept_count (portKept_idle k) a b c (saturate_le ..)))

theorem lineOk_lineRestart (x : Responder) (clear : x.releasing = false) :
    LineOk (lineRestart (s.withResponder x)) := by
  rw [lineOk_iff] at *
  have emptied : LineKept (fun _ => True) ((s.withResponder x).withLine
      { s.line with portV := restartPort s.line.portV, portS := restartPort s.line.portS }) := by
    refine ⟨fun p => ?_, fun p _ => ?_, h.timer, fun r => absurd (r.symm.trans clear) (by decide)⟩
    · cases p
      · exact portKept_restart (h.kept .v) x
      · exact portKept_restart (h.kept .s) x
    · cases p <;> exact fun _ _ => ⟨rfl, rfl⟩
  exact lineKept_withHanded (lineKept_give (lostAt .v s.line.portV ++ lostAt .s s.line.portS) emptied) _

theorem lineOk_restartEffect : LineOk (restartEffect s) := by
  unfold restartEffect
  split
  · exact lineOk_lineRestart h _ rfl
  · exact h

theorem lineOk_reply (code tag result : Byte) (data : Bytes) : LineOk (s.reply code tag result data) :=
  lineOk_offer h (compose_sealed ..) fun e => nomatch e

theorem lineOk_takeManage (a : Arrival) : LineOk (takeManage a s) := by
  unfold takeManage
  split
  · exact h
  · split
    · split
      · unfold acceptBroadcast
        split
        · exact lineOk_hand h _
        · exact h
      · unfold acceptRequest
        split
        · exact lineOk_reply h ..
        · split
          · split
            · exact h
            · exact lineOk_hand h _
          · exact lineOk_reply h ..
    · exact h

/-- A restart pending. -/
theorem lineOk_withPending : LineOk (s.withResponder { s.responder with restartPending := true }) := by
  rw [lineOk_iff] at *
  exact ⟨fun p => ⟨(h.kept p).1, fun l hl m => ⟨((h.kept p).2 l hl m).1, rfl⟩⟩, h.idle, h.timer, fun _ => rfl⟩

theorem lineOk_requestRestart (tag : Byte) : LineOk (requestRestart tag s) := by
  unfold requestRestart
  split
  · exact lineOk_reply h ..
  · exact lineOk_offer (lineOk_withPending h) (compose_sealed ..) fun _ => ⟨rfl, rfl⟩

/-! ### The supply, and what the part does of itself -/

theorem lineOk_of_offers {b : Touched} {ports : Port → Prop} {t : State} (k : Offers b ports s t) :
    LineOk t := k.lineOk h

end

/-- Both ports DOWN and empty, and the line ISOLATED (R18). -/
theorem lineOk_of_powerOn_line {s : State} (line : s.line = .powerOn) (clear : s.responder.releasing = false) :
    LineOk s := by
  simp [LineOk, line, clear, LineSwitch.powerOn, PortState.down, PortState.ok, PortState.frames, PortState.locals,
    sendingLocal, allSealed]

theorem lineOk_powerOn (p : Pins) (s : State) : LineOk (powerOn p s) := lineOk_of_powerOn_line rfl rfl

theorem cutWrite_line (r : Region) (first : Nat) (rows : List Bytes) (written : Nat) (mask : BitVec 32) (s : State) :
    (cutWrite r first rows written mask s).line = s.line ∧
      (cutWrite r first rows written mask s).responder = s.responder := by
  have k : Offers .store (fun _ => False) s (writeRows r first (rows.take written) s).1 := offers_writeRows .refl ..
  have line := k.line_of_none
  obtain ⟨-, -, responder, -⟩ := k.offersOnly
  unfold cutWrite
  generalize writeRows r first (rows.take written) s = result at line responder
  split
  · split <;> exact ⟨line, responder⟩
  · exact ⟨line, responder⟩

theorem cutShort_line (c : Cut) (s : State) :
    (cutShort c s).line = s.line ∧ (cutShort c s).responder = s.responder := by
  unfold cutShort
  split
  · exact ⟨rfl, rfl⟩
  · split <;> exact ⟨rfl, rfl⟩
  · split
    · exact cutWrite_line ..
    · exact ⟨rfl, rfl⟩
  · split <;> exact ⟨rfl, rfl⟩
  · split <;> exact ⟨rfl, rfl⟩
  · split <;> exact ⟨rfl, rfl⟩

theorem supplyLost_line (c : Cut) (s : State) :
    (supplyLost c s).line = s.line ∧ (supplyLost c s).responder = s.responder := by
  unfold supplyLost
  dsimp only
  split
  · split
    · exact cutShort_line c s
    · exact ⟨rfl, rfl⟩
  · exact ⟨rfl, rfl⟩

theorem lineOk_supplyLost {s : State} (h : LineOk s) (c : Cut) : LineOk (supplyLost c s) := by
  rw [lineOk_iff] at *
  exact lineKept_congr (supplyLost_line c s).1 (supplyLost_line c s).2 h

theorem lineOk_onItsOwn {s : State} (h : LineOk s) : LineOk (onItsOwn s) := by
  unfold onItsOwn
  split
  · exact h
  · split
    · exact lineOk_of_offers h (offers_clearGoesOn (ports := fun p => p = .v) .refl rfl)
    · exact h

/-- What FRAME_OFFERED does (R10). -/
def frameOffer (p : Port) (kind : LocalKind) (dest : Addr) (payload : Bytes) (s : State) : State :=
  (offer p { frame := s.compose kind dest payload, restartReply := false } s).1

theorem lineOk_frameOffer {s : State} (h : LineOk s) (p : Port) (kind : LocalKind) (dest : Addr) (payload : Bytes) :
    LineOk (frameOffer p kind dest payload s) := lineOk_offer h (compose_sealed ..) fun e => nomatch e

/-- Every command keeps the line's invariant. -/
theorem exec_lineOk {c : Instr} {s t : State} (ok : LineOk s) (h : exec c s = .next t) : LineOk t := by
  have reads : readsOnly c = true → LineOk t := fun r => by
    obtain ⟨f, e, k⟩ := exec_reads h r
    exact taken_lineOk ok e fun u hu => (k u).offers.lineOk hu
  have job : touched c ≠ .whole → touched c ≠ .lineOnly → LineOk t := fun whole line => by
    obtain ⟨n, -, k⟩ := exec_brings h whole line
    exact k.lineOk (s := s.withTime n) ok
  cases c with
  | powerOn p => cases h; exact lineOk_powerOn p s
  | supplyLost c => cases h; exact lineOk_supplyLost ok c
  | carrierDetected p => exact taken_lineOk ok h fun _ k => lineOk_linkUp k p
  | carrierLost p => exact taken_lineOk ok h fun _ k => lineOk_linkDown k p
  | frameReceived p u => exact taken_lineOk ok h fun _ k => lineOk_receiveUnit k p u
  | silenceTimerExpiry => exact taken_lineOk ok h fun _ k => lineOk_silenceExpired k
  | frameOffered p kind dest payload =>
    exact taken_lineOk ok (effect := frameOffer p kind dest payload) h fun _ k => lineOk_frameOffer k ..
  | transmissionComplete p => exact taken_lineOk ok h fun _ k => lineOk_completeTransmission k p
  | restartTakesEffect => exact taken_lineOk ok h fun _ k => lineOk_restartEffect k
  | manageFrame a => exact taken_lineOk ok h fun _ k => lineOk_takeManage k a
  | restart tag => exact taken_lineOk ok h fun _ k => lineOk_requestRestart k tag
  | readRows _ _ _ _ | blankCheck _ _ | siteRead _ | unknownRequest _ _ | sectionStatus _ | channelQuery _ _
  | segmentQuery _ _ _ | pathQuery _ _ | gateQuery _ _ | signQuery _ _ => exact reads rfl
  | _ => exact job (fun e => nomatch e) (fun e => nomatch e)

/-- Settles O6: every command keeps the line's invariant, as does what the part does of itself. -/
theorem everyStepKeepsTheLine : Obligations.EveryStepKeepsTheLine := by
  intro s t ok h
  unfold step at h
  split at h
  · next c rest _ => exact exec_lineOk (s := s.withPending rest) ok h
  · unfold idle at h
    split at h
    · exact exec_lineOk ok h
    · cases h; exact lineOk_onItsOwn ok

end Sys2Proof.Machine
end

section
/-!
OBLIGATION O4. What the commands of the other blocks leave of the line, of the running time and of the waiting events.
-/

namespace Sys2Proof.Machine

/-! ### The running time -/

section
variable (s : State)

theorem give_time (gs : List Given) : (s.give gs).time = s.time := lineTouched_time (lineTouched_give s gs)
theorem select_time (p : Port) : (select p s).time = s.time := lineTouched_time (lineTouched_select p s)
theorem offer_time (p : Port) (l : LocalFrame) : (offer p l s).1.time = s.time :=
  lineTouched_time (lineTouched_offer p l s)
theorem flushReports_time : (flushReports s).time = s.time :=
  lineTouched_time (s := s.withReports []) (lineTouched_flushReports s)

theorem linkUp_time (p : Port) : (linkUp p s).time = s.time := by
  unfold linkUp
  dsimp only
  split <;> rfl

theorem loseFrames_time (p : Port) (ls : List LocalFrame) : (loseFrames p ls s).time = s.time := by
  unfold loseFrames
  dsimp only
  split <;> exact give_time s _

theorem linkDown_time (p : Port) : (linkDown p s).time = s.time := by
  unfold linkDown
  dsimp only
  split
  · exact loseFrames_time ..
  · rfl

theorem centreHeard_time : (centreHeard s).time = s.time := by
  unfold centreHeard
  dsimp only
  split <;> rfl

theorem forwardFrame_time (p : Port) (f : Frame) : (forwardFrame p f s).time = s.time := by
  unfold forwardFrame
  dsimp only
  split
  · rfl
  · split
    · rfl
    · split
      · exact select_time ..
      · rfl

theorem disposeFrame_time (p : Port) (f : Frame) : (disposeFrame p f s).time = s.time := by
  unfold disposeFrame
  dsimp only
  split
  · rfl
  · split
    · split
      · rfl
      · split <;> rfl
    · split
      · rw [forwardFrame_time]
        split
        · rfl
        · split
          · rfl
          · split <;> rfl
      · exact forwardFrame_time ..

theorem receiveUnit_time (p : Port) (u : Bytes) : (receiveUnit p u s).time = s.time := by
  unfold receiveUnit
  dsimp only
  split
  · rfl
  · split
    · rfl
    · rw [disposeFrame_time]
      split
      · exact centreHeard_time s
      · rfl

theorem completeTransmission_time (p : Port) : (completeTransmission p s).time = s.time := by
  unfold completeTransmission
  dsimp only
  split
  · rfl
  · rw [select_time]
    split
    · exact give_time ..
    · exact give_time ..
  · exact select_time ..

theorem restartEffect_time : (restartEffect s).time = s.time := by
  unfold restartEffect lineRestart
  split
  · exact give_time ..
  · rfl

theorem takeManage_time (a : Arrival) : (takeManage a s).time = s.time := by
  unfold takeManage
  split
  · rfl
  · split
    · split
      · unfold acceptBroadcast
        split <;> rfl
      · unfold acceptRequest
        split
        · exact offer_time ..
        · split
          · split <;> rfl
          · exact offer_time ..
    · rfl

theorem requestRestart_time (tag : Byte) : (requestRestart tag s).time = s.time := by
  unfold requestRestart
  split
  · exact offer_time ..
  · exact offer_time ..

end

theorem taken_time {c : Instr} {effect : State → State} {s t : State} (h : taken c effect s = .next t)
    (k : ∀ u, (effect u).time = u.time) : t.time = s.time := by
  rcases taken_next h with ⟨-, rfl⟩ | ⟨-, rfl⟩
  · rfl
  · rw [flushReports_time, k]
    rfl

/-- Only what happens at a stated time moves the running time (log 3). -/
theorem exec_time {c : Instr} {s t : State} (h : exec c s = .next t) (whole : touched c ≠ .whole)
    (still : movesTime c = false) : t.time = s.time := by
  have reads : readsOnly c = true → t.time = s.time := fun r => by
    obtain ⟨f, e, k⟩ := exec_reads h r
    exact taken_time e fun u => (k u).offers.time
  have job : touched c ≠ .lineOnly → t.time = s.time := fun line => by
    obtain ⟨n, moved, k⟩ := exec_brings h whole line
    exact k.time.trans (moved still)
  cases c with
  | powerOn _ | supplyLost _ => exact absurd rfl whole
  | silenceTimerExpiry => exact nomatch still
  | carrierDetected p => exact taken_time h fun u => linkUp_time u p
  | carrierLost p => exact taken_time h fun u => linkDown_time u p
  | frameReceived p x => exact taken_time h fun u => receiveUnit_time u p x
  | frameOffered p kind dest payload =>
    exact taken_time (effect := frameOffer p kind dest payload) h fun u => offer_time u ..
  | transmissionComplete p => exact taken_time h fun u => completeTransmission_time u p
  | restartTakesEffect => exact taken_time h fun u => restartEffect_time u
  | manageFrame a => exact taken_time h fun u => takeManage_time u a
  | restart tag => exact taken_time h fun u => requestRestart_time u tag
  | readRows _ _ _ _ | blankCheck _ _ | siteRead _ | unknownRequest _ _ | sectionStatus _ | channelQuery _ _
  | segmentQuery _ _ _ | pathQuery _ _ | gateQuery _ _ | signQuery _ _ => exact reads rfl
  | _ => exact job (fun e => nomatch e)

/-! ### What a reading command leaves of the waiting events -/

/-- Every waiting event but the signal of space at port V waits as often as before. -/
def CountsKept (s t : State) : Prop := ∀ e, e ≠ Instr.spaceSignal .v → t.handed.count e = s.handed.count e

theorem countsKept_offer {l : LocalFrame} (m : l.restartReply = false) (s : State) :
    CountsKept s (offer .v l s).1 := by
  intro e he
  rcases (offerLeaves_offer (p := .v) m s).handed with k | k <;> rw [k]
  rw [List.count_append, List.count_singleton, if_neg (by simpa using Ne.symm he), Nat.add_zero]

theorem countsKept_flushReports (s : State) : CountsKept s (flushReports s) := by
  have sent : ∀ (l : List ReportRequest) (u : State), CountsKept s u → CountsKept s (l.foldl sendReport u) := by
    intro l
    induction l with
    | nil => exact fun _ h => h
    | cons r l ih => exact fun u h => ih _ fun e he => (countsKept_offer rfl u e he).trans (h e he)
  exact sent _ _ fun _ _ => rfl

theorem Answers.countsKept {c : Instr} {s t : State} (h : Answers c s t) : CountsKept s t := by
  cases h with
  | silent => exact fun _ _ => rfl
  | deferred => exact fun _ _ => rfl
  | replied _ _ _ _ => exact countsKept_offer rfl s

theorem taken_countsKept {c : Instr} {effect : State → State} {s t : State} (h : taken c effect s = .next t)
    (k : ∀ u, CountsKept u (effect u)) :
    ∀ e, e ≠ Instr.spaceSignal .v → e ≠ c → t.handed.count e = s.handed.count e := by
  intro e signal other
  rcases taken_next h with ⟨-, rfl⟩ | ⟨-, rfl⟩
  · rfl
  · rw [countsKept_flushReports _ e signal, k _ e signal]
    exact List.count_erase_of_ne other

/-- The offers of a meaning that keeps to port V. -/
theorem taken_offers {b : Touched} {c : Instr} {effect : State → State} {s t : State}
    (h : taken c effect s = .next t) (k : ∀ u, Offers b (fun p => p = .v) u (effect u)) :
    Offers b (fun p => p = .v) s t := by
  rcases taken_next h with ⟨-, rfl⟩ | ⟨-, rfl⟩
  · exact .refl
  · have start : Offers b (fun p => p = .v) s (s.withHanded (s.handed.erase c)) :=
      offers_withHanded .refl fun e he => .inl (List.mem_of_mem_erase he)
    exact offers_flushReports (start.trans (k _)) rfl

theorem offeredAt_s {b : Touched} (h : offeredAt b .s) : b = .publisher := by
  cases b <;> cases h
  rfl

/-- Settles O4: what a command of a job does is operations of its blocks and offers, each of which leaves the line. -/
theorem offersLeaveTheLineAlone : Obligations.OffersLeaveTheLineAlone := by
  intro c s t h whole
  refine ⟨fun line => ?_, exec_time h whole, fun line publisher => ?_, fun reads => ?_⟩
  · obtain ⟨n, -, k⟩ := exec_brings h whole line
    exact k.offersOnly
  · obtain ⟨n, -, k⟩ := exec_brings h whole line
    exact k.port fun e => publisher (offeredAt_s e)
  · obtain ⟨f, e, k⟩ := exec_reads h reads
    have o := taken_offers e fun u => (k u).offers
    exact ⟨o.port (p := .s) (fun e => nomatch e), o.offersOnly, taken_countsKept e fun u => (k u).countsKept⟩

end Sys2Proof.Machine
end

section
/-!
OBLIGATION O5. Reset, block by block: every table is empty, and what is not (the ports, the regions, the site record,
the local inputs and the gates) is looked at one by one.
-/

namespace Sys2Proof.Machine

theorem reset_lineOk : LineOk .reset := lineOk_of_powerOn_line rfl rfl

theorem reset_regions (r : Region) : State.reset.region r = .blank := by cases r <;> rfl

theorem blank_ok (r : Region) : RegionRecord.blank.ok r := by simp [RegionRecord.ok, RegionRecord.blank]

theorem reset_jobRows (e : Region × Map Bytes) (h : e ∈ State.reset.jobRows) : e.2 = [] := by
  revert e
  simp [State.jobRows, State.reset]

theorem reset_storeOk : StoreOk .reset := by
  refine ⟨by decide, fun r _ => ?_, by decide, by simp [State.reset], fun e h => ?_, fun _ => ⟨fun r _ _ => ?_, ?_⟩⟩
  · rw [reset_regions]; exact blank_ok r
  · rw [reset_jobRows e h]; exact ⟨rfl, rfl, rfl⟩
  · rw [reset_regions]; rfl
  · simp [State.reset]

theorem reset_pathsOk : PathsOk .reset := by
  refine ⟨by decide, fun e h => .inl ?_, rfl, by simp [State.reset]⟩
  obtain ⟨i, -, rfl⟩ := List.mem_map.mp h
  rfl

theorem unconfigured_ok : GateRec.unconfigured.ok := by simp [GateRec.ok, GateRec.unconfigured, GateRec.moving]

theorem reset_gatesOk : GatesOk .reset := by
  refine ⟨by decide, by decide, fun e h => ?_⟩
  obtain ⟨k, -, rfl⟩ := List.mem_map.mp h
  exact unconfigured_ok

/-- Settles O5: the block invariants of the reset state, put together. -/
theorem resetIsWellKept : Obligations.ResetIsWellKept :=
  ⟨reset_lineOk, reset_storeOk, by simp [ChannelsOk, State.reset, mapSorted],
    by simp [GradesOk, State.reset, mapSorted],
    reset_pathsOk, by simp [SegmentsOk, State.reset, mapSorted], reset_gatesOk, by simp [QueueOk, State.reset],
    by simp [SignsOk, State.reset, mapSorted]⟩

end Sys2Proof.Machine
end

section
/-!
OBLIGATION O15. Frames and their bytes: the two halves of a header word, a unit taken apart, and the reading of one.
-/

namespace Sys2Proof.Machine

/-! ### Words and their parts -/

/-- A word is its two bytes. -/
theorem word_of_bytes (x : BitVec 16) : x.extractLsb' 8 8 ++ x.extractLsb' 0 8 = x :=
  (BitVec.extractLsb'_append_extractLsb'_eq_extractLsb' rfl).trans BitVec.extractLsb'_eq_self

theorem high_byte (a b : Byte) : (a ++ b).extractLsb' 8 8 = a := BitVec.extractLsb'_append_eq_left

theorem low_byte (a b : Byte) : (a ++ b).extractLsb' 0 8 = b := BitVec.extractLsb'_append_eq_right

/-- The first header word is destination, hop limit and zero bits; the second is source and kind (R2). -/
theorem first_word (x : BitVec 16) : x.extractLsb' 6 10 ++ x.extractLsb' 2 4 ++ x.extractLsb' 0 2 = x := by
  have upper : x.extractLsb' 6 10 ++ x.extractLsb' 2 4 = x.extractLsb' 2 14 :=
    BitVec.extractLsb'_append_extractLsb'_eq_extractLsb' rfl
  rw [upper]
  exact (BitVec.extractLsb'_append_extractLsb'_eq_extractLsb' rfl).trans BitVec.extractLsb'_eq_self

theorem second_word (x : BitVec 16) : x.extractLsb' 6 10 ++ x.extractLsb' 0 6 = x :=
  (BitVec.extractLsb'_append_extractLsb'_eq_extractLsb' rfl).trans BitVec.extractLsb'_eq_self

section
variable (dest : Addr) (hop : BitVec 4) (zeros : BitVec 2) (source : Addr) (kind : BitVec 6)

theorem dest_of_word : (dest ++ hop ++ zeros).extractLsb' 6 10 = dest :=
  BitVec.extractLsb'_append_eq_ite.trans BitVec.extractLsb'_append_eq_left

theorem hop_of_word : (dest ++ hop ++ zeros).extractLsb' 2 4 = hop :=
  BitVec.extractLsb'_append_eq_ite.trans BitVec.extractLsb'_append_eq_right

theorem zeros_of_word : (dest ++ hop ++ zeros).extractLsb' 0 2 = zeros := BitVec.extractLsb'_append_eq_right

theorem source_of_word : (source ++ kind).extractLsb' 6 10 = source := BitVec.extractLsb'_append_eq_left

theorem kind_of_word : (source ++ kind).extractLsb' 0 6 = kind := BitVec.extractLsb'_append_eq_right

end

/-! ### A unit taken apart -/

/-- The frame that the bytes of a unit spell. -/
def frameOf (x0 x1 x2 x3 : Byte) (p : Bytes) (c0 c1 : Byte) : Frame :=
  { dest := (x0 ++ x1).extractLsb' 6 10, hop := (x0 ++ x1).extractLsb' 2 4, zeros := (x0 ++ x1).extractLsb' 0 2
    source := (x2 ++ x3).extractLsb' 6 10, kind := (x2 ++ x3).extractLsb' 0 6, payload := p, check := c0 ++ c1 }

/-- A unit of five header bytes, a payload of the length they give, and two bytes of check. -/
theorem parseUnit_parts {x0 x1 x2 x3 x4 c0 c1 : Byte} {p : Bytes} (len : p.length = x4.toNat) :
    parseUnit ([x0, x1, x2, x3, x4] ++ p ++ [c0, c1]) =
      if x4.toNat ≤ 120 ∧ lineCheck ([x0, x1, x2, x3, x4] ++ p) = c0 ++ c1 then
        some (frameOf x0 x1 x2 x3 p c0 c1) else none := by
  have taken : ([x0, x1, x2, x3, x4] ++ p ++ [c0, c1]).take (5 + x4.toNat) = [x0, x1, x2, x3, x4] ++ p :=
    List.take_left' (by simp [len]; omega)
  have first : byteAt ([x0, x1, x2, x3, x4] ++ p ++ [c0, c1]) (5 + x4.toNat) = c0 := by
    simp [byteAt, List.getD_eq_getElem?_getD, len, show 5 + x4.toNat = x4.toNat + 5 by omega]
  have second : byteAt ([x0, x1, x2, x3, x4] ++ p ++ [c0, c1]) (6 + x4.toNat) = c1 := by
    simp [byteAt, List.getD_eq_getElem?_getD, len, show 6 + x4.toNat = x4.toNat + 1 + 5 by omega]
  have spelt : (([x0, x1, x2, x3, x4] ++ p ++ [c0, c1]).drop 5).take x4.toNat = p := by simp [← len]
  unfold parseUnit
  dsimp only
  rw [show byteAt ([x0, x1, x2, x3, x4] ++ p ++ [c0, c1]) 4 = x4 from rfl, taken, first, second, spelt]
  simp only [show byteAt ([x0, x1, x2, x3, x4] ++ p ++ [c0, c1]) 0 = x0 from rfl,
    show byteAt ([x0, x1, x2, x3, x4] ++ p ++ [c0, c1]) 1 = x1 from rfl,
    show byteAt ([x0, x1, x2, x3, x4] ++ p ++ [c0, c1]) 2 = x2 from rfl,
    show byteAt ([x0, x1, x2, x3, x4] ++ p ++ [c0, c1]) 3 = x3 from rfl]
  refine if_congr ?_ rfl rfl
  simp [len, Config.maxPayload]
  omega

/-- A unit of the length its fifth byte gives has such parts. -/
theorem unit_parts {u : Bytes} (long : 7 ≤ u.length) (len : u.length = 5 + (byteAt u 4).toNat + 2) :
    ∃ x0 x1 x2 x3 x4 p c0 c1, u = [x0, x1, x2, x3, x4] ++ p ++ [c0, c1] ∧ p.length = x4.toNat := by
  match u, long with
  | x0 :: x1 :: x2 :: x3 :: x4 :: rest, _ =>
    have length : rest.length = x4.toNat + 2 := by
      simp [byteAt] at len
      omega
    obtain ⟨c0, c1, ends⟩ := List.length_eq_two.mp (show (rest.drop x4.toNat).length = 2 by simp [length])
    refine ⟨x0, x1, x2, x3, x4, rest.take x4.toNat, c0, c1, ?_, by simp [length]⟩
    rw [← ends]
    simp

/-- What a unit that is read spells. -/
theorem parts_of_parseUnit {u : Bytes} {f : Frame} (h : parseUnit u = some f) :
    ∃ x0 x1 x2 x3 x4 p c0 c1, u = [x0, x1, x2, x3, x4] ++ p ++ [c0, c1] ∧ p.length = x4.toNat ∧ x4.toNat ≤ 120 ∧
      lineCheck ([x0, x1, x2, x3, x4] ++ p) = c0 ++ c1 ∧ f = frameOf x0 x1 x2 x3 p c0 c1 := by
  have parts := h
  unfold parseUnit at parts
  dsimp only at parts
  split at parts
  · next ok =>
    obtain ⟨long, -, len, -⟩ := ok
    obtain ⟨x0, x1, x2, x3, x4, p, c0, c1, rfl, hp⟩ := unit_parts long len
    rw [parseUnit_parts hp] at h
    split at h
    · next fits => cases h; exact ⟨x0, x1, x2, x3, x4, p, c0, c1, rfl, hp, fits.1, fits.2, rfl⟩
    · cases h
  · cases parts

/-! ### The header of the frame that bytes spell -/

theorem body_frameOf {x0 x1 x2 x3 x4 c0 c1 : Byte} {p : Bytes} (len : p.length = x4.toNat) :
    (frameOf x0 x1 x2 x3 p c0 c1).body = [x0, x1, x2, x3, x4] ++ p := by
  simp only [Frame.body, headerBytes, frameOf, first_word, second_word, high_byte, low_byte, len,
    BitVec.ofNat_toNat, BitVec.setWidth_eq]

theorem bytes_frameOf {x0 x1 x2 x3 x4 c0 c1 : Byte} {p : Bytes} (len : p.length = x4.toNat) :
    (frameOf x0 x1 x2 x3 p c0 c1).bytes = [x0, x1, x2, x3, x4] ++ p ++ [c0, c1] := by
  rw [Frame.bytes, body_frameOf len]
  simp only [frameOf, high_byte, low_byte]

/-- The bytes of a frame read back as that frame. -/
theorem parseUnit_bytes {f : Frame} (short : f.payload.length ≤ 120) (check : f.check = lineCheck f.body) :
    parseUnit f.bytes = some f := by
  have len : f.payload.length = (BitVec.ofNat 8 f.payload.length).toNat := by
    rw [BitVec.toNat_ofNat, Nat.mod_eq_of_lt (by omega)]
  unfold Frame.bytes Frame.body headerBytes
  dsimp only
  rw [parseUnit_parts len, if_pos]
  · simp only [frameOf, word_of_bytes, dest_of_word, hop_of_word, zeros_of_word, source_of_word, kind_of_word]
  · refine ⟨by omega, ?_⟩
    rw [word_of_bytes, check]
    rfl

/-- Settles O15: a unit that is read is taken apart and put together again, and the bytes of a frame are read. -/
theorem framesReadBackAsSent : Obligations.FramesReadBackAsSent := by
  intro f u
  constructor
  · intro h
    obtain ⟨x0, x1, x2, x3, x4, p, c0, c1, rfl, len, short, check, rfl⟩ := parts_of_parseUnit h
    refine ⟨(bytes_frameOf len).symm, ?_, ?_⟩
    · exact len.trans_le short
    · rw [body_frameOf len, check]
      rfl
  · rintro ⟨rfl, short, check⟩
    exact parseUnit_bytes short check

end Sys2Proof.Machine
end

section
/-!
OBLIGATION O18. Supply applied, region by region and field by field; supply lost, one lemma for each request that can be
cut short. A WRITE ROWS is described by the number of rows that it wrote whole.
-/

namespace Sys2Proof.Machine

/-! ### Tables listed by a range -/

theorem mapGet_map_range {α : Type} (f : Nat → α) {n i : Nat} (h : i < n) :
    mapGet ((List.range n).map fun k => (k, f k)) i = some (f i) := by
  have sorted : ∀ (l : List Nat), l.Pairwise (· < ·) → mapSorted (l.map fun k => (k, f k)) = true := by
    intro l
    induction l with
    | nil => exact fun _ => rfl
    | cons k l ih =>
      intro p
      obtain ⟨below, rest⟩ := List.pairwise_cons.mp p
      refine (mapSorted_cons ..).mpr ⟨fun e he => ?_, ih rest⟩
      obtain ⟨j, hj, rfl⟩ := List.mem_map.mp he
      exact below j hj
  exact mapGet_of_mem (e := (i, f i)) (sorted _ List.pairwise_lt_range)
    (List.mem_map.mpr ⟨i, List.mem_range.mpr h, rfl⟩)

theorem mapGet_filter_from {α : Type} (m : Map α) (n i : Nat) :
    mapGet (m.filter fun e => decide (n ≤ e.1)) i = if n ≤ i then mapGet m i else none := by
  induction m with
  | nil => simp
  | cons e m ih =>
    obtain ⟨k, v⟩ := e
    rw [List.filter_cons]
    split
    · next keep =>
      rw [mapGet_cons, ih, mapGet_cons]
      by_cases same : i = k
      · subst same; simp at keep; simp [keep]
      · simp [same]
    · next drop =>
      rw [ih, mapGet_cons]
      by_cases same : i = k
      · subst same; simp at drop; simp [Nat.not_le.mpr drop]
      · simp [same]

/-! ### Supply applied (R18, R40, R41) -/

theorem get_repaired (site : SiteRecord) (f : SiteField) : (repaired site).get f = repairSite f (site.get f) := by
  cases f <;> rfl

theorem get_verifiedRegions (rs : Regions) (r : Region) : (verifiedRegions rs).get r = verified r (rs.get r) := by
  cases r <;> rfl

/-- A value lies in its field's range exactly where the clamp leaves it. -/
theorem clampSite_eq_iff {f : SiteField} (h : f ≠ .lightChannel) (v : BitVec 16) :
    clampSite f v = v ↔ (SiteField.range f).1 ≤ v.toNat ∧ v.toNat ≤ (SiteField.range f).2 := by
  have bounds : (SiteField.range f).1 ≤ (SiteField.range f).2 ∧ (SiteField.range f).2 < 65536 := by cases f <;> decide
  have clamp : clampSite f v = BitVec.ofNat 16 (max (SiteField.range f).1 (min (SiteField.range f).2 v.toNat)) := by
    cases f
    case lightChannel => exact absurd rfl h
    all_goals rfl
  rw [clamp, ← BitVec.toNat_inj, BitVec.toNat_ofNat, Nat.mod_eq_of_lt (by omega)]
  omega

theorem repairSite_of_range {f : SiteField} (h : f ≠ .lightChannel) (v : BitVec 16) :
    repairSite f v =
      if (SiteField.range f).1 ≤ v.toNat ∧ v.toNat ≤ (SiteField.range f).2 then v else SiteRecord.factory.get f :=
  if_congr (clampSite_eq_iff h v) rfl rfl

theorem repairSite_light (v : BitVec 16) : repairSite .lightChannel v = if v.toNat ≤ 63 then v else 0xFFFF := by
  by_cases h : v.toNat ≤ 63
  · simp [repairSite, clampSite, h]
  · simp only [repairSite, clampSite, if_neg h]
    split
    · next e => exact e.symm
    · rfl

theorem verified_rows (r : Region) (x : RegionRecord) : (verified r x).rows = x.rows := by
  unfold verified
  split
  · rfl
  · split <;> rfl
  · split
    · rfl
    · split <;> rfl
  · split <;> rfl
  · split <;> rfl

section
variable {r : Region} {x : RegionRecord}

theorem verified_overfull (h : Region.capacity r < x.header.count) : verified r x = failedBlank x := by
  unfold verified
  split
  · rfl
  · exact if_pos (.inr h)
  · exact if_pos h
  · exact if_pos h
  · exact if_pos h

theorem verified_unknown (h : x.header.state ∉ [RegionState.empty, .opened, .active, .failed]) :
    verified r x = failedBlank x := by
  unfold verified
  split
  · rfl
  · next e => simp [e] at h
  · next e => simp [e] at h
  · next e => simp [e] at h
  · next e => simp [e] at h

theorem verified_written (h : x.header.state = .empty)
    (written : ∃ i, i < Region.capacity r ∧ readRow x.rows i ≠ blankRow) : verified r x = failedBlank x := by
  obtain ⟨i, hi, row⟩ := written
  have some : (firstWritten r x.rows).isSome = true := by
    refine List.find?_isSome.mpr ⟨i, List.mem_range.mpr hi, ?_⟩
    simpa [rowBlank] using row
  simp [verified, h, some]

variable (fits : x.header.count ≤ Region.capacity r)
include fits

theorem verified_still (h : x.header.state = .opened ∨ x.header.state = .failed) : verified r x = x := by
  rcases h with h | h <;> simp [verified, h, Nat.not_lt.mpr fits]

theorem verified_active (h : x.header.state = .active) (check : regionCheck x.header.count x.rows = x.header.check) :
    verified r x = x := by
  simp [verified, h, check, Nat.not_lt.mpr fits]

theorem verified_mismatch (h : x.header.state = .active) (check : regionCheck x.header.count x.rows ≠ x.header.check) :
    verified r x = { x with header := { x.header with state := .failed } } := by
  simp [verified, h, check, Nat.not_lt.mpr fits]

theorem verified_blank (h : x.header.state = .empty)
    (blank : ∀ i, i < Region.capacity r → readRow x.rows i = blankRow) :
    verified r x = x := by
  have none : firstWritten r x.rows = none := by
    refine List.find?_eq_none.mpr fun i hi => ?_
    simp [(rowBlank_iff ..).mpr (blank i (List.mem_range.mp hi))]
  simp [verified, h, none, Nat.not_lt.mpr fits]

end

theorem mem_newlyFailed (rs : Regions) (r : Region) :
    r ∈ newlyFailed rs ↔ (verified r (rs.get r)).header.state = .failed ∧ (rs.get r).header.state ≠ .failed := by
  simp [newlyFailed, mem_regionOrder]

/-- The store's part of supply applied. -/
theorem powerOn_region (p : Pins) (s : State) (r : Region) : (powerOn p s).region r = verified r (s.region r) :=
  get_verifiedRegions s.store.regions r

/-! ### Supply lost: what a cut leaves (R43) -/

/-- What non-volatile memory holds at the loss of supply. -/
def cutState (c : Cut) (s : State) : State := if cutPossible c s then cutShort c s else s

/-- A state without supply, its events gone. -/
def afterLoss (u : State) : State := { ((u.withClearing none).withHanded []).withWaiting [] with power := false }

theorem supplyLost_of_power {s : State} (c : Cut) (h : s.power = true) : supplyLost c s = afterLoss (cutState c s) := by
  unfold supplyLost
  rw [if_pos h]
  rfl

@[simp] theorem afterLoss_region (u : State) (r : Region) : (afterLoss u).region r = u.region r := rfl
@[simp] theorem afterLoss_site (u : State) : (afterLoss u).store.site = u.store.site := rfl
@[simp] theorem afterLoss_regions (u : State) : (afterLoss u).store.regions = u.store.regions := rfl
@[simp] theorem afterLoss_startList (u : State) : (afterLoss u).store.startList = u.store.startList := rfl

/-- `t` is `s` but for one region. -/
def OnlyRegion (r : Region) (s t : State) : Prop := t = s.withRegion r (t.region r)

theorem withRegion_region (s : State) (r : Region) : s.withRegion r (s.region r) = s := by cases r <;> rfl

theorem withRegion_withRegion (s : State) (r : Region) (x y : RegionRecord) :
    (s.withRegion r x).withRegion r y = s.withRegion r y := by cases r <;> rfl

theorem onlyRegion_refl (r : Region) (s : State) : OnlyRegion r s s := (withRegion_region s r).symm

theorem onlyRegion_withRegion (r : Region) (s : State) (x : RegionRecord) : OnlyRegion r s (s.withRegion r x) := by
  unfold OnlyRegion
  rw [State.region_withRegion]

theorem onlyRegion_trans {r : Region} {s t u : State} (h : OnlyRegion r s t) (k : OnlyRegion r t u) :
    OnlyRegion r s u := by
  unfold OnlyRegion at *
  rw [k, h, withRegion_withRegion, State.region_withRegion]

theorem OnlyRegion.elsewhere {r : Region} {s t : State} (h : OnlyRegion r s t) :
    (∀ q ∈ regionOrder, q ≠ r → t.region q = s.region q) ∧ t.store.site = s.store.site := by
  refine ⟨fun q _ hq => ?_, ?_⟩ <;> rw [h]
  · exact State.region_withRegion_of_ne _ _ hq
  · rfl

theorem OnlyRegion.startList {r : Region} {s t : State} (h : OnlyRegion r s t) :
    t.store.startList = s.store.startList := by
  rw [h]
  rfl

theorem OnlyRegion.region_eq {r : Region} {s t : State} (h : t = s) : t.region r = s.region r := by rw [h]

/-! ### OPEN REGION, ACTIVATE REGION and SITE WRITE cut short -/

theorem cutState_of_free {c : Cut} {s : State} (free : s.store.clearing = none) : cutState c s = cutShort c s := by
  unfold cutState cutPossible
  rw [free]
  rfl

/-- While a CLEAR ALL is under way nothing but its clear can be cut short. -/
theorem cutState_of_clearing {c : Cut} {s : State} (busy : s.store.clearing ≠ none)
    (other : ∀ r n mask, c ≠ .clear r n mask) : cutState c s = s := by
  have impossible : cutPossible c s = false := by
    unfold cutPossible
    split
    · next e => exact absurd e busy
    · split
      · exact (other _ _ _ rfl).elim
      · rfl
  rw [cutState, impossible]
  rfl

theorem within_iff (n lo hi : Nat) : within n lo hi = true ↔ lo ≤ n ∧ n ≤ hi := by simp [within]

theorem onlyRegion_cutOpen (r : Region) (n : Nat) (w : Bool) (s : State) :
    OnlyRegion r s (cutState (.openRegion r n w) s) := by
  unfold cutState
  split
  · unfold cutShort
    dsimp only
    split
    · exact onlyRegion_withRegion r s _
    · exact onlyRegion_refl r s
  · exact onlyRegion_refl r s

/-- An OPEN REGION leaves the header as it was or as the whole request leaves it. -/
theorem region_cutOpen (r : Region) (n : Nat) (w : Bool) (s : State) :
    ((cutState (.openRegion r n w) s).region r).rows = (s.region r).rows ∧
      ((cutState (.openRegion r n w) s).region r).header =
        if s.store.clearing = none ∧ w = true ∧ (s.region r).header.state = .empty ∧ 1 ≤ n ∧ n ≤ Region.capacity r then
          { state := .opened, count := n, check := 0 } else (s.region r).header := by
  by_cases free : s.store.clearing = none
  · rw [cutState_of_free free]
    unfold cutShort
    dsimp only
    simp only [within_iff, free, true_and]
    split
    · exact ⟨by simp [State.withHeader], by simp [State.withHeader]⟩
    · exact ⟨rfl, rfl⟩
  · rw [cutState_of_clearing free (fun _ _ _ => by simp), if_neg (fun h => free h.1)]
    exact ⟨rfl, rfl⟩

theorem onlyRegion_cutActivate (r : Region) (check : BitVec 16) (w : Bool) (s : State) :
    OnlyRegion r s (cutState (.activate r check w) s) := by
  unfold cutState
  split
  · unfold cutShort
    dsimp only
    split
    · exact onlyRegion_withRegion r s _
    · exact onlyRegion_refl r s
  · exact onlyRegion_refl r s

/-- The first two stages of an activation that is not refused. -/
theorem of_activationRefusal_eq_none {r : Region} {check : BitVec 16} {x : RegionRecord}
    (h : activationRefusal r check x = none) :
    x.header.state = .opened ∧ regionCheck x.header.count x.rows = check := by
  unfold activationRefusal at h
  dsimp only at h
  split at h
  · cases h
  · next opened =>
    split at h
    · cases h
    · next agrees => exact ⟨by simpa using opened, by simpa using agrees⟩

/-- An ACTIVATE REGION leaves the header as it was or as the whole request leaves it. -/
theorem region_cutActivate (r : Region) (check : BitVec 16) (w : Bool) (s : State) :
    ((cutState (.activate r check w) s).region r).rows = (s.region r).rows ∧
      (((cutState (.activate r check w) s).region r).header = (s.region r).header ∨
        (s.store.clearing = none ∧ w = true ∧ (s.region r).header.state = .opened ∧
          ((cutState (.activate r check w) s).region r).header =
            { state := .active, count := (s.region r).header.count, check := check } ∧
          check = regionCheck (s.region r).header.count (s.region r).rows)) := by
  by_cases free : s.store.clearing = none
  · rw [cutState_of_free free]
    unfold cutShort
    dsimp only
    split
    · next done =>
      obtain ⟨opened, agrees⟩ := of_activationRefusal_eq_none done.2
      rw [State.region_withRegion]
      exact ⟨rfl, .inr ⟨free, done.1, opened, rfl, agrees.symm⟩⟩
    · exact ⟨rfl, .inl rfl⟩
  · rw [cutState_of_clearing free (fun _ _ _ => by simp)]
    exact ⟨rfl, .inl rfl⟩

/-- A SITE WRITE leaves the old or the new value of its field. -/
theorem site_cutSiteWrite (f : SiteField) (v : BitVec 16) (w : Bool) (s : State) :
    (cutState (.siteWrite f v w) s).store.site.get f =
        (if s.store.clearing = none ∧ w = true then clampSite f v else s.store.site.get f) ∧
      (∀ g ∈ siteFields, g ≠ f → (cutState (.siteWrite f v w) s).store.site.get g = s.store.site.get g) ∧
      (cutState (.siteWrite f v w) s).store.regions = s.store.regions ∧
      (cutState (.siteWrite f v w) s).store.startList = s.store.startList := by
  by_cases free : s.store.clearing = none
  · rw [cutState_of_free free]
    unfold cutShort
    dsimp only
    simp only [free, true_and]
    split
    · exact ⟨SiteRecord.get_set .., fun g _ hg => SiteRecord.get_set_of_ne _ _ hg, rfl, rfl⟩
    · exact ⟨rfl, fun _ _ _ => rfl, rfl, rfl⟩
  · rw [cutState_of_clearing free (fun _ _ _ => by simp), if_neg (fun h => free h.1)]
    exact ⟨rfl, fun _ _ _ => rfl, rfl, rfl⟩

/-! ### A row cut short -/

theorem mixRow_length (mask : BitVec 32) (old new : Bytes) : (mixRow mask old new).length = rowSize := by simp [mixRow]

/-- Each byte of a row cut short is new or old. -/
theorem mixRow_getD (mask : BitVec 32) (old new : Bytes) {b : Nat} (h : b < 32) (x : Byte) :
    (mixRow mask old new).getD b x = new.getD b 0xFF ∨ (mixRow mask old new).getD b x = old.getD b 0xFF := by
  have read : (mixRow mask old new).getD b x = if mask.getLsbD b then new.getD b 0xFF else old.getD b 0xFF := by
    simp [mixRow, List.getD_eq_getElem?_getD, rowSize, h]
  rw [read]
  split
  · exact .inl rfl
  · exact .inr rfl

theorem blankRow_getD (b : Nat) : blankRow.getD b 0xFF = 0xFF := by
  simp only [blankRow, List.getD_eq_getElem?_getD, List.getElem?_replicate]
  split <;> rfl

/-- Within a row the value read beyond the end does not matter. -/
theorem asRow_getD (bs : Bytes) {b : Nat} (h : b < 32) (x y : Byte) : (asRow bs).getD b x = (asRow bs).getD b y := by
  have inside : b < (asRow bs).length := by rw [asRow_length]; exact h
  simp [List.getD_eq_getElem?_getD, inside]

/-! ### CLEAR REGION cut short -/

theorem onlyRegion_cutClear (r : Region) (n : Nat) (mask : BitVec 32) (s : State) :
    OnlyRegion r s (cutState (.clear r n mask) s) := by
  unfold cutState
  split
  · unfold cutShort
    dsimp only
    split
    · exact onlyRegion_withRegion r s _
    · exact onlyRegion_refl r s
  · exact onlyRegion_refl r s

/-- The clear that a CLEAR ALL under way comes to next is the only one that can be cut short. -/
theorem cutPossible_clear (r : Region) (n : Nat) (mask : BitVec 32) (s : State) :
    cutPossible (.clear r n mask) s = true ↔ ∀ run ∈ s.store.clearing, regionOrder[run.cleared]? = some r := by
  unfold cutPossible
  rcases s.store.clearing with _ | run <;> simp

/-- The region that the cut of a clear leaves. -/
theorem region_cutClear (r : Region) (n : Nat) (mask : BitVec 32) (s : State) :
    (cutState (.clear r n mask) s).region r =
      if (∀ run ∈ s.store.clearing, regionOrder[run.cleared]? = some r) ∧ s.interlocked r = false ∧
          n < Region.capacity r then
        cutClear n mask (s.region r) else s.region r := by
  unfold cutState cutShort
  simp only [cutPossible_clear]
  by_cases possible : ∀ run ∈ s.store.clearing, regionOrder[run.cleared]? = some r
  · rw [if_pos possible]
    by_cases free : s.interlocked r = false ∧ n < Region.capacity r
    · rw [if_pos free, if_pos ⟨possible, free⟩, State.region_withRegion]
    · rw [if_neg free, if_neg fun h => free h.2]
  · rw [if_neg possible, if_neg fun h => possible h.1]

theorem readRow_cutClear_self (n : Nat) (mask : BitVec 32) (x : RegionRecord) :
    readRow (cutClear n mask x).rows n = mixRow mask (readRow x.rows n) blankRow := by
  rw [cutClear, readRow_writeRow_self, asRow_of_length (mixRow_length ..)]

theorem readRow_cutClear_of_ne {n i : Nat} (mask : BitVec 32) (x : RegionRecord) (h : i ≠ n) :
    readRow (cutClear n mask x).rows i = if n ≤ i then readRow x.rows i else blankRow := by
  rw [cutClear, readRow_writeRow_of_ne _ _ h, readRow, mapGet_filter_from]
  split <;> rfl

/-! ### WRITE ROWS cut short -/

/-- What the first `m` rows of a request, written from the row `first` on, leave of a region, read at the row `i`. -/
def readWritten (x : RegionRecord) (first m : Nat) (rows : List Bytes) (i : Nat) : Bytes :=
  if first ≤ i ∧ i < first + m then asRow (rows.getD (i - first) []) else readRow x.rows i

/-- `t` is `s` with the first `m` rows of a request written from the row `first` on, each of which passes its test. -/
structure RowsWritten (r : Region) (first m : Nat) (rows : List Bytes) (s t : State) : Prop where
  only : OnlyRegion r s t
  header : (t.region r).header = (s.region r).header
  count : m ≤ rows.length
  passed : ∀ j, j < m → rowRefusal (s.region r) (first + j) = none
  read : ∀ i, readRow (t.region r).rows i = readWritten (s.region r) first m rows i

theorem rowRefusal_congr {x y : RegionRecord} {i : Nat} (h : y.header = x.header)
    (k : readRow y.rows i = readRow x.rows i) : rowRefusal y i = rowRefusal x i := by
  unfold rowRefusal rowBlank
  rw [h, k]

theorem rowsWritten_zero (r : Region) (first : Nat) (rows : List Bytes) (s : State) :
    RowsWritten r first 0 rows s s where
  only := onlyRegion_refl r s
  header := rfl
  count := Nat.zero_le _
  passed := fun _ h => absurd h (Nat.not_lt_zero _)
  read := fun i => (if_neg (by omega)).symm

/-- The test of a row beyond those written is as before. -/
theorem RowsWritten.refusal {r : Region} {first m : Nat} {rows : List Bytes} {s t : State}
    (h : RowsWritten r first m rows s t) {i : Nat} (beyond : first + m ≤ i) :
    rowRefusal (t.region r) i = rowRefusal (s.region r) i := by
  refine rowRefusal_congr h.header ?_
  rw [h.read, readWritten, if_neg (by omega)]

/-- One more row in front. -/
theorem rowsWritten_cons {r : Region} {first m : Nat} {row : Bytes} {rest : List Bytes} {s t : State}
    (pass : rowRefusal (s.region r) first = none)
    (h : RowsWritten r (first + 1) m rest (s.withRow r first row) t) :
    RowsWritten r first (m + 1) (row :: rest) s t := by
  have header : ((s.withRow r first row).region r).header = (s.region r).header := by simp [State.withRow]
  have rows : ∀ i, i ≠ first → readRow ((s.withRow r first row).region r).rows i = readRow (s.region r).rows i := by
    intro i hi
    rw [State.withRow, State.region_withRegion]
    exact readRow_writeRow_of_ne _ _ hi
  refine ⟨onlyRegion_trans (onlyRegion_withRegion r s _) h.only, h.header.trans header, ?_, fun j hj => ?_, fun i => ?_⟩
  · have := h.count
    simp only [List.length_cons]
    omega
  · rcases j with _ | j
    · exact pass
    · have := h.passed j (by omega)
      rw [show first + 1 + j = first + (j + 1) by omega] at this
      rw [← this]
      exact (rowRefusal_congr header (rows _ (by omega))).symm
  · rw [h.read]
    unfold readWritten
    by_cases same : i = first
    · subst same
      rw [if_neg (by omega), if_pos (by omega), State.withRow, State.region_withRegion, readRow_writeRow_self]
      simp
    · by_cases inside : first ≤ i ∧ i < first + (m + 1)
      · rw [if_pos (by omega), if_pos inside, show i - first = i - (first + 1) + 1 by omega]
        rfl
      · rw [if_neg (by omega), if_neg inside, rows i same]

/-- The rows of a request are written up to the first that fails its test. -/
theorem writeRows_spec (r : Region) (first : Nat) (rows : List Bytes) (s : State) :
    ∃ m, RowsWritten r first m rows s (writeRows r first rows s).1 ∧
      ((writeRows r first rows s).2 = none ∧ m = rows.length ∨
        (writeRows r first rows s).2 ≠ none ∧ m < rows.length ∧ rowRefusal (s.region r) (first + m) ≠ none) := by
  induction rows generalizing first s with
  | nil => exact ⟨0, rowsWritten_zero .., .inl ⟨rfl, rfl⟩⟩
  | cons row rest ih =>
    unfold writeRows
    split
    · next e => exact ⟨0, rowsWritten_zero .., .inr ⟨by simp, by simp, by simp [e]⟩⟩
    · next pass =>
      obtain ⟨m, written, ends⟩ := ih (first + 1) (s.withRow r first row)
      have whole := rowsWritten_cons pass written
      refine ⟨m + 1, whole, ends.imp (fun h => ⟨h.1, by simp [h.2]⟩) fun ⟨fails, short, refused⟩ =>
        ⟨fails, by simpa using short, fun e => refused ?_⟩⟩
      rw [← e, show first + (m + 1) = first + 1 + m by omega]
      refine rowRefusal_congr (by simp [State.withRow]) ?_
      rw [State.withRow, State.region_withRegion]
      exact readRow_writeRow_of_ne _ _ (by omega)

/-- A WRITE ROWS cut short after `n` rows: the first `m` rows are written; where these are all `n` and the next passes
its test, that row is mixed. -/
structure WriteCut (r : Region) (first n : Nat) (rows : List Bytes) (mask : BitVec 32) (m : Nat) (s t : State) :
    Prop where
  only : OnlyRegion r s t
  header : (t.region r).header = (s.region r).header
  upTo : m ≤ n
  count : m ≤ rows.length
  passed : ∀ j, j < m → rowRefusal (s.region r) (first + j) = none
  stopped : m < n → m < rows.length → rowRefusal (s.region r) (first + m) ≠ none
  read : ∀ i, i ≠ first + n ∨ m < n ∨ rows.length ≤ n ∨ rowRefusal (s.region r) (first + n) ≠ none →
    readRow (t.region r).rows i = readWritten (s.region r) first m rows i
  mixed : m = n → n < rows.length → rowRefusal (s.region r) (first + n) = none →
    readRow (t.region r).rows (first + n) =
      mixRow mask (readRow (s.region r).rows (first + n)) (asRow (rows.getD n []))

theorem readWritten_take {x : RegionRecord} {first m n : Nat} {rows : List Bytes} (h : m ≤ n) (i : Nat) :
    readWritten x first m (rows.take n) i = readWritten x first m rows i := by
  unfold readWritten
  split
  · have inside : i - first < n := by omega
    simp [List.getD_eq_getElem?_getD, inside]
  · rfl

theorem cutWrite_spec (r : Region) (first : Nat) (rows : List Bytes) (n : Nat) (mask : BitVec 32) (s : State) :
    ∃ m, WriteCut r first n rows mask m s (cutWrite r first rows n mask s) := by
  obtain ⟨m, w, ends⟩ := writeRows_spec r first (rows.take n) s
  have upTo : m ≤ n := w.count.trans (by simp)
  have count : m ≤ rows.length := w.count.trans (by simp)
  have stopped : m < n → m < rows.length → rowRefusal (s.region r) (first + m) ≠ none := by
    intro before inside
    rcases ends with ⟨-, e⟩ | ⟨-, -, refused⟩
    · simp at e; omega
    · exact refused
  have read : ∀ i, readRow ((writeRows r first (rows.take n) s).1.region r).rows i =
      readWritten (s.region r) first m rows i := fun i => (w.read i).trans (readWritten_take upTo i)
  have plain : (m = n → n < rows.length → rowRefusal (s.region r) (first + n) ≠ none) →
      WriteCut r first n rows mask m s (writeRows r first (rows.take n) s).1 := fun none =>
    ⟨w.only, w.header, upTo, count, w.passed, stopped, fun i _ => read i, fun a b c => absurd c (none a b)⟩
  refine ⟨m, ?_⟩
  unfold cutWrite
  rcases e : writeRows r first (rows.take n) s with ⟨t, o⟩
  rw [e] at w ends read plain
  dsimp only at w ends read plain
  rcases o with _ | o
  · have all : m = (rows.take n).length := by simpa using ends
    rcases h : rows[n]? with _ | row
    · refine plain fun _ inside => ?_
      simp [inside] at h
    · have inside : n < rows.length := (List.getElem?_eq_some_iff.mp h).1
      have whole : m = n := by simpa [Nat.min_eq_left inside.le] using all
      subst whole
      have same : rowRefusal (t.region r) (first + m) = rowRefusal (s.region r) (first + m) := w.refusal le_rfl
      have old : readRow (t.region r).rows (first + m) = readRow (s.region r).rows (first + m) := by
        rw [read, readWritten, if_neg (by omega)]
      dsimp only
      split
      · next pass =>
        rw [same] at pass
        refine ⟨onlyRegion_trans w.only (onlyRegion_withRegion r t _), ?_, upTo, count, w.passed, stopped,
          fun i hi => ?_, fun _ _ _ => ?_⟩
        · rw [State.withRow, State.region_withRegion]; exact w.header
        · have other : i ≠ first + m := by
            rcases hi with hi | hi | hi | hi
            · exact hi
            · omega
            · omega
            · exact absurd pass hi
          rw [State.withRow, State.region_withRegion]
          exact (readRow_writeRow_of_ne _ _ other).trans (read i)
        · rw [State.withRow, State.region_withRegion, readRow_writeRow_self, asRow_of_length (mixRow_length ..), old]
          simp [List.getD_eq_getElem?_getD, h]
      · next refused => exact plain fun _ _ e => refused (same.trans e)
  · refine plain fun whole _ => ?_
    rcases ends with ⟨e, -⟩ | ⟨-, short, -⟩
    · cases e
    · simp at short
      omega

section
variable {r : Region} {first n m : Nat} {rows : List Bytes} {mask : BitVec 32} {s t : State}
  (h : WriteCut r first n rows mask m s t)
include h

/-- The rows before the `k`-th are written where every test up to there passes. -/
theorem WriteCut.reaches {k : Nat} (before : k ≤ n) (inside : k ≤ rows.length)
    (passes : ∀ j, j < k → rowRefusal (s.region r) (first + j) = none) : k ≤ m := by
  by_contra short
  exact h.stopped (by omega) (by omega) (passes m (by omega))

theorem WriteCut.written {i : Nat} (inside : i < m) :
    readRow (t.region r).rows (first + i) = asRow (rows.getD i []) := by
  have upTo := h.upTo
  rw [h.read _ (.inl (by omega)), readWritten, if_pos (by omega), Nat.add_sub_cancel_left]

theorem WriteCut.kept {i : Nat}
    (other : i ≠ first + n ∨ m < n ∨ rows.length ≤ n ∨ rowRefusal (s.region r) (first + n) ≠ none)
    (outside : i < first ∨ first + m ≤ i) : readRow (t.region r).rows i = readRow (s.region r).rows i := by
  rw [h.read i other, readWritten, if_neg (by omega)]

end

theorem onlyRegion_cutWrite (r : Region) (first : Nat) (rows : List Bytes) (n : Nat) (mask : BitVec 32) (s : State) :
    OnlyRegion r s (cutState (.writeRows r first rows n mask) s) := by
  unfold cutState
  split
  · unfold cutShort
    dsimp only
    split
    · obtain ⟨m, w⟩ := cutWrite_spec r first rows n mask s
      exact w.only
    · exact onlyRegion_refl r s
  · exact onlyRegion_refl r s

/-- A WRITE ROWS that would have been taken is cut short; any other leaves nothing. -/
theorem region_cutWrite_cases (r : Region) (first : Nat) (rows : List Bytes) (n : Nat) (mask : BitVec 32) (s : State) :
    (s.store.clearing = none ∧ (s.region r).header.state = .opened ∧ 1 ≤ rows.length ∧ rows.length ≤ 3) ∧
        (∃ m, WriteCut r first n rows mask m s (cutState (.writeRows r first rows n mask) s)) ∨
      ¬ (s.store.clearing = none ∧ (s.region r).header.state = .opened ∧ 1 ≤ rows.length ∧ rows.length ≤ 3) ∧
        cutState (.writeRows r first rows n mask) s = s := by
  by_cases free : s.store.clearing = none
  · rw [cutState_of_free free]
    unfold cutShort
    dsimp only
    simp only [within_iff]
    split
    · next taken => exact .inl ⟨⟨free, taken⟩, cutWrite_spec ..⟩
    · next refused => exact .inr ⟨fun e => refused e.2, rfl⟩
  · exact .inr ⟨fun e => free e.1, cutState_of_clearing free fun _ _ _ => by simp⟩

/-- A row passes its test: it is declared and blank. -/
def RowPasses (x : RegionRecord) (i : Nat) : Prop := i < x.header.count ∧ readRow x.rows i = blankRow

theorem rowPasses_iff (x : RegionRecord) (i : Nat) : RowPasses x i ↔ rowRefusal x i = none := rowRefusal_eq_none.symm

/-- A WRITE ROWS leaves the earlier rows written and, of the row under way, each byte blank or new. -/
theorem region_cutWrite (r : Region) (first : Nat) (rows : List Bytes) (n : Nat) (mask : BitVec 32) (s : State) :
    let x := s.region r
    let y := (cutState (.writeRows r first rows n mask) s).region r
    y.header = x.header ∧
      (s.store.clearing = none → x.header.state = .opened → 1 ≤ rows.length → rows.length ≤ 3 →
        (∀ i, i < rows.length → i < n → (∀ j, j < i + 1 → RowPasses x (first + j)) →
          readRow y.rows (first + i) = asRow (rows.getD i [])) ∧
        (n < rows.length → (∀ j, j < n + 1 → RowPasses x (first + j)) → ∀ b, b < 32 →
          (readRow y.rows (first + n)).getD b 0 ∈ [0xFF, (asRow (rows.getD n [])).getD b 0])) ∧
      (¬ (s.store.clearing = none ∧ x.header.state = .opened ∧ 1 ≤ rows.length ∧ rows.length ≤ 3) → y = x) ∧
      (s.store.clearing = none → x.header.state = .opened → 1 ≤ rows.length → rows.length ≤ 3 →
        ∀ k, k < rows.length → k ≤ n → (∀ j, j < k → RowPasses x (first + j)) → ¬ RowPasses x (first + k) →
          (∀ i, i < k → readRow y.rows (first + i) = asRow (rows.getD i [])) ∧
          ∀ i, i < Region.capacity r → first + k ≤ i → readRow y.rows i = readRow x.rows i) ∧
      (∀ i, i < Region.capacity r → i < first ∨ first + (n + 1) ≤ i ∨ first + rows.length ≤ i →
        readRow y.rows i = readRow x.rows i) := by
  dsimp only
  simp only [rowPasses_iff]
  rcases region_cutWrite_cases r first rows n mask s with ⟨taken, m, w⟩ | ⟨refused, e⟩
  · refine ⟨w.header, fun _ _ _ _ => ⟨fun i inside before passes => ?_, fun inside passes b hb => ?_⟩,
      fun refused => absurd taken refused,
      fun _ _ _ _ k inside before passes fails => ⟨fun i hi => ?_, fun i _ beyond => ?_⟩, fun i _ outside => ?_⟩
    · exact w.written (w.reaches before inside passes)
    · have whole : m = n := le_antisymm w.upTo (w.reaches le_rfl inside.le fun j hj => passes j (by omega))
      have pass := passes n (by omega)
      rw [w.mixed whole inside pass, (rowRefusal_eq_none.mp pass).2]
      rcases mixRow_getD mask blankRow (asRow (rows.getD n [])) hb 0 with e | e
      · rw [e, asRow_getD _ hb 0xFF 0]
        simp
      · rw [e, blankRow_getD]
        simp
    · exact w.written (hi.trans_le (w.reaches before inside.le passes))
    · have all : m ≤ k := by
        by_contra more
        exact fails (w.passed k (by omega))
      have last : m < n ∨ rowRefusal (s.region r) (first + n) ≠ none := by
        rcases before.eq_or_lt with e | e
        · subst e; exact .inr fails
        · exact .inl (by omega)
      exact w.kept (.inr (last.imp_right .inr)) (.inr (by omega))
    · have upTo := w.upTo
      have count := w.count
      exact w.kept (by omega) (by omega)
  · rw [e]
    exact ⟨rfl, fun a b c d => absurd ⟨a, b, c, d⟩ refused, fun _ => rfl, fun a b c d => absurd ⟨a, b, c, d⟩ refused,
      fun _ _ _ => rfl⟩

/-! ### The two halves of the statement -/

theorem powerOn_site {p : Pins} {s : State} {f : SiteField} (h : f ≠ .lightChannel) :
    (powerOn p s).store.site.get f =
      if (SiteField.range f).1 ≤ (s.store.site.get f).toNat ∧ (s.store.site.get f).toNat ≤ (SiteField.range f).2
      then s.store.site.get f else SiteRecord.factory.get f :=
  (get_repaired ..).trans (repairSite_of_range h _)

theorem powerOn_light (p : Pins) (s : State) :
    (powerOn p s).store.site.lightChannel =
      if s.store.site.lightChannel.toNat ≤ 63 then s.store.site.lightChannel else 0xFFFF :=
  (get_repaired s.store.site .lightChannel).trans (repairSite_light _)

theorem powerOn_input (p : Pins) (s : State) {i : Nat} (h : i < 12) :
    (mapGet (powerOn p s).monitor.inputs i).map InputRec.level = some (p.inputs.getLsbD i) :=
  congrArg (Option.map InputRec.level) (mapGet_map_range (fun k => InputRec.unassigned (p.inputs.getLsbD k)) h)

theorem powerOn_gate (p : Pins) (s : State) {k : Nat} (h : k < 4) :
    mapGet (powerOn p s).drives.gates k = some .unconfigured := mapGet_map_range (fun _ => GateRec.unconfigured) h

theorem powerOn_pins (p : Pins) (s : State) {k : Nat} (h : k < 4) :
    (powerOn p s).gatePins k = [p.gate0, p.gate1, p.gate2, p.gate3].getD k .low := by
  have read : (powerOn p s).gatePins k = pinsOf p k := congrArg (fun o => o.getD .low) (mapGet_map_range (pinsOf p) h)
  rw [read]
  match k with
  | 0 | 1 | 2 | 3 => rfl

/-- Settles O18: the state that supply applied gives, part by part; and what each cut leaves, one by one. -/
theorem supplyComesAndGoes : Obligations.SupplyComesAndGoes := by
  refine ⟨fun s p => ⟨powerOn p s, rfl, rfl, rfl, rfl, rfl, rfl, rfl, rfl, rfl, rfl, rfl, rfl, rfl,
    fun i hi => powerOn_input p s hi, fun k hk => ⟨?_, ?_, powerOn_pins p s hk⟩, fun f _ hf => powerOn_site hf,
    powerOn_light p s, fun r _ => ?_⟩, fun s cut power => ⟨afterLoss (cutState cut s), ?_, rfl, rfl, rfl, rfl, ?_, ?_⟩⟩
  · rw [State.gateState, powerOn_gate p s hk]
    rfl
  · rw [powerOn_gate p s hk]
    rfl
  · rw [powerOn_region]
    refine ⟨verified_rows .., fun h => ?_, fun fits => ⟨fun h => ?_, fun a c => ?_, fun a c => ?_, fun a c => ?_,
      fun a c => ?_⟩, mem_newlyFailed _ r⟩
    · rcases h with beyond | unknown
      · rw [verified_overfull beyond]; rfl
      · rw [verified_unknown unknown]; rfl
    · rw [verified_still fits h]
    · rw [verified_active fits a c]
    · rw [verified_mismatch fits a c]
    · rw [verified_blank fits a c]
    · rw [verified_written a c]
      rfl
  · exact congrArg Host.Outcome.next (supplyLost_of_power cut power)
  · cases cut with
    | quiet => rw [cutState]; split <;> rfl
    | openRegion r n w => exact (onlyRegion_cutOpen r n w s).startList
    | writeRows r first rows n mask => exact (onlyRegion_cutWrite r first rows n mask s).startList
    | activate r check w => exact (onlyRegion_cutActivate r check w s).startList
    | clear r n mask => exact (onlyRegion_cutClear r n mask s).startList
    | siteWrite f v w => exact (site_cutSiteWrite f v w s).2.2.2
  · cases cut with
    | quiet => exact ⟨by rw [cutState]; split <;> rfl, by rw [cutState]; split <;> rfl⟩
    | openRegion r n w => exact ⟨(onlyRegion_cutOpen r n w s).elsewhere, region_cutOpen r n w s⟩
    | writeRows r first rows n mask =>
      exact ⟨(onlyRegion_cutWrite r first rows n mask s).elsewhere, region_cutWrite r first rows n mask s⟩
    | activate r check w => exact ⟨(onlyRegion_cutActivate r check w s).elsewhere, region_cutActivate r check w s⟩
    | clear r n mask =>
      refine ⟨(onlyRegion_cutClear r n mask s).elsewhere, fun refused => ?_, fun taken => ?_⟩
      · rw [afterLoss_region, region_cutClear, if_neg refused]
      · rw [afterLoss_region, region_cutClear, if_pos taken]
        refine ⟨rfl, fun i hi => ?_, fun b hb => ?_, fun i _ hi => ?_⟩
        · rw [readRow_cutClear_of_ne mask _ hi.ne, if_neg (by omega)]
        · rw [readRow_cutClear_self]
          rcases mixRow_getD mask (readRow (s.region r).rows n) blankRow hb 0 with e | e
          · rw [e, blankRow_getD]
            simp
          · rw [e]
            simp
        · rw [readRow_cutClear_of_ne mask _ hi.ne', if_pos hi.le]
    | siteWrite f v w =>
      obtain ⟨value, others, regions, -⟩ := site_cutSiteWrite f v w s
      exact ⟨value, others, regions⟩

end Sys2Proof.Machine
end

section
/-!
SUPPORT. Equations of the Line Switch and of the frame every meaning stands in: what a selection takes, what an offer
makes of an idle or a waiting port, and the state a command leaves at a part without reports left over.
-/

namespace Sys2Proof.Machine

/-! ### The frame of every meaning -/

section
variable (s : State) (c : Instr)

@[simp] theorem took_power : (s.took c).power = s.power := rfl
@[simp] theorem took_time : (s.took c).time = s.time := rfl
@[simp] theorem took_now : (s.took c).now = s.now := rfl
@[simp] theorem took_line : (s.took c).line = s.line := rfl
@[simp] theorem took_store : (s.took c).store = s.store := rfl
@[simp] theorem took_intake : (s.took c).intake = s.intake := rfl
@[simp] theorem took_monitor : (s.took c).monitor = s.monitor := rfl
@[simp] theorem took_sequencer : (s.took c).sequencer = s.sequencer := rfl
@[simp] theorem took_publisher : (s.took c).publisher = s.publisher := rfl
@[simp] theorem took_responder : (s.took c).responder = s.responder := rfl
@[simp] theorem took_waiting : (s.took c).waiting = s.waiting := rfl
@[simp] theorem took_reports : (s.took c).reports = s.reports := rfl
@[simp] theorem took_handed : (s.took c).handed = s.handed.erase c := rfl
@[simp] theorem took_ownAddress : (s.took c).ownAddress = s.ownAddress := rfl
@[simp] theorem took_region (r : Region) : (s.took c).region r = s.region r := by cases r <;> rfl

end

theorem taken_of_steady {c : Instr} {effect : State → State} {s : State} (h : s.steady) :
    taken c effect s = .next (flushReports (effect (s.took c))) := taken_of_power h.1

/-- A meaning that asks for no report leaves its effect. -/
theorem taken_of_quiet {c : Instr} {effect : State → State} {s : State} (h : s.steady)
    (quiet : (effect (s.took c)).reports = []) : taken c effect s = .next (effect (s.took c)) := by
  rw [taken_of_steady h, flushReports_of_nil quiet]

theorem taken_eq {c : Instr} {effect : State → State} {s t : State} (h : s.steady) (e : effect (s.took c) = t)
    (quiet : t.reports = []) : taken c effect s = .next t := by
  subst e
  exact taken_of_quiet h quiet

/-! ### Ports replaced -/

theorem setPort_setPort (l : LineSwitch) (p : Port) (q q' : PortState) :
    (l.setPort p q).setPort p q' = l.setPort p q' := by
  cases p <;> rfl

theorem setPort_self (l : LineSwitch) (p : Port) : l.setPort p (l.port p) = l := by cases p <;> rfl

theorem port_withPort (s : State) (p : Port) (q : PortState) : (s.withPort p q).line.port p = q := by
  simp [State.withPort]

theorem port_withPort_opposite (s : State) (p : Port) (q : PortState) :
    (s.withPort p q).line.port (opposite p) = s.line.port (opposite p) := by simp [State.withPort]

theorem withPort_withPort (s : State) (p : Port) (q q' : PortState) :
    (s.withPort p q).withPort p q' = s.withPort p q' := by
  cases p <;> rfl

/-- A port replaced and an answer told, the port then replaced again. -/
theorem answered_withPort (s : State) (p : Port) (q q' : PortState) (a : Option (Port × OfferAnswer)) :
    (s.withLine { s.line.setPort p q with answer := a }).withPort p q' =
      s.withLine { s.line.setPort p q' with answer := a } := by cases p <;> rfl

theorem port_answered (l : LineSwitch) (p : Port) (q : PortState) (a : Option (Port × OfferAnswer)) :
    ({ l.setPort p q with answer := a } : LineSwitch).port p = q := by cases p <;> rfl

/-! ### Selections (R11) -/

/-- The oldest local frame goes first while fewer than four have gone ahead of a waiting forward frame. -/
theorem chooseFrame_local {q : PortState} {l : LocalFrame} {ls : List LocalFrame} (first : q.localQ = l :: ls)
    (turn : q.forwardQ = [] ∨ q.streak < 4) :
    chooseFrame q = some (.own l,
      { q with localQ := ls, busy := some (.own l), streak := if q.forwardQ = [] then 0 else q.streak + 1 }) := by
  unfold chooseFrame
  rw [first]
  rcases e : q.forwardQ with _ | ⟨f, fs⟩
  · rfl
  · have below : q.streak < Config.streakLimit := turn.resolve_left (by simp [e])
    simp [below]

/-- Else the oldest forward frame. -/
theorem chooseFrame_forward {q : PortState} {f : Frame} {fs : List Frame} (first : q.forwardQ = f :: fs)
    (turn : q.localQ = [] ∨ 4 ≤ q.streak) :
    chooseFrame q = some (.passing f, { q with forwardQ := fs, busy := some (.passing f), streak := 0 }) := by
  unfold chooseFrame
  rw [first]
  rcases e : q.localQ with _ | ⟨l, ls⟩
  · rfl
  · have full : ¬ q.streak < Config.streakLimit := Nat.not_lt.mpr (turn.resolve_left (by simp [e]))
    simp [full]

section
variable {s : State} {p : Port}

/-- A transmitter that is busy, or waits for a restart, makes no selection. -/
theorem select_of_waits (h : (s.line.port p).busy.isSome = true ∨ p = .v ∧ s.responder.releasing = true) :
    select p s = s := by
  rcases h with h | ⟨rfl, h⟩
  · exact select_of_busy h
  · have still : s.selects .v = false := by simp [State.selects, h]
    rw [select, still]
    rfl

theorem select_of_down (h : (s.line.port p).up = false) : select p s = s := by
  have still : s.selects p = false := by simp [State.selects, h]
  rw [select, still]
  rfl

theorem select_of_empty (h : (s.line.port p).localQ = []) (k : (s.line.port p).forwardQ = []) : select p s = s := by
  unfold select chooseFrame
  rw [h, k]
  simp

variable (up : (s.line.port p).up = true) (idle : (s.line.port p).busy = none)
  (free : p = .v → s.responder.releasing = false)
include up idle free

theorem select_local {l : LocalFrame} {ls : List LocalFrame} (first : (s.line.port p).localQ = l :: ls)
    (turn : (s.line.port p).forwardQ = [] ∨ (s.line.port p).streak < 4) :
    select p s = (s.withPort p
      { s.line.port p with
        localQ := ls, busy := some (.own l)
        streak := if (s.line.port p).forwardQ = [] then 0 else (s.line.port p).streak + 1 }).hand (.spaceSignal p) := by
  rw [select, if_pos (State.selects_eq_true.mpr ⟨up, idle, free⟩), chooseFrame_local first turn]

theorem select_forward {f : Frame} {fs : List Frame} (first : (s.line.port p).forwardQ = f :: fs)
    (turn : (s.line.port p).localQ = [] ∨ 4 ≤ (s.line.port p).streak) :
    select p s = s.withPort p
      { s.line.port p with forwardQ := fs, busy := some (.passing f), streak := 0 } := by
  rw [select, if_pos (State.selects_eq_true.mpr ⟨up, idle, free⟩), chooseFrame_forward first turn]

end

/-! ### Offers (R10) -/

section
variable {s : State} {p : Port} {l : LocalFrame} (up : (s.line.port p).up = true)
include up

/-- A busy port, and a port V that waits for a restart, queues the frame. -/
theorem offer_of_waits (room : (s.line.port p).localQ.length < Config.localPlaces)
    (waits : (s.line.port p).busy.isSome = true ∨ p = .v ∧ s.responder.releasing = true) :
    offer p l s =
      (s.withLine { s.line.setPort p { s.line.port p with localQ := (s.line.port p).localQ ++ [l] } with
        answer := some (p, .accepted) }, .accepted) := by
  rw [offer_of_room up room, select_of_waits]
  rw [State.withLine_line, port_answered]
  exact waits

/-- An idle port sends a frame at once where nothing goes ahead of it, and signals space. -/
theorem offer_of_idle (idle : (s.line.port p).busy = none) (free : p = .v → s.responder.releasing = false)
    (empty : (s.line.port p).localQ = []) (turn : (s.line.port p).forwardQ = [] ∨ (s.line.port p).streak < 4) :
    offer p l s =
      ((s.withLine { s.line.setPort p
          { s.line.port p with
            busy := some (.own l)
            streak := if (s.line.port p).forwardQ = [] then 0 else (s.line.port p).streak + 1 } with
        answer := some (p, .accepted) }).hand (.spaceSignal p), .accepted) := by
  have room : (s.line.port p).localQ.length < Config.localPlaces := by simp [empty, Config.localPlaces]
  rw [offer_of_room up room, select_local (l := l) (ls := [])]
  · rw [State.withLine_line, port_answered, answered_withPort, ← empty]
  · rw [State.withLine_line, port_answered]; exact up
  · rw [State.withLine_line, port_answered]; exact idle
  · exact free
  · rw [State.withLine_line, port_answered]; simp [empty]
  · rw [State.withLine_line, port_answered]; exact turn

end

theorem offer_reports (p : Port) (l : LocalFrame) (s : State) : (offer p l s).1.reports = s.reports :=
  lineTouched_reports (lineTouched_offer p l s)

theorem reply_reports (s : State) (code tag result : Byte) (data : Bytes) :
    (s.reply code tag result data).reports = s.reports := offer_reports ..

theorem select_reports (p : Port) (s : State) : (select p s).reports = s.reports :=
  lineTouched_reports (lineTouched_select p s)

theorem give_reports (s : State) (gs : List Given) : (s.give gs).reports = s.reports :=
  lineTouched_reports (lineTouched_give s gs)

end Sys2Proof.Machine
end

section
/-!
OBLIGATION O20. Carrier found, carrier lost, and units at a port that is DOWN or that spell no frame.
-/

namespace Sys2Proof.Machine

section
variable {p : Port} {s : State}

theorem linkUp_of_up (up : (s.line.port p).up = true) : linkUp p s = s := if_pos up

theorem linkUp_of_down (down : (s.line.port p).up = false) :
    linkUp p s = (s.withPort p
      { s.line.port p with up := true, forwardQ := [], localQ := [], busy := none, streak := 0 }).hand
        (.spaceSignal p) := if_neg (by simp [down])

theorem linkDown_of_down (down : (s.line.port p).up = false) : linkDown p s = s := if_neg (by simp [down])

theorem linkDown_of_up (up : (s.line.port p).up = true) :
    linkDown p s = loseFrames p (s.line.port p).locals (s.withPort p
      { s.line.port p with up := false, forwardQ := [], localQ := [], busy := none, streak := 0 }) := if_pos up

theorem receiveUnit_of_down (u : Bytes) (down : (s.line.port p).up = false) : receiveUnit p u s = s := if_pos down

theorem receiveUnit_of_bad {u : Bytes} (up : (s.line.port p).up = true) (bad : parseUnit u = none) :
    receiveUnit p u s = s.withPort p
      { s.line.port p with badFrames := min 65535 ((s.line.port p).badFrames + 1) } := by
  unfold receiveUnit
  dsimp only
  rw [if_neg (by simp [up]), bad]
  rfl

end

/-! ### Frames that are lost -/

section
variable (p : Port) (ls : List LocalFrame) (s : State)

theorem give_port (gs : List Given) (q : Port) : (s.give gs).line.port q = s.line.port q := by
  unfold State.give
  split
  · rfl
  · cases q <;> rfl

theorem give_lineState (gs : List Given) : (s.give gs).line.lineState = s.line.lineState := by
  unfold State.give
  split <;> rfl

theorem give_silence (gs : List Given) : (s.give gs).line.silence = s.line.silence := by
  unfold State.give
  split <;> rfl

theorem give_handed (gs : List Given) : (s.give gs).handed = s.handed := by
  unfold State.give
  split <;> rfl

theorem give_responder (gs : List Given) : (s.give gs).responder = s.responder := by
  unfold State.give
  split <;> rfl

theorem give_outcomes {gs : List Given} (some : gs ≠ []) : (s.give gs).line.outcomes = gs := by
  unfold State.give
  rw [if_neg (by simpa using some)]
  rfl

/-- The outcomes are told, and a restart whose reply is among the lost frames is released. -/
theorem loseFrames_line :
    (loseFrames p ls s).line = (s.give (ls.map fun l => { port := p, frame := l.frame, outcome := .lost })).line := by
  unfold loseFrames
  dsimp only
  split <;> rfl

theorem loseFrames_unmarked (none : ls.any LocalFrame.restartReply = false) :
    (loseFrames p ls s).handed = s.handed ∧ (loseFrames p ls s).responder = s.responder := by
  unfold loseFrames
  rw [none]
  exact ⟨give_handed .., give_responder ..⟩

theorem loseFrames_marked (some : ls.any LocalFrame.restartReply = true) :
    (loseFrames p ls s).handed = .restartTakesEffect :: s.handed ∧
      (loseFrames p ls s).responder.releasing = true := by
  unfold loseFrames
  rw [some]
  exact ⟨congrArg (Instr.restartTakesEffect :: ·) (give_handed ..), rfl⟩

theorem loseFrames_reports : (loseFrames p ls s).reports = s.reports := by
  unfold loseFrames
  dsimp only
  split <;> exact give_reports ..

end

/-- What carrier lost makes of a port that is UP. -/
theorem carrierLost_of_up {p : Port} {s : State} (steady : s.steady) (up : (s.line.port p).up = true) :
    completes (.carrierLost p) s fun t =>
      t.line.port p = { s.line.port p with up := false, forwardQ := [], localQ := [], busy := none, streak := 0 } ∧
      t.line.port (opposite p) = s.line.port (opposite p) ∧
      t.line.lineState = s.line.lineState ∧ t.line.silence = s.line.silence ∧
      ((s.line.port p).locals ≠ [] →
        t.line.outcomes = (s.line.port p).locals.map fun l => { port := p, frame := l.frame, outcome := .lost }) ∧
      ((s.line.port p).locals.any LocalFrame.restartReply = false →
        t.handed = (s.took (.carrierLost p)).handed ∧ t.responder = s.responder) ∧
      ((s.line.port p).locals.any LocalFrame.restartReply = true →
        t.handed = .restartTakesEffect :: (s.took (.carrierLost p)).handed ∧ t.responder.releasing = true) := by
  have effect : linkDown p (s.took (.carrierLost p)) = _ := linkDown_of_up up
  refine ⟨_, taken_of_quiet steady ?_, ?_⟩
  · rw [effect, loseFrames_reports]
    exact steady.2
  · rw [effect]
    dsimp only
    rw [loseFrames_line]
    refine ⟨?_, ?_, ?_, ?_, fun some => ?_, fun h => loseFrames_unmarked _ _ _ h, fun h => loseFrames_marked _ _ _ h⟩
    · rw [give_port, port_withPort]; rfl
    · rw [give_port, port_withPort_opposite]; rfl
    · rw [give_lineState]; simp [State.withPort]
    · rw [give_silence]; simp [State.withPort]
    · exact give_outcomes _ (by simpa using some)

/-- Settles O20: a port with or without carrier, found so or made so. -/
theorem portsComeAndGoAndCountBadUnits : Obligations.PortsComeAndGoAndCountBadUnits := by
  refine ⟨fun p s steady => ⟨?_, ?_⟩, fun p u s steady => ⟨fun down => ?_, fun up bad => ?_⟩⟩
  · rcases up : (s.line.port p).up
    · exact ⟨_, taken_eq steady (linkUp_of_down up) steady.2, fun e => by simp at e, fun _ => rfl⟩
    · exact ⟨_, taken_eq steady (linkUp_of_up up) steady.2, fun _ => rfl, fun e => by simp at e⟩
  · rcases up : (s.line.port p).up
    · exact ⟨_, taken_eq steady (linkDown_of_down up) steady.2, fun _ => rfl, fun e => by simp at e⟩
    · obtain ⟨t, runs, holds⟩ := carrierLost_of_up steady up
      exact ⟨t, runs, fun e => by simp at e, fun _ => holds⟩
  · exact taken_eq steady (receiveUnit_of_down u down) steady.2
  · exact taken_eq steady (receiveUnit_of_bad up bad) steady.2

end Sys2Proof.Machine
end

section
/-!
OBLIGATION O23. Offers by the state of the port, and the end of a transmission: what is told, and what is sent next.
-/

namespace Sys2Proof.Machine

/-! ### Offers -/

theorem isFaceSet_compose (s : State) (kind : LocalKind) (dest : Addr) (payload : Bytes) :
    isFaceSet (s.compose kind dest payload) = decide (kind = .faceSet) := by cases kind <;> rfl

theorem lossCounted_compose (s : State) (kind : LocalKind) (dest : Addr) (payload : Bytes) (q : PortState) :
    lossCounted (s.compose kind dest payload) q =
      { q with reportLoss := if kind = .faceSet then q.reportLoss else min 65535 (q.reportLoss + 1) } := by
  unfold lossCounted
  rw [isFaceSet_compose]
  by_cases h : kind = .faceSet <;> simp [h, saturate, Config.counterMax]

/-- An offered frame runs as the offer of the composed frame. -/
theorem exec_frameOffered {p : Port} {kind : LocalKind} {dest : Addr} {payload : Bytes} {s t : State} {a : OfferAnswer}
    (steady : s.steady)
    (h : offer p { frame := s.compose kind dest payload, restartReply := false }
      (s.took (.frameOffered p kind dest payload)) = (t, a)) :
    exec (.frameOffered p kind dest payload) s = .next t := by
  have e : frameOffer p kind dest payload (s.took (.frameOffered p kind dest payload)) = t := congrArg Prod.fst h
  refine taken_eq (effect := frameOffer p kind dest payload) steady e ?_
  rw [← e]
  exact (offer_reports ..).trans steady.2

/-! ### The end of a transmission -/

section
variable {p : Port} {s : State}

/-- The port, its transmission over. -/
def endedPort (q : PortState) (forwarded : Nat) : PortState := { q with busy := none, forwarded := forwarded }

theorem completeTransmission_of_idle (h : (s.line.port p).busy = none) : completeTransmission p s = s := by
  unfold completeTransmission
  dsimp only
  rw [h]

theorem completeTransmission_of_own {l : LocalFrame} (h : (s.line.port p).busy = some (.own l)) :
    completeTransmission p s = select p
      (let t := (s.withPort p (endedPort (s.line.port p) (s.line.port p).forwarded)).give
          [{ port := p, frame := l.frame, outcome := .sent }]
        if l.restartReply then releaseRestart t else t) := by
  unfold completeTransmission
  dsimp only
  rw [h]
  rfl

theorem completeTransmission_of_passing {f : Frame} (h : (s.line.port p).busy = some (.passing f)) :
    completeTransmission p s = select p
      (s.withPort p (endedPort (s.line.port p) (min 65535 ((s.line.port p).forwarded + 1)))) := by
  unfold completeTransmission
  dsimp only
  rw [h]
  rfl

end

/-- What a selection leaves of its port beside the link, and of the outcomes. -/
theorem select_reportLoss (p : Port) (s : State) :
    ((select p s).line.port p).reportLoss = (s.line.port p).reportLoss := by
  have kept : ∀ {x q'}, chooseFrame (s.line.port p) = some (x, q') → q'.reportLoss = (s.line.port p).reportLoss := by
    intro x q' e
    unfold chooseFrame at e
    split at e
    · cases e
    · cases e; rfl
    · cases e; rfl
    · split at e <;> (cases e; rfl)
  unfold select
  split
  · split
    · rfl
    · next e => exact (congrArg PortState.reportLoss (port_withPort ..)).trans (kept e)
    · next e => exact (congrArg PortState.reportLoss (port_withPort ..)).trans (kept e)
  · rfl

theorem select_outcomes (p : Port) (s : State) : (select p s).line.outcomes = s.line.outcomes := by
  unfold select
  split
  · split
    · rfl
    · simp [State.withPort]
    · simp [State.withPort]
  · rfl

/-- What a selection after the end of a transmission leaves. -/
structure EndKept (p : Port) (s t : State) : Prop where
  opposite : t.line.port (opposite p) = s.line.port (opposite p)
  lineState : t.line.lineState = s.line.lineState
  silence : t.line.silence = s.line.silence
  up : (t.line.port p).up = (s.line.port p).up
  badFrames : (t.line.port p).badFrames = (s.line.port p).badFrames
  overflow : (t.line.port p).overflow = (s.line.port p).overflow
  reportLoss : (t.line.port p).reportLoss = (s.line.port p).reportLoss

theorem endKept_refl (p : Port) (s : State) : EndKept p s s := ⟨rfl, rfl, rfl, rfl, rfl, rfl, rfl⟩

theorem endKept_trans {p : Port} {s t u : State} (h : EndKept p s t) (k : EndKept p t u) : EndKept p s u :=
  ⟨k.opposite.trans h.opposite, k.lineState.trans h.lineState, k.silence.trans h.silence, k.up.trans h.up,
    k.badFrames.trans h.badFrames, k.overflow.trans h.overflow, k.reportLoss.trans h.reportLoss⟩

theorem endKept_select (p : Port) (s : State) : EndKept p s (select p s) := by
  obtain ⟨lineState, silence, -, ⟨up, bad, overflow, -⟩, opposite, -⟩ := offerLeaves_select p s
  exact ⟨opposite, lineState, silence, up, bad, overflow, select_reportLoss p s⟩

theorem endKept_withPort (p : Port) (s : State) (n : Nat) :
    EndKept p s (s.withPort p (endedPort (s.line.port p) n)) := by
  refine ⟨port_withPort_opposite .., ?_, ?_, ?_, ?_, ?_, ?_⟩
  · simp [State.withPort]
  · simp [State.withPort]
  all_goals rw [port_withPort]; rfl

theorem endKept_give (p : Port) (s : State) (gs : List Given) : EndKept p s (s.give gs) :=
  ⟨give_port .., give_lineState .., give_silence .., congrArg _ (give_port ..), congrArg _ (give_port ..),
    congrArg _ (give_port ..), congrArg _ (give_port ..)⟩

theorem completeTransmission_kept (p : Port) (s : State) : EndKept p s (completeTransmission p s) := by
  rcases h : (s.line.port p).busy with _ | l | f
  · rw [completeTransmission_of_idle h]
    exact endKept_refl p s
  · rw [completeTransmission_of_own h]
    have told := endKept_trans (endKept_withPort p s (s.line.port p).forwarded)
      (endKept_give p _ [{ port := p, frame := l.frame, outcome := .sent }])
    refine endKept_trans ?_ (endKept_select p _)
    dsimp only
    split
    · exact endKept_trans told ⟨rfl, rfl, rfl, rfl, rfl, rfl, rfl⟩
    · exact told
  · rw [completeTransmission_of_passing h]
    exact endKept_trans (endKept_withPort ..) (endKept_select p _)

theorem completeTransmission_reports (p : Port) (s : State) : (completeTransmission p s).reports = s.reports := by
  unfold completeTransmission
  dsimp only
  split
  · rfl
  · rw [select_reports]
    split
    · exact give_reports ..
    · exact give_reports ..
  · exact select_reports ..

/-- Any selection keeps the count of forwarded frames. -/
theorem select_forwarded (p : Port) (s : State) :
    ((select p s).line.port p).forwarded = (s.line.port p).forwarded := (offerLeaves_select p s).linked.2.2.2

/-- The frame that was sent is told SENT. -/
theorem completeTransmission_own_told {p : Port} {s : State} {l : LocalFrame}
    (h : (s.line.port p).busy = some (.own l)) :
    ((completeTransmission p s).line.port p).forwarded = (s.line.port p).forwarded ∧
      (completeTransmission p s).line.outcomes = [{ port := p, frame := l.frame, outcome := .sent }] := by
  have told : ∀ x : State, (if l.restartReply then releaseRestart x else x).line = x.line := by
    intro x
    split <;> rfl
  rw [completeTransmission_of_own h, select_forwarded, select_outcomes, told]
  refine ⟨?_, give_outcomes _ (by simp)⟩
  rw [give_port, port_withPort]
  rfl

/-- A forwarded frame is counted, the count stopping at 65535. -/
theorem completeTransmission_passing_told {p : Port} {s : State} {f : Frame}
    (h : (s.line.port p).busy = some (.passing f)) :
    ((completeTransmission p s).line.port p).forwarded = min 65535 ((s.line.port p).forwarded + 1) ∧
      (completeTransmission p s).line.outcomes = s.line.outcomes := by
  rw [completeTransmission_of_passing h, select_forwarded, select_outcomes, port_withPort]
  exact ⟨rfl, by simp [State.withPort]⟩

/-- A RESTART's reply releases the restart before any selection. -/
theorem completeTransmission_marked {s : State} {l : LocalFrame} (h : (s.line.port .v).busy = some (.own l))
    (marked : l.restartReply = true) :
    (completeTransmission .v s).line.port .v = { s.line.port .v with busy := none } ∧
      (completeTransmission .v s).responder.releasing = true ∧
      (completeTransmission .v s).handed = .restartTakesEffect :: s.handed := by
  rw [completeTransmission_of_own h, marked, select_of_waits (.inr ⟨rfl, rfl⟩)]
  exact ⟨(give_port ..).trans (port_withPort ..), rfl, congrArg (Instr.restartTakesEffect :: ·) (give_handed ..)⟩

/-- After any other transmission the next frame is selected from the port as the transmission leaves it. -/
theorem completeTransmission_selects {p : Port} {s : State} (busy : (s.line.port p).busy ≠ none)
    (unmarked : ∀ l, (s.line.port p).busy = some (.own l) → l.restartReply = false) :
    ∃ n w, completeTransmission p s = select p w ∧ w.line.port p = endedPort (s.line.port p) n ∧
      w.responder = s.responder ∧ w.handed = s.handed := by
  rcases h : (s.line.port p).busy with _ | l | f
  · exact absurd h busy
  · refine ⟨(s.line.port p).forwarded, _, completeTransmission_of_own h, ?_⟩
    simp only [unmarked l h, Bool.false_eq_true, if_false]
    exact ⟨(give_port ..).trans (port_withPort ..), give_responder .., give_handed ..⟩
  · exact ⟨min 65535 ((s.line.port p).forwarded + 1), _, completeTransmission_of_passing h, port_withPort .., rfl, rfl⟩

/-- The next frame by the streak rule (R11). -/
theorem completeTransmission_next {p : Port} {s : State} (up : (s.line.port p).up = true)
    (busy : (s.line.port p).busy ≠ none)
    (unmarked : ∀ l, (s.line.port p).busy = some (.own l) → l.restartReply = false)
    (free : p = .v → s.responder.releasing = false) :
    let q := s.line.port p
    let t := completeTransmission p s
    let q' := t.line.port p
    (q.localQ = [] → q.forwardQ = [] → q'.busy = none ∧ t.handed = s.handed) ∧
      (∀ l ls, q.localQ = l :: ls → (q.forwardQ = [] ∨ q.streak < 4) →
        q'.busy = some (.own l) ∧ q'.localQ = ls ∧ q'.forwardQ = q.forwardQ ∧
        q'.streak = (if q.forwardQ = [] then 0 else q.streak + 1) ∧ t.handed = s.handed ++ [.spaceSignal p]) ∧
      (∀ f fs, q.forwardQ = f :: fs → (q.localQ = [] ∨ 4 ≤ q.streak) →
        q'.busy = some (.passing f) ∧ q'.forwardQ = fs ∧ q'.localQ = q.localQ ∧ q'.streak = 0 ∧
        t.handed = s.handed) := by
  obtain ⟨n, w, e, port, responder, handed⟩ := completeTransmission_selects busy unmarked
  dsimp only
  rw [e, ← handed]
  have wup : (w.line.port p).up = true := by rw [port]; exact up
  have widle : (w.line.port p).busy = none := by rw [port]; rfl
  have wfree : p = .v → w.responder.releasing = false := by rw [responder]; exact free
  have locals : (w.line.port p).localQ = (s.line.port p).localQ := by rw [port]; rfl
  have forwards : (w.line.port p).forwardQ = (s.line.port p).forwardQ := by rw [port]; rfl
  have streak : (w.line.port p).streak = (s.line.port p).streak := by rw [port]; rfl
  rw [← locals, ← forwards, ← streak]
  refine ⟨fun a b => ?_, fun l ls first turn => ?_, fun f fs first turn => ?_⟩
  · rw [select_of_empty a b]
    exact ⟨widle, rfl⟩
  · rw [select_local wup widle wfree first turn, State.hand_line, port_withPort]
    exact ⟨rfl, rfl, rfl, rfl, rfl⟩
  · rw [select_forward wup widle wfree first turn, port_withPort]
    exact ⟨rfl, rfl, rfl, rfl, rfl⟩

/-- Settles O23: an offer by the state of its port; the end of a transmission, and the selection that follows it. -/
theorem offersAreAnsweredAndSent : Obligations.OffersAreAnsweredAndSent := by
  refine ⟨fun p kind dest payload code tag result s steady => ?_, fun p s steady => ?_⟩
  · intro c u q f l
    have composed : f = s.compose kind dest payload := by cases kind <;> rfl
    clear_value f
    subst composed
    refine ⟨rfl, fun down => ?_, fun up room waits => ?_, fun up empty idle free turn => ?_, fun up full => ?_, ?_⟩
    · exact exec_frameOffered steady (offer_of_down (s := s.took (.frameOffered p kind dest payload)) down)
    · exact exec_frameOffered steady
        (offer_of_waits (s := s.took (.frameOffered p kind dest payload)) up (Nat.lt_succ_of_le room) waits)
    · exact exec_frameOffered steady
        (offer_of_idle (s := s.took (.frameOffered p kind dest payload)) up idle free empty turn)
    · rw [← lossCounted_compose s kind dest payload]
      exact exec_frameOffered steady (offer_of_full (s := s.took (.frameOffered p kind dest payload)) up full)
    · rintro rfl rfl rfl data rfl
      exact exec_frameOffered steady rfl
  · refine ⟨completeTransmission p (s.took (.transmissionComplete p)), taken_of_quiet steady ?_, ?_⟩
    · rw [completeTransmission_reports]
      exact steady.2
    · obtain ⟨opposite, lineState, silence, up, bad, overflow, loss⟩ :=
        completeTransmission_kept p (s.took (.transmissionComplete p))
      refine ⟨opposite, lineState, silence, up, bad, overflow, loss, fun idle => completeTransmission_of_idle idle,
        fun l h => ?_, fun f h => completeTransmission_passing_told h, fun up busy unmarked free =>
          completeTransmission_next (s := s.took (.transmissionComplete p)) up busy unmarked free⟩
      obtain ⟨forwarded, outcomes⟩ := completeTransmission_own_told (s := s.took (.transmissionComplete p)) h
      refine ⟨forwarded, outcomes, ?_⟩
      rintro marked rfl
      exact completeTransmission_marked (s := s.took (.transmissionComplete .v)) h marked

end Sys2Proof.Machine
end

section
/-!
OBLIGATION O21. The disposal of a well-formed frame: dropped, consumed, handed to its owner, or sent on.
-/

namespace Sys2Proof.Machine

/-! ### Reception -/

/-- The state in which a received frame is disposed of: the line state has taken it where it is the centre's (R14). -/
def State.heard (s : State) (f : Frame) : State := if f.source = 0 then centreHeard s else s

section
variable (s : State) (f : Frame)

theorem centreHeard_port (p : Port) : (centreHeard s).line.port p = s.line.port p := by
  unfold centreHeard
  dsimp only
  split <;> cases p <;> rfl

@[simp] theorem heard_port (p : Port) : (s.heard f).line.port p = s.line.port p := by
  unfold State.heard
  split
  · exact centreHeard_port s p
  · rfl

@[simp] theorem heard_responder : (s.heard f).responder = s.responder := by
  unfold State.heard centreHeard
  dsimp only
  split
  · split <;> rfl
  · rfl

@[simp] theorem heard_time : (s.heard f).time = s.time := by
  unfold State.heard
  split
  · exact centreHeard_time s
  · rfl

@[simp] theorem heard_store : (s.heard f).store = s.store := by
  unfold State.heard centreHeard
  dsimp only
  split
  · split <;> rfl
  · rfl

theorem heard_ownAddress : (s.heard f).ownAddress = s.ownAddress := by simp [State.ownAddress]

theorem heard_arrival (p : Port) :
    (s.heard f).arrival p f =
      { source := f.source, dest := f.dest, port := p, time := s.now, payload := f.payload } := by
  simp [State.arrival, State.now]

/-- Beside the events that waited only the notice of a line that has become CONNECTED is handed on. -/
theorem heard_handed : (s.heard f).handed = s.handed ∨ (s.heard f).handed = s.handed ++ [.lineConnectedNotice] := by
  unfold State.heard centreHeard
  dsimp only
  split
  · split
    · exact .inl rfl
    · exact .inr rfl
  · exact .inl rfl

end

/-- A unit of well-formed bytes is disposed of as its frame. -/
theorem receiveUnit_bytes {p : Port} {f : Frame} {s : State} (up : (s.line.port p).up = true)
    (short : f.payload.length ≤ 120) (check : f.check = lineCheck f.body) :
    receiveUnit p f.bytes s = disposeFrame p f (s.heard f) := by
  unfold receiveUnit
  dsimp only
  rw [if_neg (by simp [up]), parseUnit_bytes short check]
  rfl

/-- What a well-formed frame leaves, its reports sent. -/
theorem exec_frame {p : Port} {f : Frame} {s t : State} (steady : s.steady) (up : (s.line.port p).up = true)
    (short : f.payload.length ≤ 120) (check : f.check = lineCheck f.body)
    (h : disposeFrame p f ((s.took (.frameReceived p f.bytes)).heard f) = t) :
    exec (.frameReceived p f.bytes) s = .next (flushReports t) := by
  rw [← h, ← receiveUnit_bytes (s := s.took (.frameReceived p f.bytes)) up short check]
  exact taken_of_steady steady

/-! ### Disposal (R5 to R8) -/

/-- The block a broadcast frame is for. -/
def broadcastOwner (kind : BitVec 6) (a : Arrival) : Option Instr :=
  if kind = kindSample then some (.sampleFrame a)
  else if kind = kindDetect then some (.detectFrame a)
  else if kind = kindManage then some (.manageFrame a)
  else none

section
variable {p : Port} {f : Frame} {s : State}

theorem disposeFrame_of_own_source (h : f.source = s.ownAddress) : disposeFrame p f s = s := if_pos h

theorem disposeFrame_of_own_dest (h : f.source ≠ s.ownAddress) (k : f.dest = s.ownAddress) :
    disposeFrame p f s =
      if f.kind = kindFaceReport then s.hand (.faceReport (s.arrival p f))
      else if f.kind = kindManage then s.hand (.manageFrame (s.arrival p f)) else s := by
  unfold disposeFrame
  dsimp only
  rw [if_neg h, if_pos k]

theorem disposeFrame_of_other (h : f.source ≠ s.ownAddress) (k : f.dest ≠ s.ownAddress) (b : f.dest ≠ broadcast) :
    disposeFrame p f s = forwardFrame p f s := by
  unfold disposeFrame
  dsimp only
  rw [if_neg h, if_neg k, if_neg b]

theorem disposeFrame_of_broadcast (h : f.source ≠ s.ownAddress) (k : f.dest ≠ s.ownAddress) (b : f.dest = broadcast) :
    disposeFrame p f s =
      forwardFrame p f (match broadcastOwner f.kind (s.arrival p f) with | none => s | some e => s.hand e) := by
  unfold disposeFrame broadcastOwner
  dsimp only
  rw [if_neg h, if_neg k, if_pos b]
  congr 1
  split
  · rfl
  · split
    · rfl
    · split <;> rfl

theorem broadcastOwner_of_mem {kind : BitVec 6} {a : Arrival} {e : BitVec 6 × Instr}
    (h : e ∈ [(0x01, Instr.sampleFrame a), (0x02, .detectFrame a), (0x10, .manageFrame a)]) (k : kind = e.1) :
    broadcastOwner kind a = some e.2 := by
  subst k
  simp only [List.mem_cons, List.not_mem_nil, or_false] at h
  rcases h with rfl | rfl | rfl <;> rfl

theorem broadcastOwner_of_not_mem {kind : BitVec 6} {a : Arrival} (h : kind ∉ [(0x01 : BitVec 6), 0x02, 0x10]) :
    broadcastOwner kind a = none := by
  simp only [List.mem_cons, List.not_mem_nil, or_false, not_or] at h
  obtain ⟨sample, detect, manage⟩ := h
  exact (if_neg sample).trans ((if_neg detect).trans (if_neg manage))

end

/-! ### Forwarding (R9) -/

section
variable {p : Port} {f : Frame} {s : State}

theorem forwardFrame_of_discarded (h : f.hop = 0 ∨ (s.line.port (opposite p)).up = false) :
    forwardFrame p f s = s := by
  unfold forwardFrame
  dsimp only
  rcases h with h | h
  · rw [if_pos h]
  · rw [if_pos h, ite_self]

variable (hop : f.hop ≠ 0) (up : (s.line.port (opposite p)).up = true)
include hop up

/-- With a free place the frame is queued, its hop limit one less and its check made anew, and a selection made. -/
theorem forwardFrame_of_room (room : (s.line.port (opposite p)).forwardQ.length ≤ 15) :
    forwardFrame p f s = select (opposite p) (s.withPort (opposite p)
      { s.line.port (opposite p) with
        forwardQ := (s.line.port (opposite p)).forwardQ ++ [Frame.sealed { f with hop := f.hop - 1 }] }) := by
  have place : (s.line.port (opposite p)).forwardQ.length < Config.forwardPlaces := Nat.lt_succ_of_le room
  unfold forwardFrame
  dsimp only
  rw [if_neg hop, if_neg (by simp [up]), if_pos place]

theorem forwardFrame_of_full (full : 16 ≤ (s.line.port (opposite p)).forwardQ.length) :
    forwardFrame p f s = s.withPort (opposite p)
      { s.line.port (opposite p) with overflow := min 65535 ((s.line.port (opposite p)).overflow + 1) } := by
  have none : ¬ (s.line.port (opposite p)).forwardQ.length < Config.forwardPlaces := Nat.not_lt.mpr full
  unfold forwardFrame
  dsimp only
  rw [if_neg hop, if_neg (by simp [up]), if_neg none]
  rfl

theorem forwardFrame_of_waits (room : (s.line.port (opposite p)).forwardQ.length ≤ 15)
    (waits : (s.line.port (opposite p)).busy.isSome = true ∨ opposite p = .v ∧ s.responder.releasing = true) :
    forwardFrame p f s = s.withPort (opposite p)
      { s.line.port (opposite p) with
        forwardQ := (s.line.port (opposite p)).forwardQ ++ [Frame.sealed { f with hop := f.hop - 1 }] } := by
  rw [forwardFrame_of_room hop up room, select_of_waits]
  rw [port_withPort]
  exact waits

theorem forwardFrame_of_idle (idle : (s.line.port (opposite p)).busy = none)
    (locals : (s.line.port (opposite p)).localQ = []) (forwards : (s.line.port (opposite p)).forwardQ = [])
    (free : ¬ (opposite p = .v ∧ s.responder.releasing = true)) :
    forwardFrame p f s = s.withPort (opposite p)
      { s.line.port (opposite p) with
        busy := some (.passing (Frame.sealed { f with hop := f.hop - 1 })), streak := 0 } := by
  rw [forwardFrame_of_room hop up (by simp [forwards]),
    select_forward (f := Frame.sealed { f with hop := f.hop - 1 }) (fs := [])]
  · rw [withPort_withPort, port_withPort, ← forwards]
  · rw [port_withPort]; exact up
  · rw [port_withPort]; exact idle
  · intro v
    simpa [v] using free
  · rw [port_withPort]; simp [forwards]
  · rw [port_withPort]; exact .inl locals

end

/-- Forwarding leaves the port of reception, hands on at most a signal of space, and asks for no report. -/
theorem forwardFrame_leaves (p : Port) (f : Frame) (s : State) :
    (forwardFrame p f s).line.port p = s.line.port p ∧ signalsOnly (opposite p) s (forwardFrame p f s) ∧
      (forwardFrame p f s).reports = s.reports := by
  have other : ∀ q : PortState, (s.withPort (opposite p) q).line.port p = s.line.port p := by
    intro q
    cases p <;> rfl
  unfold forwardFrame
  dsimp only
  split
  · exact ⟨rfl, .inl rfl, rfl⟩
  · split
    · exact ⟨rfl, .inl rfl, rfl⟩
    · split
      · have k := offerLeaves_select (opposite p) (s.withPort (opposite p)
          { s.line.port (opposite p) with
            forwardQ := (s.line.port (opposite p)).forwardQ ++ [Frame.sealed { f with hop := f.hop - 1 }] })
        have kept := k.opposite
        rw [opposite_opposite] at kept
        exact ⟨kept.trans (other _), k.handed, select_reports ..⟩
      · exact ⟨other _, .inl rfl, rfl⟩

/-! ### The two halves of the statement -/

/-- What becomes of a frame that goes on, in the terms of the port it goes on by. -/
theorem forwardFrame_cases {p : Port} {f : Frame} {s w : State}
    (port : w.line.port (opposite p) = s.line.port (opposite p)) (responder : w.responder = s.responder) :
    let o := s.line.port (opposite p)
    let g := Frame.sealed { f with hop := f.hop - 1 }
    let waits := opposite p = .v ∧ s.responder.releasing = true
    (f.hop = 0 ∨ o.up = false → forwardFrame p f w = w) ∧
      (f.hop ≠ 0 → o.up = true → o.forwardQ.length ≤ 15 → o.busy.isSome = true ∨ waits →
        forwardFrame p f w = w.withPort (opposite p) { o with forwardQ := o.forwardQ ++ [g] }) ∧
      (f.hop ≠ 0 → o.up = true → 16 ≤ o.forwardQ.length →
        forwardFrame p f w = w.withPort (opposite p) { o with overflow := min 65535 (o.overflow + 1) }) ∧
      (f.hop ≠ 0 → o.up = true → o.busy = none → o.localQ = [] → o.forwardQ = [] → ¬ waits →
        forwardFrame p f w = w.withPort (opposite p) { o with busy := some (.passing g), streak := 0 }) := by
  dsimp only
  rw [← port, ← responder]
  exact ⟨forwardFrame_of_discarded, forwardFrame_of_waits, forwardFrame_of_full, forwardFrame_of_idle⟩

/-- A broadcast frame is handed to its owner once. -/
theorem broadcast_handed {p : Port} {f : Frame} {s : State} (steady : s.steady) {e : Instr}
    (signal : e ≠ .spaceSignal .v ∧ e ≠ .spaceSignal .s) (notice : e ≠ .lineConnectedNotice)
    (other : e ≠ .frameReceived p f.bytes) :
    let t := flushReports (forwardFrame p f (((s.took (.frameReceived p f.bytes)).heard f).hand e))
    t.handed.count e = s.handed.count e + 1 ∧ (f.source ≠ 0 → t.line.port p = s.line.port p) := by
  dsimp only
  obtain ⟨port, handed, reports⟩ := forwardFrame_leaves p f (((s.took (.frameReceived p f.bytes)).heard f).hand e)
  constructor
  · have space : e ≠ .spaceSignal (opposite p) := by cases p <;> simp [opposite, signal]
    have once : (((s.took (.frameReceived p f.bytes)).heard f).hand e).handed.count e = s.handed.count e + 1 := by
      rw [State.hand_handed, List.count_append, List.count_singleton_self]
      rcases heard_handed (s.took (.frameReceived p f.bytes)) f with k | k
      · rw [k, took_handed, List.count_erase_of_ne other]
      · rw [k, List.count_append, List.count_singleton, if_neg (by simpa using notice.symm), took_handed,
          List.count_erase_of_ne other]
    rw [countsKept_flushReports _ e signal.1, ← once]
    rcases handed with k | k <;> rw [k]
    rw [List.count_append, List.count_singleton, if_neg (by simpa using space.symm)]
    rfl
  · intro source
    have silent : ((s.took (.frameReceived p f.bytes)).heard f) = s.took (.frameReceived p f.bytes) := if_neg source
    rw [flushReports_of_nil, port, silent]
    · rfl
    · rw [reports, silent]
      exact steady.2

/-- Settles O21: a well-formed frame by its source, its destination and its kind. -/
theorem framesAreForwardedOrHandedOver : Obligations.FramesAreForwardedOrHandedOver := by
  refine ⟨fun p f s steady up short check => ?_, fun p f s steady up short check source => ?_⟩
  · intro c u leaves o g a waits forwards
    have runs : ∀ {t}, disposeFrame p f u = t → leaves t := fun h => exec_frame steady up short check h
    have own : u.ownAddress = s.ownAddress := heard_ownAddress (s.took c) f
    have arrives : u.arrival p f = a := heard_arrival (s.took c) f p
    have goes : ∀ w : State, w.line.port (opposite p) = o → w.responder = s.responder →
        disposeFrame p f u = forwardFrame p f w → forwards w := fun w port responder h => by
      obtain ⟨discarded, queued, full, sent⟩ := forwardFrame_cases (f := f) port responder
      exact ⟨fun x => runs (h.trans (discarded x)), fun x y z v => runs (h.trans (queued x y z v)),
        fun x y z => runs (h.trans (full x y z)), fun x y z v v' v'' => runs (h.trans (sent x y z v v' v''))⟩
    have port : u.line.port (opposite p) = o := heard_port (s.took c) f (opposite p)
    have responder : u.responder = s.responder := heard_responder (s.took c) f
    refine ⟨fun h => runs (disposeFrame_of_own_source (h.trans own.symm)), fun source dest => ?_⟩
    rw [← own] at source dest
    refine ⟨fun kind => goes u port responder ?_, fun b e he k => goes (u.hand e.2) port responder ?_⟩
    · by_cases b : f.dest = broadcast
      · rw [disposeFrame_of_broadcast source dest b, broadcastOwner_of_not_mem (kind b)]
      · exact disposeFrame_of_other source dest b
    · rw [disposeFrame_of_broadcast source dest b, arrives, broadcastOwner_of_mem he k]
  · intro c u leaves a
    have runs : ∀ {t}, disposeFrame p f u = t → leaves t := fun h => exec_frame steady up short check h
    have own : u.ownAddress = s.ownAddress := heard_ownAddress (s.took c) f
    have arrives : u.arrival p f = a := heard_arrival (s.took c) f p
    rw [← own] at source ⊢
    refine ⟨fun dest => ?_, fun dest b e he k => ?_⟩
    · have disposed := disposeFrame_of_own_dest (p := p) source dest
      rw [arrives] at disposed
      refine ⟨fun k => runs ?_, fun k => runs ?_, fun k => runs ?_⟩
      · exact disposed.trans (if_pos k)
      · exact disposed.trans ((if_neg (by rw [k]; decide)).trans (if_pos k))
      · simp only [List.mem_cons, List.not_mem_nil, or_false, not_or] at k
        exact disposed.trans ((if_neg k.1).trans (if_neg k.2))
    · have disposed := disposeFrame_of_broadcast (p := p) source dest b
      rw [arrives, broadcastOwner_of_mem he k] at disposed
      refine ⟨_, runs disposed, ?_⟩
      simp only [List.mem_cons, List.not_mem_nil, or_false] at he
      rcases he with rfl | rfl | rfl <;> exact broadcast_handed steady (by simp) (by simp) (by simp)

end Sys2Proof.Machine
end

section
/-!
SUPPORT. A busy port V with room: a REPLY and the reports of a step join its local queue, one behind the other, and
hand nothing on.
-/

namespace Sys2Proof.Machine

/-- A frame in port V's queue changes the Line Switch alone. -/
theorem queuedV_compose (s : State) (l : LocalFrame) (kind : LocalKind) (dest : Addr) (payload : Bytes) :
    (s.queuedV l).compose kind dest payload = s.compose kind dest payload := rfl

@[simp] theorem queuedV_reportFrame (s : State) (l : LocalFrame) (kind : Byte) (data : Bytes) :
    (s.queuedV l).reportFrame kind data = s.reportFrame kind data := rfl

@[simp] theorem queuedV_handed (s : State) (l : LocalFrame) : (s.queuedV l).handed = s.handed := rfl
@[simp] theorem queuedV_localQ (s : State) (l : LocalFrame) :
    (s.queuedV l).line.portV.localQ = s.line.portV.localQ ++ [l] := rfl

/-- The room that a queued frame leaves. -/
theorem room_queuedV {s : State} {n : Nat} (h : s.room (n + 1)) (l : LocalFrame) : (s.queuedV l).room n := by
  obtain ⟨up, busy, room⟩ := h
  refine ⟨up, busy, ?_⟩
  rw [queuedV_localQ, List.length_append, List.length_singleton]
  omega

theorem room_mono {s : State} {m n : Nat} (h : s.room n) (k : m ≤ n) : s.room m := by
  obtain ⟨up, busy, room⟩ := h
  exact ⟨up, busy, by omega⟩

/-- An offer at port V with room. -/
theorem offer_of_roomV {s : State} {n : Nat} (h : s.room (n + 1)) (l : LocalFrame) :
    offer .v l s = (s.queuedV l, .accepted) := by
  obtain ⟨up, busy, room⟩ := h
  rw [offer_of_busy (p := .v) up busy (by change s.line.portV.localQ.length < _; omega)]
  rfl

theorem reply_of_room {s : State} {n : Nat} (h : s.room (n + 1)) (code tag result : Byte) (data : Bytes) :
    s.reply code tag result data = s.queuedV (s.replyFrame code tag result data) :=
  congrArg Prod.fst (offer_of_roomV h _)

theorem sendReport_of_room {s : State} {n : Nat} (h : s.room (n + 1)) (r : ReportRequest) :
    sendReport s r = s.queuedV (s.reportFrame r.kind r.data) := congrArg Prod.fst (offer_of_roomV h _)

/-- The reports of a step as they are offered. -/
def State.reportFrames (s : State) : List LocalFrame := s.reports.map fun r => s.reportFrame r.kind r.data

theorem sendReports_of_room (l : List ReportRequest) {s : State} (h : s.room l.length) :
    (l.foldl sendReport s).line.portV.localQ = s.line.portV.localQ ++ l.map (fun r => s.reportFrame r.kind r.data) ∧
      (l.foldl sendReport s).handed = s.handed := by
  induction l generalizing s with
  | nil => exact ⟨(List.append_nil _).symm, rfl⟩
  | cons r l ih =>
    rw [List.foldl_cons, sendReport_of_room h]
    obtain ⟨queue, handed⟩ := ih (room_queuedV h (s.reportFrame r.kind r.data))
    exact ⟨by rw [queue]; simp, handed⟩

/-- The reports of a step join port V's queue. -/
theorem flushReports_of_room {s : State} (h : s.room s.reports.length) :
    (flushReports s).line.portV.localQ = s.line.portV.localQ ++ s.reportFrames ∧
      (flushReports s).handed = s.handed := sendReports_of_room s.reports (s := s.withReports []) h

/-- A REPORT shows the running time, the section clock and the node address. -/
theorem reportFrame_congr {s t : State} (time : t.time = s.time) (store : t.store = s.store)
    (sequencer : t.sequencer = s.sequencer) (kind : Byte) (data : Bytes) :
    t.reportFrame kind data = s.reportFrame kind data := by
  simp [State.reportFrame, State.compose, State.ownAddress, State.now, time, store, sequencer]

/-- The reports of a step, told from the state before it. -/
theorem addedV_flushReports {s u : State} {n : Nat} (room : s.room n)
    (queue : u.line.portV.localQ = s.line.portV.localQ) (busy : u.line.portV.busy = s.line.portV.busy)
    (up : u.line.portV.up = s.line.portV.up) (few : u.reports.length ≤ n) :
    addedV s (flushReports u) u.reportFrames := by
  obtain ⟨upV, busyV, places⟩ := room
  have fits : u.room u.reports.length := ⟨by rw [up]; exact upV, by rw [busy]; exact busyV, by rw [queue]; omega⟩
  rw [addedV, (flushReports_of_room fits).1, queue]

/-! ### What the reports of a step leave, wherever they go -/

theorem sendReport_leaves (s : State) (r : ReportRequest) : OfferLeaves .v s (sendReport s r) := offerLeaves_offer rfl s

/-- The reports leave the line state and hand on signals of space at most. -/
theorem flushReports_lineState (s : State) :
    (flushReports s).line.lineState = s.line.lineState ∧ (flushReports s).line.silence = s.line.silence := by
  have k : Offers .lineOnly (fun p => p = .v) s (flushReports s) := offers_flushReports .refl rfl
  exact ⟨k.offersOnly.1, k.offersOnly.2.1⟩

theorem flushReports_handed (s : State) : s.handed <+: (flushReports s).handed := by
  have sent : ∀ (l : List ReportRequest) (u : State),
      s.handed <+: u.handed → s.handed <+: (l.foldl sendReport u).handed := by
    intro l
    induction l with
    | nil => exact fun _ h => h
    | cons r l ih =>
      intro u h
      refine ih _ (h.trans ?_)
      rcases (sendReport_leaves u r).handed with k | k <;> rw [k]
      exact List.prefix_append ..
  exact sent _ _ (List.prefix_refl _)

theorem flushReports_reports (s : State) : (flushReports s).reports = [] := by rw [lineTouched_flushReports s]; rfl

theorem flushReports_store (s : State) : (flushReports s).store = s.store := by rw [lineTouched_flushReports s]; rfl

end Sys2Proof.Machine
end

section
/-!
OBLIGATION O22. The line state: made CONNECTED by the centre's frames, ISOLATED by silence; and the start-up list.
-/

namespace Sys2Proof.Machine

/-! ### A frame from the centre -/

theorem centreHeard_lineState (s : State) : (centreHeard s).line.lineState = .connected := by
  unfold centreHeard
  dsimp only
  split
  · next e => exact e
  · rfl

theorem centreHeard_silence (s : State) :
    (centreHeard s).line.silence = some (s.now + 10 * s.store.site.silenceLimit.toNat) := by
  unfold centreHeard
  dsimp only
  split <;> rfl

theorem centreHeard_handed (s : State) :
    (centreHeard s).handed = s.handed ++ if s.line.lineState = .isolated then [.lineConnectedNotice] else [] := by
  unfold centreHeard
  dsimp only
  split
  · next e => simp [e]
  · next e => simp [e, setLineState]

theorem centreHeard_reports (s : State) :
    (centreHeard s).reports =
      s.reports ++ if s.line.lineState = .isolated then [{ kind := 0x01, data := [0] }] else [] := by
  unfold centreHeard
  dsimp only
  split
  · next e => simp [e]
  · next e =>
    rw [e]
    rfl

theorem centreHeard_store (s : State) : (centreHeard s).store = s.store := by
  unfold centreHeard
  dsimp only
  split <;> rfl

theorem centreHeard_sequencer (s : State) : (centreHeard s).sequencer = s.sequencer := by
  unfold centreHeard
  dsimp only
  split <;> rfl

/-! ### What disposal leaves -/

/-- Disposal leaves the line state and its timer, the reports asked for, and what a REPORT is made of; port V's local
queue where that port is busy; and what waits but for the frame's owner and a signal of space. -/
structure DisposedAs (s t : State) : Prop where
  lineState : t.line.lineState = s.line.lineState
  silence : t.line.silence = s.line.silence
  touched : lineTouched s t
  busyV : s.line.portV.busy.isSome = true → t.line.portV.localQ = s.line.portV.localQ ∧
    t.line.portV.busy = s.line.portV.busy ∧ t.line.portV.up = s.line.portV.up
  notices : t.handed.count .lineConnectedNotice = s.handed.count .lineConnectedNotice

theorem disposedAs_refl (s : State) : DisposedAs s s := ⟨rfl, rfl, rfl, fun _ => ⟨rfl, rfl, rfl⟩, rfl⟩

theorem disposedAs_hand (s : State) {e : Instr} (h : e ≠ .lineConnectedNotice) : DisposedAs s (s.hand e) := by
  refine ⟨rfl, rfl, lineTouched_hand s e, fun _ => ⟨rfl, rfl, rfl⟩, ?_⟩
  rw [State.hand_handed, List.count_append, List.count_singleton, if_neg (by simpa using h)]
  rfl

theorem disposedAs_trans {s t u : State} (h : DisposedAs s t) (k : DisposedAs t u) : DisposedAs s u := by
  refine ⟨k.lineState.trans h.lineState, k.silence.trans h.silence, lineTouched_trans h.touched k.touched,
    fun busy => ?_,
    k.notices.trans h.notices⟩
  obtain ⟨queue, same, up⟩ := h.busyV busy
  obtain ⟨queue', same', up'⟩ := k.busyV (by rw [same]; exact busy)
  exact ⟨queue'.trans queue, same'.trans same, up'.trans up⟩

/-- A port replaced, its local queue and its transmission kept. -/
theorem disposedAs_withPort (s : State) (p : Port) {q : PortState} (queue : q.localQ = (s.line.port p).localQ)
    (busy : q.busy = (s.line.port p).busy) (up : q.up = (s.line.port p).up) : DisposedAs s (s.withPort p q) := by
  refine ⟨by simp [State.withPort], by simp [State.withPort], lineTouched_withPort s p q, fun _ => ?_, rfl⟩
  cases p
  · exact ⟨queue, busy, up⟩
  · exact ⟨rfl, rfl, rfl⟩

theorem disposedAs_select (p : Port) (s : State) : DisposedAs s (select p s) := by
  have k := offerLeaves_select p s
  refine ⟨k.lineState, k.silence, lineTouched_select p s, fun busy => ?_, ?_⟩
  · cases p
    · rw [select_of_busy (p := .v) busy]
      exact ⟨rfl, rfl, rfl⟩
    · have other : (select .s s).line.portV = s.line.portV := k.opposite
      rw [other]
      exact ⟨rfl, rfl, rfl⟩
  · rcases k.handed with e | e <;> rw [e]
    rw [List.count_append, List.count_singleton, if_neg (by simp)]
    rfl

theorem disposedAs_forwardFrame (p : Port) (f : Frame) (s : State) : DisposedAs s (forwardFrame p f s) := by
  unfold forwardFrame
  dsimp only
  split
  · exact disposedAs_refl s
  · split
    · exact disposedAs_refl s
    · split
      · refine disposedAs_trans ?_ (disposedAs_select ..)
        exact disposedAs_withPort s (opposite p) rfl rfl rfl
      · exact disposedAs_withPort s (opposite p) rfl rfl rfl

theorem disposedAs_disposeFrame (p : Port) (f : Frame) (s : State) : DisposedAs s (disposeFrame p f s) := by
  by_cases source : f.source = s.ownAddress
  · rw [disposeFrame_of_own_source source]
    exact disposedAs_refl s
  · by_cases dest : f.dest = s.ownAddress
    · rw [disposeFrame_of_own_dest source dest]
      split
      · exact disposedAs_hand s (by simp)
      · split
        · exact disposedAs_hand s (by simp)
        · exact disposedAs_refl s
    · by_cases b : f.dest = broadcast
      · rw [disposeFrame_of_broadcast source dest b]
        refine disposedAs_trans ?_ (disposedAs_forwardFrame ..)
        split
        · exact disposedAs_refl s
        · next e h =>
          refine disposedAs_hand s ?_
          unfold broadcastOwner at h
          rintro rfl
          split at h
          · cases h
          · split at h
            · cases h
            · split at h <;> cases h
      · rw [disposeFrame_of_other source dest b]
        exact disposedAs_forwardFrame ..

/-- What a frame of the centre leaves. -/
theorem centre_frame {p : Port} {f : Frame} {s : State} (steady : s.steady) (up : (s.line.port p).up = true)
    (short : f.payload.length ≤ 120) (check : f.check = lineCheck f.body) (centre : f.source = 0) :
    completes (.frameReceived p f.bytes) s fun t =>
      t.line.lineState = .connected ∧
      t.line.silence = some (s.now + 10 * s.store.site.silenceLimit.toNat) ∧
      t.handed.count .lineConnectedNotice = s.handed.count .lineConnectedNotice +
        (if s.line.lineState = .isolated then 1 else 0) ∧
      (s.room 1 → addedV s t (if s.line.lineState = .isolated then [s.reportFrame 0x01 [0]] else [])) := by
  have heard : (s.took (.frameReceived p f.bytes)).heard f = centreHeard (s.took (.frameReceived p f.bytes)) :=
    if_pos centre
  refine ⟨_, exec_frame steady up short check (by rw [heard]), ?_⟩
  obtain ⟨lineState, silence, touched, busyV, notices⟩ :=
    disposedAs_disposeFrame p f (centreHeard (s.took (.frameReceived p f.bytes)))
  refine ⟨?_, ?_, ?_, fun room => ?_⟩
  · rw [(flushReports_lineState _).1, lineState]
    exact centreHeard_lineState _
  · rw [(flushReports_lineState _).2, silence]
    exact centreHeard_silence _
  · rw [countsKept_flushReports _ _ (by simp), notices, centreHeard_handed, List.count_append, took_handed,
      List.count_erase_of_ne (by simp), took_line]
    split <;> rfl
  · have before : (centreHeard (s.took (.frameReceived p f.bytes))).line.portV = s.line.portV :=
      centreHeard_port (s.took (.frameReceived p f.bytes)) .v
    obtain ⟨queue, same, still⟩ := busyV (by rw [before]; exact room.2.1)
    rw [before] at queue same still
    have asked := (lineTouched_reports touched).trans (centreHeard_reports (s.took (.frameReceived p f.bytes)))
    rw [took_reports, steady.2, List.nil_append, took_line] at asked
    have frames : (disposeFrame p f (centreHeard (s.took (.frameReceived p f.bytes)))).reportFrames =
        if s.line.lineState = .isolated then [s.reportFrame 0x01 [0]] else [] := by
      unfold State.reportFrames
      rw [asked]
      split
      · refine congrArg (fun l => [l]) (reportFrame_congr ?_ ?_ ?_ _ _)
        · exact (lineTouched_time touched).trans (centreHeard_time _)
        · exact (lineTouched_store touched).trans (centreHeard_store _)
        · exact (lineTouched_sequencer touched).trans (centreHeard_sequencer _)
      · rfl
    rw [← frames]
    exact addedV_flushReports room queue same still (by rw [asked]; split <;> simp)

/-- What the expiry of the silence timer leaves. -/
theorem silence_expiry {s : State} (steady : s.steady) {e : Nat} (running : s.line.silence = some e) :
    completes .silenceTimerExpiry s fun t =>
      t.line.lineState = .isolated ∧ t.line.silence = none ∧ t.time = max s.time (2 * e) ∧
      ((s.took .silenceTimerExpiry).handed ++ [Instr.lineIsolatedNotice]).isPrefixOf t.handed = true ∧
      (s.room 1 → addedV s t [(s.reach e).reportFrame 0x01 [1]]) := by
  have effect : silenceExpired (s.took .silenceTimerExpiry) =
      (setLineState .isolated (((s.took .silenceTimerExpiry).reach e).withLine
        { s.line with silence := none })).hand .lineIsolatedNotice := by
    unfold silenceExpired
    rw [took_line, running]
    rfl
  refine ⟨_, taken_of_steady steady, ?_⟩
  rw [effect]
  refine ⟨?_, ?_, ?_, ?_, fun room => ?_⟩
  · exact (flushReports_lineState _).1
  · exact (flushReports_lineState _).2
  · exact flushReports_time _
  · refine List.isPrefixOf_iff_prefix.mpr (List.IsPrefix.trans ?_ (flushReports_handed _))
    exact List.prefix_refl _
  · have frames : ((setLineState .isolated (((s.took .silenceTimerExpiry).reach e).withLine
        { s.line with silence := none })).hand .lineIsolatedNotice).reportFrames =
          [(s.reach e).reportFrame 0x01 [1]] := by
      unfold State.reportFrames setLineState State.report
      simp only [State.hand_reports, State.withReports_reports, State.withLine_reports, State.reach_reports,
        took_reports, steady.2]
      rfl
    rw [← frames]
    refine addedV_flushReports room rfl rfl rfl ?_
    unfold setLineState State.report
    simp [steady.2]

/-! ### The start-up list (R41, R42) -/

/-- The reports of a list of regions, asked for one after another. -/
theorem regionReports_eq (cause : RegionCause) (l : List Region) (s : State) :
    l.foldl (regionReport cause) s =
      s.withReports (s.reports ++ l.map fun r =>
        { kind := reportRegionState, data := regionData r (s.region r).header cause }) := by
  induction l generalizing s with
  | nil => simp [State.withReports]
  | cons r l ih =>
    have same : ∀ q, (regionReport cause s r).region q = s.region q := fun q => by cases q <;> rfl
    rw [List.foldl_cons, ih]
    simp only [same]
    simp [regionReport, State.report, State.withReports]

theorem lineConnected_eq (s : State) :
    lineConnected s = (s.withReports (s.reports ++ s.store.startList.map fun r =>
        { kind := reportRegionState, data := regionData r (s.region r).header .failedAtStartup })).withStore
      { s.store with startList := [] } := by
  unfold lineConnected
  rw [regionReports_eq]

/-- What the notice of a CONNECTED line leaves. -/
theorem startList_reported {s : State} (steady : s.steady) :
    completes .lineConnectedNotice s fun t =>
      t.store = { s.store with startList := [] } ∧
      t.handed.count .lineConnectedNotice ≤ s.handed.count .lineConnectedNotice ∧
      (s.room s.store.startList.length → addedV s t (s.store.startList.map fun r =>
        s.reportFrame 0x02 (byteOf (Region.number r) ++ byteOf (RegionState.num (s.region r).header.state) ++
          byteOf (s.region r).header.count ++ be 2 (s.region r).header.check.toNat ++ [2]))) := by
  refine ⟨_, taken_of_steady steady, ?_⟩
  rw [lineConnected_eq]
  refine ⟨flushReports_store _, ?_, fun room => ?_⟩
  · rw [countsKept_flushReports _ _ (by simp)]
    exact List.erase_sublist.count_le _
  · have added := addedV_flushReports (u := ((s.took .lineConnectedNotice).withReports
        ((s.took .lineConnectedNotice).reports ++ s.store.startList.map fun r =>
          { kind := reportRegionState, data := regionData r (s.region r).header .failedAtStartup })).withStore
      { s.store with startList := [] }) room rfl rfl rfl (by simp [steady.2])
    unfold State.reportFrames at added
    simp only [State.withStore_reports, State.withReports_reports, took_reports, steady.2, List.nil_append,
      List.map_map] at added
    simp only [took_reports, steady.2, List.nil_append]
    exact added

/-- Settles O22: the centre heard, the centre silent, and the start-up list reported. -/
theorem lineStateFollowsTheCentre : Obligations.LineStateFollowsTheCentre := by
  refine ⟨fun p f s steady => ⟨fun up short check centre => centre_frame steady up short check centre,
    fun e running => silence_expiry steady running, fun stopped => ?_⟩, fun s steady => startList_reported steady⟩
  refine taken_eq steady ?_ steady.2
  unfold silenceExpired
  rw [took_line, stopped]

end Sys2Proof.Machine
end

section
/-!
OBLIGATION O24. RESTART by the state of port V, and the restart taking effect.
-/

namespace Sys2Proof.Machine

/-! ### RESTART (R174) -/

theorem requestRestart_of_pending {s : State} (h : s.responder.restartPending = true) (tag : Byte) :
    requestRestart tag s = s.reply 0x4F tag busyResult [] := if_pos h

/-- The REPLY to a RESTART that is taken. -/
def State.restartFrame (s : State) (tag : Byte) : LocalFrame :=
  { s.replyFrame 0x4F tag done (be 4 s.now) with restartReply := true }

/-- The state in which it is offered. -/
def State.restartAsked (s : State) : State := s.withResponder { s.responder with restartPending := true }

theorem requestRestart_of_none {s : State} (h : s.responder.restartPending = false) (tag : Byte) :
    requestRestart tag s = (offer .v (s.restartFrame tag) s.restartAsked).1 := by
  unfold requestRestart
  rw [if_neg (by simp [h])]
  rfl

theorem requestRestart_reports (tag : Byte) (s : State) : (requestRestart tag s).reports = s.reports := by
  unfold requestRestart
  split
  · exact reply_reports ..
  · exact offer_reports ..

theorem exec_restart {tag : Byte} {s t : State} (steady : s.steady)
    (h : requestRestart tag (s.took (.restart tag)) = t) :
    exec (.restart tag) s = .next t := by
  refine taken_eq steady h ?_
  rw [← h, requestRestart_reports]
  exact steady.2

theorem State.ready.room {s : State} (h : s.ready) : s.room 1 := ⟨h.2.1, h.2.2.1, Nat.succ_le_of_lt h.2.2.2⟩

/-- A restart released while its reply is offered: nothing of the reply waits. -/
def State.freed (s : State) (l : LineSwitch) : State :=
  ((s.withLine l).withResponder { restartPending := true, releasing := true }).handFirst .restartTakesEffect

section
variable {s : State} {tag : Byte}

theorem restart_of_down (down : s.line.portV.up = false) :
    (offer .v (s.restartFrame tag) s.restartAsked).1 = s.freed
      { s.line with
        answer := some (.v, .accepted)
        outcomes := [{ port := .v, frame := (s.replyFrame 0x4F tag done (be 4 s.now)).frame, outcome := .lost }] } := by
  rw [offer_of_down (p := .v) (s := s.restartAsked) down]
  rfl

theorem restart_of_full (up : s.line.portV.up = true) (full : 8 ≤ s.line.portV.localQ.length) :
    (offer .v (s.restartFrame tag) s.restartAsked).1 = s.freed
      { s.line with
        answer := some (.v, .full)
        portV := { s.line.portV with reportLoss := min 65535 (s.line.portV.reportLoss + 1) } } := by
  rw [offer_of_full (p := .v) (s := s.restartAsked) up full]
  rfl

theorem restart_of_waits (up : s.line.portV.up = true) (room : s.line.portV.localQ.length ≤ 7)
    (waits : s.line.portV.busy.isSome = true ∨ s.responder.releasing = true) :
    (offer .v (s.restartFrame tag) s.restartAsked).1 = s.restartAsked.queuedV (s.restartFrame tag) := by
  rw [offer_of_waits (p := .v) (s := s.restartAsked) up (Nat.lt_succ_of_le room) (waits.imp_right fun h => ⟨rfl, h⟩)]
  rfl

theorem restart_of_idle (up : s.line.portV.up = true) (empty : s.line.portV.localQ = [])
    (idle : s.line.portV.busy = none) (free : s.responder.releasing = false)
    (turn : s.line.portV.forwardQ = [] ∨ s.line.portV.streak < 4) :
    (offer .v (s.restartFrame tag) s.restartAsked).1 = (s.restartAsked.withLine
      { s.line with
        answer := some (.v, .accepted)
        portV :=
          { s.line.portV with
            busy := some (.own (s.restartFrame tag))
            streak := if s.line.portV.forwardQ = [] then 0 else s.line.portV.streak + 1 } }).hand (.spaceSignal .v) := by
  rw [offer_of_idle (p := .v) (s := s.restartAsked) up idle (fun _ => free) empty turn]
  rfl

end

/-! ### The restart takes effect (R19, R175) -/

theorem restartEffect_of_none {s : State} (h : s.responder.restartPending = false) : restartEffect s = s :=
  if_neg (by simp [h])

theorem restartEffect_of_pending {s : State} (h : s.responder.restartPending = true) :
    restartEffect s =
      (lineRestart (s.withResponder { restartPending := false, releasing := false })).handAll restartNotices := if_pos h

theorem give_store (s : State) (gs : List Given) : (s.give gs).store = s.store :=
  lineTouched_store (lineTouched_give s gs)

/-- The Line Switch's restart: both ports emptied and zeroed, the local frames lost, space signalled. -/
theorem lineRestart_leaves (s : State) :
    (∀ p, (lineRestart s).line.port p = restartPort (s.line.port p)) ∧
      (lineRestart s).line.lineState = s.line.lineState ∧ (lineRestart s).line.silence = s.line.silence ∧
      (lineRestart s).store = s.store ∧ (lineRestart s).responder = s.responder ∧
      (lineRestart s).reports = s.reports ∧
      (lineRestart s).handed = s.handed ++ ((if s.line.portV.up then [.spaceSignal .v] else []) ++
        (if s.line.portS.up then [.spaceSignal .s] else [])) := by
  unfold lineRestart
  dsimp only
  refine ⟨fun p => (give_port ..).trans ?_, give_lineState .., give_silence .., give_store ..,
    give_responder .., give_reports .., congrArg (· ++ _) (give_handed ..)⟩
  cases p <;> rfl

theorem lineRestart_outcomes {s : State} (some : s.line.portV.localQ ++ s.line.portS.localQ ≠ []) :
    (lineRestart s).line.outcomes = lostAt .v s.line.portV ++ lostAt .s s.line.portS := by
  unfold lineRestart
  dsimp only
  refine give_outcomes _ fun none => some ?_
  simpa [lostAt] using none

/-- What the restart leaves. -/
theorem restart_takes_effect {s : State} (steady : s.steady) (pending : s.responder.restartPending = true) :
    completes .restartTakesEffect s fun t =>
      t.responder = { restartPending := false, releasing := false } ∧
      (∀ p, t.line.port p = restartPort (s.line.port p)) ∧
      t.line.lineState = s.line.lineState ∧ t.line.silence = s.line.silence ∧ t.store = s.store ∧
      (s.line.portV.localQ ++ s.line.portS.localQ ≠ [] →
        t.line.outcomes = lostAt .v s.line.portV ++ lostAt .s s.line.portS) ∧
      t.handed = (s.took .restartTakesEffect).handed ++
        (if s.line.portV.up = true then [.spaceSignal .v] else []) ++
        (if s.line.portS.up = true then [.spaceSignal .s] else []) ++ restartNotices := by
  obtain ⟨ports, lineState, silence, store, responder, reports, handed⟩ := lineRestart_leaves
    ((s.took .restartTakesEffect).withResponder { restartPending := false, releasing := false })
  refine ⟨_, taken_eq steady (restartEffect_of_pending (s := s.took .restartTakesEffect) pending) ?_,
    responder, ports, lineState, silence, store, fun some => lineRestart_outcomes some, ?_⟩
  · exact reports.trans steady.2
  · rw [State.handAll_handed, handed, ← List.append_assoc]
    rfl

/-- Settles O24: RESTART by the pending flag and the state of port V; the restart by the pending flag. -/
theorem restartIsTakenAndTakesEffect : Obligations.RestartIsTakenAndTakesEffect := by
  intro tag s steady
  refine ⟨fun ready pending => ?_, fun ready none => ?_, fun pending => ?_, fun none => ⟨fun down => ?_,
    fun up full => ?_, fun up room waits => ?_, fun up empty idle free turn => ?_⟩, fun none => ?_, fun pending => ?_⟩
  · refine exec_restart steady ((requestRestart_of_pending (s := s.took (.restart tag)) pending tag).trans ?_)
    exact reply_of_room (s := s.took (.restart tag)) (n := 0) ready.room ..
  · refine exec_restart steady ((requestRestart_of_none (s := s.took (.restart tag)) none tag).trans ?_)
    exact restart_of_waits (s := s.took (.restart tag)) ready.2.1 (Nat.le_of_lt_succ ready.2.2.2) (.inl ready.2.2.1)
  · exact exec_restart steady (requestRestart_of_pending (s := s.took (.restart tag)) pending tag)
  · exact exec_restart steady ((requestRestart_of_none (s := s.took (.restart tag)) none tag).trans
      (restart_of_down (s := s.took (.restart tag)) down))
  · exact exec_restart steady ((requestRestart_of_none (s := s.took (.restart tag)) none tag).trans
      (restart_of_full (s := s.took (.restart tag)) up full))
  · exact exec_restart steady ((requestRestart_of_none (s := s.took (.restart tag)) none tag).trans
      (restart_of_waits (s := s.took (.restart tag)) up room (.inr waits)))
  · exact exec_restart steady ((requestRestart_of_none (s := s.took (.restart tag)) none tag).trans
      (restart_of_idle (s := s.took (.restart tag)) up empty idle free turn))
  · exact taken_eq steady (restartEffect_of_none (s := s.took .restartTakesEffect) none) steady.2
  · obtain ⟨t, runs, responder, ports, rest⟩ := restart_takes_effect steady pending
    refine ⟨t, runs, responder, fun p _ => ?_, rest⟩
    rw [ports p]
    exact ⟨rfl, rfl, rfl, rfl, rfl, rfl, rfl, rfl, rfl⟩

end Sys2Proof.Machine
end

section
/-!
SUPPORT. The request codes and the requests their parameters spell.
-/

namespace Sys2Proof.Machine

/-! ### Codes and lengths -/

theorem requestLength_eq_none {code : Byte} (ps : Bytes) :
    requestLength code ps = none ↔ code.toNat ∉ requestCodes := by
  unfold requestLength
  split <;> simp_all [requestCodes]

theorem requestOf_isSome (code tag : Byte) (ps qs : Bytes) :
    (requestOf code tag ps).isSome = (requestLength code qs).isSome := by
  unfold requestLength requestOf
  split <;> simp_all

/-! ### Acceptance -/

theorem hand_of_steady {s : State} (h : s.steady) (c i : Instr) : ((s.took c).hand i).reports = [] := h.2

theorem reply_of_steady {s : State} (h : s.steady) (c : Instr) (code tag result : Byte) :
    ((s.took c).reply code tag result []).reports = [] := by
  rw [reply_reports]
  exact h.2

theorem acceptRequest_of_unknown {code : Byte} (h : code.toNat ∉ requestCodes) (tag : Byte) (ps : Bytes) (s : State) :
    acceptRequest code tag ps s = s.reply code tag unknownRequestResult [] := by
  unfold acceptRequest
  rw [(requestLength_eq_none ps).mpr h]

theorem acceptRequest_of_badLength {code : Byte} {ps : Bytes} {n : Nat} (h : requestLength code ps = some n)
    (other : ps.length ≠ n) (tag : Byte) (s : State) : acceptRequest code tag ps s = s.reply code tag badLength [] := by
  unfold acceptRequest
  rw [h]
  exact if_neg other

theorem acceptRequest_of_length {code tag : Byte} {ps : Bytes} {i : Instr} (h : requestLength code ps = some ps.length)
    (k : requestOf code tag ps = some i) (s : State) : acceptRequest code tag ps s = s.hand i := by
  unfold acceptRequest
  rw [h, k]
  exact if_pos rfl

section
variable {a : Arrival} {code tag : Byte} {ps : Bytes} {s : State}

theorem takeManage_ignored (h : a.source ≠ 0 ∨ a.payload.length < 2) : takeManage a s = s := by
  unfold takeManage
  split
  · rfl
  · next centre =>
    have short := h.resolve_left centre
    split
    · next e => simp [e] at short
    · rfl

theorem takeManage_broadcast (h : a.source = 0) (e : a.payload = code :: tag :: ps) (d : a.dest = 1023) :
    takeManage a s = acceptBroadcast code tag ps s := by
  have all : a.dest = broadcast := d
  simp [takeManage, h, e, all]

theorem takeManage_own (h : a.source = 0) (e : a.payload = code :: tag :: ps) (d : a.dest ≠ 1023) :
    takeManage a s = acceptRequest code tag ps s := by
  have own : a.dest ≠ broadcast := d
  simp [takeManage, h, e, own]

end

/-- A code followed by parameters of its length hands its request on. -/
theorem manageFrame_spells {s : State} (h : s.steady) {x : Arrival} (centre : x.source = 0) (own : x.dest ≠ 1023)
    {code tag : Byte} {ps : Bytes} {i : Instr} (n : requestLength code ps = some ps.length)
    (k : requestOf code tag ps = some i) :
    exec (.manageFrame { x with payload := code :: tag :: ps }) s =
      .next ((s.took (.manageFrame { x with payload := code :: tag :: ps })).hand i) := by
  refine taken_eq h ?_ (hand_of_steady h _ _)
  refine (takeManage_own (a := { x with payload := code :: tag :: ps }) centre rfl own).trans ?_
  exact acceptRequest_of_length n k _

/-! ### Parameters -/

/-- Blocks of one size, joined, are cut apart again. -/
theorem map_take_drop_flatten (n : Nat) (rows : List Bytes) (size : ∀ row ∈ rows, row.length = n) :
    ((List.range rows.length).map fun i => (rows.flatten.drop (n * i)).take n) = rows := by
  induction rows with
  | nil => rfl
  | cons row rows ih =>
    have first : row.length = n := size row List.mem_cons_self
    have rest := ih fun r hr => size r (List.mem_cons_of_mem _ hr)
    have shift : ∀ i, ((row :: rows).flatten.drop (n * (i + 1))) = rows.flatten.drop (n * i) := fun i => by
      have e : n * (i + 1) = row.length + n * i := by rw [first, Nat.mul_succ, Nat.add_comm]
      rw [e, List.flatten_cons, List.drop_length_add_append]
    rw [List.length_cons, List.range_succ_eq_map, List.map_cons, List.map_map]
    congr 1
    · simp [← first]
    · exact (List.map_congr_left fun i _ => congrArg (List.take n) (shift i)).trans rest

theorem length_flatten_of_size (n : Nat) {rows : List Bytes} (size : ∀ row ∈ rows, row.length = n) :
    rows.flatten.length = n * rows.length := by
  rw [List.length_flatten, List.map_congr_left size, List.map_const', List.sum_replicate, smul_eq_mul, Nat.mul_comm]

/-- The rows a WRITE ROWS carries read back from its parameters. -/
theorem carriedRows_flatten (a b c : Byte) {rows : List Bytes} (count : rows.length = c.toNat)
    (size : ∀ row ∈ rows, row.length = 32) : carriedRows (a :: b :: c :: rows.flatten) = rows := by
  have behind : ∀ i, (a :: b :: c :: rows.flatten).drop (3 + 32 * i) = rows.flatten.drop (32 * i) := fun i => by
    rw [Nat.add_comm]
    rfl
  unfold carriedRows
  calc (List.range c.toNat).map (fun i => ((a :: b :: c :: rows.flatten).drop (3 + 32 * i)).take 32)
      = (List.range rows.length).map fun i => (rows.flatten.drop (32 * i)).take 32 := by simp only [behind, count]
    _ = rows := map_take_drop_flatten 32 rows size

theorem field_two (h l : Byte) (before after : Bytes) :
    field (before ++ h :: l :: after) before.length 2 = 256 * h.toNat + l.toNat := by
  simp [field, natOf]
  omega

theorem field_three (h m l : Byte) (before after : Bytes) :
    field (before ++ h :: m :: l :: after) before.length 3 = 65536 * h.toNat + 256 * m.toNat + l.toNat := by
  simp [field, natOf]
  omega

theorem word16_pair (h l : Byte) (before after : Bytes) :
    word16 (before ++ h :: l :: after) before.length = BitVec.ofNat 16 (256 * h.toNat + l.toNat) :=
  congrArg _ (field_two h l before after)

end Sys2Proof.Machine
end

section
/-!
SUPPORT. MANAGE frames: what each does at the Responder, and the 28 requests they spell.
-/

namespace Sys2Proof.Machine

section
variable {a : Arrival} {code tag : Byte} {ps : Bytes} {s : State} (h : s.steady)
include h

theorem manageFrame_of_ignored (k : a.source ≠ 0 ∨ a.payload.length < 2) :
    exec (.manageFrame a) s = .next (s.took (.manageFrame a)) := taken_eq h (takeManage_ignored k) h.2

theorem manageFrame_of_broadcast (centre : a.source = 0) (e : a.payload = code :: tag :: ps) (all : a.dest = 1023) :
    (code = 0x22 → ps.length = 5 → exec (.manageFrame a) s = .next ((s.took (.manageFrame a)).hand
      (.setTime tag true (BitVec.ofNat 16 (field ps 0 2)) (BitVec.ofNat 24 (field ps 2 3))))) ∧
    (code ≠ 0x22 ∨ ps.length ≠ 5 → exec (.manageFrame a) s = .next (s.took (.manageFrame a))) := by
  refine ⟨fun k l => taken_eq h ((takeManage_broadcast centre e all).trans (if_pos ⟨k, l⟩)) (hand_of_steady h _ _),
    fun k => taken_eq h ((takeManage_broadcast centre e all).trans (if_neg ?_)) h.2⟩
  exact not_and_or.mpr k

theorem manageFrame_of_own (centre : a.source = 0) (e : a.payload = code :: tag :: ps) (own : a.dest ≠ 1023) :
    (code.toNat ∉ requestCodes →
      exec (.manageFrame a) s = .next ((s.took (.manageFrame a)).reply code tag unknownRequestResult [])) ∧
    (∀ n ∈ requestLength code ps,
      (ps.length ≠ n → exec (.manageFrame a) s = .next ((s.took (.manageFrame a)).reply code tag badLength [])) ∧
      (ps.length = n → completes (.manageFrame a) s fun t =>
        ∃ i ∈ requestOf code tag ps, t = (s.took (.manageFrame a)).hand i)) := by
  have accepts := takeManage_own (s := s.took (.manageFrame a)) centre e own
  refine ⟨fun k => taken_eq h (accepts.trans (acceptRequest_of_unknown k tag ps _)) (reply_of_steady h _ _ _ _),
    fun n k => ⟨fun l => taken_eq h (accepts.trans (acceptRequest_of_badLength k l tag _)) (reply_of_steady h _ _ _ _),
      fun l => ?_⟩⟩
  have known : requestLength code ps = some ps.length := l ▸ k
  obtain ⟨i, request⟩ := Option.isSome_iff_exists.mp
    ((requestOf_isSome code tag ps ps).trans (by rw [known]; rfl))
  exact ⟨_, taken_eq h (accepts.trans (acceptRequest_of_length known request _)) (hand_of_steady h _ _), i, request,
    rfl⟩

theorem unknownRequest_of_unknown (k : code.toNat ∉ requestCodes) :
    exec (.unknownRequest code tag) s =
      .next ((s.took (.unknownRequest code tag)).reply code tag unknownRequestResult []) := by
  refine taken_eq h ?_ (reply_of_steady h _ _ _ _)
  simp [refuseUnknown, (requestLength_eq_none []).mpr k]

theorem unknownRequest_of_known (k : code.toNat ∈ requestCodes) :
    exec (.unknownRequest code tag) s = .next (s.took (.unknownRequest code tag)) := by
  refine taken_eq h ?_ h.2
  have known : requestLength code [] ≠ none := fun e => (requestLength_eq_none []).mp e k
  simp [refuseUnknown, known]

end

/-- A request that the Responder hands on is put behind those that wait while its owner has not started. -/
theorem waits_of_deferred {c : Instr} {effect : State → State} {s : State} (h : s.steady)
    (e : effect (s.took c) = (s.took c).deferred c) :
    taken c effect s = .next ((s.took c).withWaiting (s.waiting ++ [c])) := taken_eq h e h.2

/-- The first half of O25's clauses on codes: each code with the parameters of its length. -/
theorem codes_spell (x : Arrival) (tag a b c d e : Byte) (list : Bytes) (rows : List Bytes) (s : State) (h : s.steady)
    (centre : x.source = 0) (own : x.dest ≠ 1023) :
    let spells := fun (code : Byte) (ps : Bytes) (i : Instr) =>
      let m := Instr.manageFrame { x with payload := code :: tag :: ps }
      exec m s = .next ((s.took m).hand i)
    let word := fun (h l : Byte) => BitVec.ofNat 16 (256 * h.toNat + l.toNat)
    spells 0x01 [a, b] (.openRegion tag a b) ∧
    (rows.length = c.toNat → (∀ row ∈ rows, row.length = 32) →
      spells 0x02 (a :: b :: c :: rows.flatten) (.writeRows tag a b c rows)) ∧
    spells 0x03 [a, b, c] (.readRows tag a b c) ∧ spells 0x04 [a] (.blankCheck tag a) ∧
    spells 0x05 [a, b, c] (.activateRegion tag a (word b c)) ∧ spells 0x06 [a] (.clearRegion tag a) ∧
    spells 0x07 [] (.clearAll tag) ∧ spells 0x08 [a, b, c] (.siteWrite tag a (word b c)) ∧
    spells 0x09 [] (.siteRead tag) ∧ spells 0x10 [a, b] (.holdGrade tag a b) ∧
    spells 0x18 [a] (.confirmPath tag a) ∧ spells 0x19 [a] (.declinePath tag a) ∧
    spells 0x1A [a] (.clearPath tag a) ∧ spells 0x20 [a, b] (.closeSegment tag a b) ∧
    spells 0x21 [a] (.releaseSegment tag a) ∧
    spells 0x22 [a, b, c, d, e]
      (.setTime tag false (word a b) (BitVec.ofNat 24 (65536 * c.toNat + 256 * d.toNat + e.toNat))) ∧
    spells 0x28 [a] (.gateStop tag a) ∧ spells 0x29 [a] (.gateResume tag a) ∧
    spells 0x30 [a, b] (.setBudget tag (word a b)) ∧ spells 0x38 [a, b, c, d] (.forceFace tag a b (word c d)) ∧
    (list.length = a.toNat → spells 0x39 (a :: list) (.signSweep tag list)) ∧
    spells 0x40 [] (.sectionStatus tag) ∧ spells 0x41 [a] (.channelQuery tag a) ∧
    spells 0x42 [a, b] (.segmentQuery tag a b) ∧ spells 0x43 [a] (.pathQuery tag a) ∧
    spells 0x44 [a] (.gateQuery tag a) ∧ spells 0x45 [a] (.signQuery tag a) ∧ spells 0x4F [] (.restart tag) ∧
    (∀ n ∈ [(0x01, 2), (0x03, 3), (0x04, 1), (0x05, 3), (0x06, 1), (0x07, 0), (0x08, 3), (0x09, 0), (0x10, 2),
        (0x18, 1), (0x19, 1), (0x1A, 1), (0x20, 2), (0x21, 1), (0x22, 5), (0x28, 1), (0x29, 1), (0x30, 2), (0x38, 4),
        (0x40, 0), (0x41, 1), (0x42, 2), (0x43, 1), (0x44, 1), (0x45, 1), (0x4F, 0)],
      requestLength n.1 list = some n.2) ∧
    requestLength 0x02 list = some (3 + 32 * (list.getD 2 0).toNat) ∧
    requestLength 0x39 list = some (1 + (list.getD 0 0).toNat) := by
  intro spells word
  have spelt : ∀ {code : Byte} {ps : Bytes} {i : Instr}, requestLength code ps = some ps.length →
      requestOf code tag ps = some i → spells code ps i := manageFrame_spells h centre own
  refine ⟨spelt rfl rfl, ?writeRows, spelt rfl rfl, spelt rfl rfl, spelt rfl ?activate, spelt rfl rfl, spelt rfl rfl,
    spelt rfl ?siteWrite, spelt rfl rfl, spelt rfl rfl, spelt rfl rfl, spelt rfl rfl, spelt rfl rfl, spelt rfl rfl,
    spelt rfl rfl, spelt rfl ?setTime, spelt rfl rfl, spelt rfl rfl, spelt rfl ?setBudget, spelt rfl ?forceFace,
    ?signSweep, spelt rfl rfl, spelt rfl rfl, spelt rfl rfl, spelt rfl rfl, spelt rfl rfl, spelt rfl rfl, spelt rfl rfl,
    ?lengths, rfl, rfl⟩
  case writeRows =>
    intro count size
    refine spelt ?_ ?_
    · have total : (a :: b :: c :: rows.flatten).length = 3 + 32 * c.toNat := by
        simp only [List.length_cons, length_flatten_of_size 32 size, count]
        omega
      exact congrArg some total.symm
    · exact congrArg (fun r => some (Instr.writeRows tag a b c r)) (carriedRows_flatten a b c count size)
  case activate => exact congrArg (fun w => some (Instr.activateRegion tag a w)) (word16_pair b c [a] [])
  case siteWrite => exact congrArg (fun w => some (Instr.siteWrite tag a w)) (word16_pair b c [a] [])
  case setTime =>
    exact congrArg₂ (fun w n => some (Instr.setTime tag false w (BitVec.ofNat 24 n))) (word16_pair a b [] [c, d, e])
      (field_three c d e [a, b] [])
  case setBudget => exact congrArg (fun w => some (Instr.setBudget tag w)) (word16_pair a b [] [])
  case forceFace => exact congrArg (fun w => some (Instr.forceFace tag a b w)) (word16_pair c d [a, b] [])
  case signSweep =>
    intro count
    refine spelt (congrArg some ?_) rfl
    rw [List.length_cons, count, Nat.add_comm]
    rfl
  case lengths => simp [requestLength]

/-- A request waits at an owner that has not started. -/
theorem requests_wait (tag x y : Byte) (w : BitVec 16) (second : BitVec 24) (heard : Bool) (l : List Byte) (s : State)
    (h : s.steady) :
    let waits := fun (c : Instr) => exec c s = .next ((s.took c).withWaiting (s.waiting ++ [c]))
    (s.grader.started = false → waits (.holdGrade tag x y)) ∧
    (s.monitor.started = false → waits (.confirmPath tag x) ∧ waits (.declinePath tag x) ∧ waits (.clearPath tag x)) ∧
    (s.sequencer.started = false → waits (.closeSegment tag x y) ∧ waits (.releaseSegment tag x) ∧
      waits (.setTime tag heard w second)) ∧
    (s.drives.started = false → waits (.gateStop tag x) ∧ waits (.gateResume tag x)) ∧
    (s.allocator.started = false → waits (.setBudget tag w)) ∧
    (s.publisher.started = false → waits (.forceFace tag x y w) ∧ waits (.signSweep tag l)) :=
  ⟨fun k => waits_of_deferred h (if_pos k),
    fun k => ⟨waits_of_deferred h (if_pos k), waits_of_deferred h (if_pos k), waits_of_deferred h (if_pos k)⟩,
    fun k => ⟨waits_of_deferred h (if_pos k), waits_of_deferred h (if_pos k), waits_of_deferred h (if_pos k)⟩,
    fun k => ⟨waits_of_deferred h (if_pos k), waits_of_deferred h (if_pos k)⟩,
    fun k => waits_of_deferred h (if_pos k),
    fun k => ⟨waits_of_deferred h (if_pos k), waits_of_deferred h (if_pos k)⟩⟩

end Sys2Proof.Machine
end

section
/-!
SUPPORT. No block reads the requests that wait: with other requests waiting every reading is the same, and every
operation makes the same of the state beside them. The readings, the updates, the Closure Sequencer and the Line Switch.
-/

namespace Sys2Proof.Machine

@[simp] theorem ite_withWaiting (c : Prop) [Decidable c] (s t : State) (l : List Instr) :
    (if c then s.withWaiting l else t.withWaiting l) = (if c then s else t).withWaiting l :=
  (apply_ite (fun u : State => u.withWaiting l) ..).symm

theorem withWaiting_self (s : State) : s.withWaiting s.waiting = s := rfl

section
variable (s : State) (l : List Instr)

/-! ### Readings -/

@[simp] theorem withWaiting_now :
    (s.withWaiting l).now = s.now := rfl
@[simp] theorem withWaiting_ownAddress :
    (s.withWaiting l).ownAddress = s.ownAddress := rfl
@[simp] theorem withWaiting_active (r : Region) :
    (s.withWaiting l).active r = s.active r := rfl
@[simp] theorem withWaiting_serves (r : Region) (c : Instr) :
    (s.withWaiting l).serves r c = s.serves r c := rfl
@[simp] theorem withWaiting_serviceRows (r : Region) :
    (s.withWaiting l).serviceRows r = s.serviceRows r := rfl
@[simp] theorem withWaiting_reportPayload (r : ReportRequest) :
    (s.withWaiting l).reportPayload r = s.reportPayload r := rfl
@[simp] theorem withWaiting_compose (k : LocalKind) (dest : Addr) (payload : Bytes) :
    (s.withWaiting l).compose k dest payload = s.compose k dest payload := rfl
@[simp] theorem withWaiting_selects (p : Port) :
    (s.withWaiting l).selects p = s.selects p := rfl
@[simp] theorem withWaiting_segment (g : Nat) :
    (s.withWaiting l).segment g = s.segment g := rfl
@[simp] theorem withWaiting_segmentRow (g : Nat) :
    (s.withWaiting l).segmentRow g = s.segmentRow g := rfl
@[simp] theorem withWaiting_scheduleRow (e : Nat) :
    (s.withWaiting l).scheduleRow e = s.scheduleRow e := rfl
@[simp] theorem withWaiting_readGrade (g : Nat) :
    (s.withWaiting l).readGrade g = s.readGrade g := rfl
@[simp] theorem withWaiting_parameterOf (row : SegmentRow) (r : SegmentRec) :
    (s.withWaiting l).parameterOf row r = s.parameterOf row r := rfl
@[simp] theorem withWaiting_configuredGates (g : Nat) :
    (s.withWaiting l).configuredGates g = s.configuredGates g := rfl
@[simp] theorem withWaiting_allGates (g : Nat) (st : GateState) :
    (s.withWaiting l).allGates g st = s.allGates g st := rfl
@[simp] theorem withWaiting_gateFaultOf (g : Nat) :
    (s.withWaiting l).gateFaultOf g = s.gateFaultOf g := rfl
@[simp] theorem withWaiting_someGateDown (g : Nat) :
    (s.withWaiting l).someGateDown g = s.someGateDown g := rfl
@[simp] theorem withWaiting_claimingPaths (g : Nat) :
    (s.withWaiting l).claimingPaths g = s.claimingPaths g := rfl
@[simp] theorem withWaiting_orderedGates (g : Nat) (a b : ClosureState) :
    (s.withWaiting l).orderedGates g a b = s.orderedGates g a b := rfl
@[simp] theorem withWaiting_approachSigns (g : Nat) :
    (s.withWaiting l).approachSigns g = s.approachSigns g := rfl
@[simp] theorem withWaiting_signConfirmed :
    (s.withWaiting l).signConfirmed = s.signConfirmed := rfl

@[simp] theorem withWaiting_segmentData (g : Nat) (before : ClosureState) (r : SegmentRec) (c : SegmentCause) :
    segmentData (s.withWaiting l) g before r c = segmentData s g before r c := rfl

/-! ### Updates -/

@[simp] theorem withWaiting_withWaiting (m : List Instr) :
    (s.withWaiting l).withWaiting m = s.withWaiting m := rfl
@[simp] theorem withWaiting_withReports (x : List ReportRequest) :
    (s.withWaiting l).withReports x = (s.withReports x).withWaiting l := rfl
@[simp] theorem withWaiting_withHanded (x : List Instr) :
    (s.withWaiting l).withHanded x = (s.withHanded x).withWaiting l := rfl
@[simp] theorem withWaiting_withLine (x : LineSwitch) :
    (s.withWaiting l).withLine x = (s.withLine x).withWaiting l := rfl
@[simp] theorem withWaiting_withPort (p : Port) (q : PortState) :
    (s.withWaiting l).withPort p q = (s.withPort p q).withWaiting l := rfl
@[simp] theorem withWaiting_hand (c : Instr) :
    (s.withWaiting l).hand c = (s.hand c).withWaiting l := rfl
@[simp] theorem withWaiting_handAll (cs : List Instr) :
    (s.withWaiting l).handAll cs = (s.handAll cs).withWaiting l := rfl
@[simp] theorem withWaiting_report (k : Byte) (data : Bytes) :
    (s.withWaiting l).report k data = (s.report k data).withWaiting l := rfl
@[simp] theorem withWaiting_withSequencer (x : Sequencer) :
    (s.withWaiting l).withSequencer x = (s.withSequencer x).withWaiting l := rfl
@[simp] theorem withWaiting_withSegment (g : Nat) (r : SegmentRec) :
    (s.withWaiting l).withSegment g r = (s.withSegment g r).withWaiting l := rfl

theorem withWaiting_forEach {f : Nat → State → State} (h : ∀ g s, f g (s.withWaiting l) = (f g s).withWaiting l)
    (gs : List Nat) : forEach gs f (s.withWaiting l) = (forEach gs f s).withWaiting l := by
  induction gs generalizing s with
  | nil => rfl
  | cons g gs ih =>
    calc forEach gs f (f g (s.withWaiting l)) = forEach gs f ((f g s).withWaiting l) := by rw [h]
      _ = (forEach gs f (f g s)).withWaiting l := ih (f g s)

/-! ### The Closure Sequencer -/

@[simp] theorem withWaiting_enterState (g : Nat) (r : SegmentRec) (st : ClosureState) :
    enterState g r st (s.withWaiting l) = (enterState g r st s).withWaiting l := by
  simp [enterState]

@[simp] theorem withWaiting_refreshParameter (g : Nat) :
    refreshParameter g (s.withWaiting l) = (refreshParameter g s).withWaiting l := by
  rcases h : s.segment g with _ | r <;> rcases k : s.segmentRow g with _ | row
  case some.some =>
    by_cases c : r.state = .notice ∧ s.parameterOf row r ≠ r.parameter <;> simp [refreshParameter, h, k, c]
  all_goals simp [refreshParameter, h, k]

@[simp] theorem withWaiting_raisedTest (g : Nat) :
    raisedTest g (s.withWaiting l) = (raisedTest g s).withWaiting l := by
  rcases h : s.segment g with _ | r <;> simp [raisedTest, h]

@[simp] theorem withWaiting_enterReopening (g : Nat) (r : SegmentRec) :
    enterReopening g r (s.withWaiting l) = (enterReopening g r s).withWaiting l := by
  simp [enterReopening]

@[simp] theorem withWaiting_reopenTest (g : Nat) :
    reopenTest g (s.withWaiting l) = (reopenTest g s).withWaiting l := by
  rcases h : s.segment g with _ | r <;> rcases k : s.segmentRow g with _ | row <;> simp [reopenTest, h, k]

@[simp] theorem withWaiting_loweredTest (g : Nat) :
    loweredTest g (s.withWaiting l) = (loweredTest g s).withWaiting l := by
  rcases h : s.segment g with _ | r <;> simp [loweredTest, h]

@[simp] theorem withWaiting_enterClosing (g : Nat) (r : SegmentRec) :
    enterClosing g r (s.withWaiting l) = (enterClosing g r s).withWaiting l := by
  simp [enterClosing]

@[simp] theorem withWaiting_enterNotice (g : Nat) (row : SegmentRow) (urgent : Bool) (r : SegmentRec) :
    enterNotice g row urgent r (s.withWaiting l) = (enterNotice g row urgent r s).withWaiting l := by
  simp [enterNotice]

@[simp] theorem withWaiting_claimArrives (g : Nat) (urgent : Bool) :
    claimArrives g urgent (s.withWaiting l) = (claimArrives g urgent s).withWaiting l := by
  rcases h : s.segment g with _ | r
  · simp [claimArrives, h]
  · rcases k : s.segmentRow g with _ | row
    · simp [claimArrives, h, k]
    · cases e : r.state <;> simp [claimArrives, h, k, e]

@[simp] theorem withWaiting_placeClaim (source : Nat) (urgent : Bool) (g : Nat) :
    placeClaim source urgent g (s.withWaiting l) = (placeClaim source urgent g s).withWaiting l := by
  rcases h : s.segment g with _ | r
  · simp [placeClaim, h]
  · rcases k : mapGet r.claims source with _ | c <;> simp [placeClaim, h, k]

@[simp] theorem withWaiting_claimDeparts (g : Nat) :
    claimDeparts g (s.withWaiting l) = (claimDeparts g s).withWaiting l := by
  rcases h : s.segment g with _ | r
  · simp [claimDeparts, h]
  · cases e : r.state <;> simp [claimDeparts, h, e]

@[simp] theorem withWaiting_removeClaims (sources : List Nat) (g : Nat) :
    removeClaims sources g (s.withWaiting l) = (removeClaims sources g s).withWaiting l := by
  rcases h : s.segment g with _ | r <;> simp [removeClaims, h]

@[simp] theorem withWaiting_leadDecision (g : Nat) :
    leadDecision g (s.withWaiting l) = (leadDecision g s).withWaiting l := by
  rcases h : s.segment g with _ | r <;> rcases k : s.segmentRow g with _ | row
  case some.some =>
    by_cases c : r.state = .notice ∧ r.lead.isSome
    · by_cases d : (r.urgent || (s.approachSigns g).isEmpty || (s.approachSigns g).any s.signConfirmed) = true <;>
        simp only [leadDecision, withWaiting_segment, withWaiting_segmentRow, h, k, c, d, and_self, reduceIte,
          Bool.false_eq_true, withWaiting_approachSigns, withWaiting_signConfirmed, withWaiting_enterClosing, withWaiting_withSegment,
          withWaiting_now]
    · simp [leadDecision, h, k, c]
  all_goals simp [leadDecision, h, k]

@[simp] theorem withWaiting_graceDecision (g : Nat) :
    graceDecision g (s.withWaiting l) = (graceDecision g s).withWaiting l := by
  rcases h : s.segment g with _ | r <;> simp [graceDecision, h]

theorem withWaiting_segmentOutcome (cause : SegmentCause) (before : State) (g : Nat) :
    segmentOutcome cause (before.withWaiting l) g (s.withWaiting l) =
      (segmentOutcome cause before g s).withWaiting l := by
  rcases h : before.segment g with _ | r <;> rcases k : s.segment g with _ | row <;> simp [segmentOutcome, h, k]

theorem withWaiting_segmentEvent (cause : SegmentCause) {f : State → State}
    (h : f (s.withWaiting l) = (f s).withWaiting l) :
    segmentEvent cause f (s.withWaiting l) = (segmentEvent cause f s).withWaiting l := by
  unfold segmentEvent
  rw [h]
  exact withWaiting_forEach _ l (fun g t => withWaiting_segmentOutcome t l cause s g) _

@[simp] theorem withWaiting_graceStep (g : Nat) :
    graceStep g (s.withWaiting l) = (graceStep g s).withWaiting l :=
  withWaiting_segmentEvent s l _ (withWaiting_graceDecision s l g)

@[simp] theorem withWaiting_leadStep (g : Nat) :
    leadStep g (s.withWaiting l) = (leadStep g s).withWaiting l := by
  have event := withWaiting_segmentEvent s l .leadExpiry (withWaiting_leadDecision s l g)
  simp [leadStep, event]

@[simp] theorem withWaiting_zeroLeads (before : State) :
    zeroLeads (before.withWaiting l) (s.withWaiting l) = (zeroLeads before s).withWaiting l :=
  withWaiting_forEach _ l (fun g t => (congrArg₂ (ite _) (withWaiting_leadStep t l g) rfl).trans (ite_withWaiting ..)) _

@[simp] theorem withWaiting_evaluatePair (e g : Nat) :
    evaluatePair e g (s.withWaiting l) = (evaluatePair e g s).withWaiting l := by
  rcases h : s.scheduleRow e with _ | row <;> rcases k : s.segmentRow g with _ | seg <;>
    rcases j : s.segment g with _ | r <;> simp [evaluatePair, h, k, j]

@[simp] theorem withWaiting_evaluateSchedule :
    evaluateSchedule (s.withWaiting l) = (evaluateSchedule s).withWaiting l :=
  have pairs := fun (e : Nat) (t : State) => withWaiting_forEach t l (fun g u => withWaiting_evaluatePair u l e g)
  withWaiting_forEach _ l (fun e t => pairs e t _) _

@[simp] theorem withWaiting_orderGates (g : Nat) (o : GateOrder) :
    orderGates g o (s.withWaiting l) = (orderGates g o s).withWaiting l := rfl

@[simp] theorem withWaiting_deriveOpen (g : Nat) (r : SegmentRec) :
    deriveOpen g r (s.withWaiting l) = (deriveOpen g r s).withWaiting l := by
  simp [deriveOpen]

@[simp] theorem withWaiting_deriveStart (g : Nat) :
    deriveStart g (s.withWaiting l) = (deriveStart g s).withWaiting l := by
  rcases h : s.segment g with _ | r <;> simp [deriveStart, h]

@[simp] theorem withWaiting_deriveClaims (g : Nat) :
    deriveClaims g (s.withWaiting l) = (deriveClaims g s).withWaiting l := by
  have path := fun t : State => withWaiting_forEach t l (f := fun p => placeClaim (sourcePath0 + p) true g)
    (fun p u => withWaiting_placeClaim u l _ true g)
  rcases h : s.segment g with _ | r <;> rcases k : s.segmentRow g with _ | row <;> simp [deriveClaims, h, k, path]

@[simp] theorem withWaiting_deriveOutcome (g : Nat) :
    deriveOutcome g (s.withWaiting l) = (deriveOutcome g s).withWaiting l := by
  rcases h : s.segment g with _ | r <;> simp [deriveOutcome, h]

@[simp] theorem withWaiting_makeSegments :
    makeSegments (s.withWaiting l) = (makeSegments s).withWaiting l := rfl

@[simp] theorem withWaiting_buildSegments :
    buildSegments (s.withWaiting l) = (buildSegments s).withWaiting l := by
  have starts := fun t : State => withWaiting_forEach t l (fun g u => withWaiting_deriveStart u l g)
  have claims := fun t : State => withWaiting_forEach t l (fun g u => withWaiting_deriveClaims u l g)
  have outcomes := fun t : State => withWaiting_forEach t l (fun g u => withWaiting_deriveOutcome u l g)
  simp [buildSegments, starts, claims, outcomes]

@[simp] theorem withWaiting_segmentsEnter :
    segmentsEnter (s.withWaiting l) = (segmentsEnter s).withWaiting l := by
  simp [segmentsEnter]

end

end Sys2Proof.Machine
end

section
/-!
SUPPORT. What an attempt of a sign's cycle leaves, by the answer to its offer (R158).
-/

namespace Sys2Proof.Machine

/-- A record after an attempt answered FULL. -/
def heldSign (r : SignRec) : SignRec := { r with phase := .held, reply := none }

/-- The hold list that an attempt answered FULL leaves. -/
def holdAgain (front : Bool) (g : Nat) (l : List Nat) : List Nat :=
  if front then g :: l.filter (fun h => h != g) else l.filter (fun h => h != g) ++ [g]

/-- The offer that an attempt makes. -/
def setOffer (s : State) (row : SignRow) (r : SignRec) : State × OfferAnswer :=
  offer row.port (s.faceSet row (r.token + 1) r.desired) s

theorem attempt_of_absent {s : State} {g : Nat} (h : s.sign g = none) (front : Bool) :
    attempt g front s = (s, .accepted) := by
  unfold attempt
  rw [h]

section
variable {s : State} {g : Nat} {r : SignRec} {row : SignRow} (h : s.sign g = some r) (k : s.signRow g = some row)
  (front : Bool)

include h

theorem attempt_of_rowless (k : s.signRow g = none) : attempt g front s = (s, .accepted) := by
  unfold attempt
  rw [h, k]

include k

theorem attempt_of_accepted (e : (setOffer s row r).2 = .accepted) :
    attempt g front s = ((setOffer s row r).1.withSign g (acceptedSign s.now r), .accepted) := by
  unfold attempt
  rw [h, k]
  change (match setOffer s row r with | (t, .accepted) => _ | (t, .full) => _) = _
  rcases o : setOffer s row r with ⟨t, _ | _⟩
  · rfl
  · rw [o] at e
    cases e

theorem attempt_of_full (e : (setOffer s row r).2 = .full) :
    attempt g front s = (((setOffer s row r).1.withSign g (heldSign r)).withHold row.port
      (holdAgain front g ((setOffer s row r).1.publisher.hold row.port)), .full) := by
  unfold attempt
  rw [h, k]
  change (match setOffer s row r with | (t, .accepted) => _ | (t, .full) => _) = _
  rcases o : setOffer s row r with ⟨t, _ | _⟩
  · rw [o] at e
    cases e
  · rfl

end
end Sys2Proof.Machine
end

section
/-!
SUPPORT. No block reads the requests that wait: the Line Switch, and the blocks with the starts of the requests' owners.
-/

namespace Sys2Proof.Machine

section
variable (s : State) (l : List Instr)

/-! ### Readings and updates -/

@[simp] theorem withWaiting_gateState (k : Nat) :
    (s.withWaiting l).gateState k = s.gateState k := rfl
@[simp] theorem withWaiting_gateRow (k : Nat) :
    (s.withWaiting l).gateRow k = s.gateRow k := rfl
@[simp] theorem withWaiting_builtGate (k : Nat) (row : GateRow) (n : Nat) :
    (s.withWaiting l).builtGate k row n = s.builtGate k row n := rfl
@[simp] theorem withWaiting_evaluatedFlags (f : Map Bool) :
    (s.withWaiting l).evaluatedFlags f = s.evaluatedFlags f := rfl
@[simp] theorem withWaiting_builtGrade (g : Nat) :
    (s.withWaiting l).builtGrade g = s.builtGrade g := rfl
@[simp] theorem withWaiting_gradeCloses (g : Nat) :
    (s.withWaiting l).gradeCloses g = s.gradeCloses g := rfl
@[simp] theorem withWaiting_pathRow (p : Nat) :
    (s.withWaiting l).pathRow p = s.pathRow p := rfl
@[simp] theorem withWaiting_pathBroken (p : Nat) :
    (s.withWaiting l).pathBroken p = s.pathBroken p := rfl
@[simp] theorem withWaiting_assignedInputs :
    (s.withWaiting l).assignedInputs = s.assignedInputs := rfl
@[simp] theorem withWaiting_lineState :
    (s.withWaiting l).lineState = s.lineState := rfl
@[simp] theorem withWaiting_freshRequested :
    (s.withWaiting l).freshRequested = s.freshRequested := rfl
@[simp] theorem withWaiting_freshFigures :
    (s.withWaiting l).freshFigures = s.freshFigures := rfl
@[simp] theorem withWaiting_presentSigns :
    (s.withWaiting l).presentSigns = s.presentSigns := rfl
@[simp] theorem withWaiting_sign (g : Nat) :
    (s.withWaiting l).sign g = s.sign g := rfl
@[simp] theorem withWaiting_signRow (g : Nat) :
    (s.withWaiting l).signRow g = s.signRow g := rfl
@[simp] theorem withWaiting_winner (row : SignRow) (r : SignRec) :
    (s.withWaiting l).winner row r = s.winner row r := rfl
@[simp] theorem withWaiting_grantedLevel (g : Nat) :
    (s.withWaiting l).grantedLevel g = s.grantedLevel g := rfl
@[simp] theorem withWaiting_readSegment (g : Nat) :
    (s.withWaiting l).readSegment g = s.readSegment g := rfl
@[simp] theorem withWaiting_readPaths :
    (s.withWaiting l).readPaths = s.readPaths := rfl

@[simp] theorem withWaiting_pathData (p : Nat) (before : PathState) (r : PathRec) (c : PathCause) :
    pathData (s.withWaiting l) p before r c = pathData s p before r c := rfl

@[simp] theorem withWaiting_startNotices : startNotices (s.withWaiting l) = startNotices s := rfl

@[simp] theorem withWaiting_withGrader (x : Grader) :
    (s.withWaiting l).withGrader x = (s.withGrader x).withWaiting l := rfl
@[simp] theorem withWaiting_withMonitor (x : Monitor) :
    (s.withWaiting l).withMonitor x = (s.withMonitor x).withWaiting l := rfl
@[simp] theorem withWaiting_withDrives (x : GateDrives) :
    (s.withWaiting l).withDrives x = (s.withDrives x).withWaiting l := rfl
@[simp] theorem withWaiting_withAllocator (x : Allocator) :
    (s.withWaiting l).withAllocator x = (s.withAllocator x).withWaiting l := rfl
@[simp] theorem withWaiting_withPublisher (x : Publisher) :
    (s.withWaiting l).withPublisher x = (s.withPublisher x).withWaiting l := rfl
@[simp] theorem withWaiting_withResponder (x : Responder) :
    (s.withWaiting l).withResponder x = (s.withResponder x).withWaiting l := rfl
@[simp] theorem withWaiting_withDrawn (n : Nat) :
    (s.withWaiting l).withDrawn n = (s.withDrawn n).withWaiting l := rfl
@[simp] theorem withWaiting_withRequested (n : Nat) :
    (s.withWaiting l).withRequested n = (s.withRequested n).withWaiting l := rfl
@[simp] theorem withWaiting_withSign (g : Nat) (r : SignRec) :
    (s.withWaiting l).withSign g r = (s.withSign g r).withWaiting l := rfl
@[simp] theorem withWaiting_withHold (p : Port) (x : List Nat) :
    (s.withWaiting l).withHold p x = (s.withHold p x).withWaiting l := rfl
@[simp] theorem withWaiting_handFirst (c : Instr) :
    (s.withWaiting l).handFirst c = (s.handFirst c).withWaiting l := rfl

/-! ### The Line Switch -/

@[simp] theorem withWaiting_give (gs : List Given) : (s.withWaiting l).give gs = (s.give gs).withWaiting l := by
  simp [State.give]

@[simp] theorem withWaiting_releaseRestart :
    releaseRestart (s.withWaiting l) = (releaseRestart s).withWaiting l := rfl

@[simp] theorem withWaiting_select (p : Port) :
    select p (s.withWaiting l) = (select p s).withWaiting l := by
  rcases e : chooseFrame (s.line.port p) with _ | ⟨_ | _, q⟩ <;> simp [select, e]

/-- An offer and its answer. -/
theorem withWaiting_offer (p : Port) (f : LocalFrame) :
    offer p f (s.withWaiting l) = ((offer p f s).1.withWaiting l, (offer p f s).2) := by
  by_cases down : (s.line.port p).up = false
  · simp [offer, down]
  · by_cases room : (s.line.port p).localQ.length < Config.localPlaces <;> simp [offer, down, room]

@[simp] theorem withWaiting_sendReport (r : ReportRequest) :
    sendReport (s.withWaiting l) r = (sendReport s r).withWaiting l := by
  simp [sendReport, withWaiting_offer]

theorem withWaiting_sendReports (rs : List ReportRequest) :
    rs.foldl sendReport (s.withWaiting l) = (rs.foldl sendReport s).withWaiting l := by
  induction rs generalizing s with
  | nil => rfl
  | cons r rs ih =>
    rw [List.foldl_cons, withWaiting_sendReport]
    exact ih (sendReport s r)

@[simp] theorem withWaiting_flushReports :
    flushReports (s.withWaiting l) = (flushReports s).withWaiting l :=
  withWaiting_sendReports (s.withReports []) l s.reports

/-! ### The Grade Evaluator -/

@[simp] theorem withWaiting_makeFlags :
    makeFlags (s.withWaiting l) = (makeFlags s).withWaiting l := rfl

@[simp] theorem withWaiting_buildGrades :
    buildGrades (s.withWaiting l) = (buildGrades s).withWaiting l := rfl

@[simp] theorem withWaiting_buildGrader :
    buildGrader (s.withWaiting l) = (buildGrader s).withWaiting l := by
  by_cases rules : (s.withGrader
      { started := true, rulesIn := false, segmentsIn := false, ruleRows := [], segmentRows := [], flags := []
        segments := [] }).active .gradeRules <;>
    simp [buildGrader, rules]

/-! ### The Path Monitor -/

@[simp] theorem withWaiting_storePath (p : Nat) (mask : Byte) (c : PathCause) (old new : PathRec) :
    storePath p mask c old new (s.withWaiting l) = (storePath p mask c old new s).withWaiting l := by
  simp [storePath]

@[simp] theorem withWaiting_changePath (p : Nat) (c : PathCause) (f : PathRow → PathRec → PathRec) :
    changePath p c f (s.withWaiting l) = (changePath p c f s).withWaiting l := by
  rcases h : mapGet s.monitor.paths p with _ | r <;> rcases k : s.pathRow p with _ | row <;> simp [changePath, h, k]

@[simp] theorem withWaiting_releaseAt (c : PathCause) (p : Nat) :
    releaseAt c p (s.withWaiting l) = (releaseAt c p s).withWaiting l := withWaiting_changePath s l p c _

@[simp] theorem withWaiting_buildPaths :
    buildPaths (s.withWaiting l) = (buildPaths s).withWaiting l := rfl

@[simp] theorem withWaiting_usePaths :
    usePaths (s.withWaiting l) = (usePaths s).withWaiting l := by
  have releases := fun t : State => withWaiting_forEach t l (fun p u => withWaiting_releaseAt u l .activation p)
  have broken : ((buildPaths s).withWaiting l).pathBroken = (buildPaths s).pathBroken := rfl
  simp [usePaths, releases, broken]

@[simp] theorem withWaiting_pathsEnter :
    pathsEnter (s.withWaiting l) = (pathsEnter s).withWaiting l := by
  simp [pathsEnter]

@[simp] theorem withWaiting_buildMonitor :
    buildMonitor (s.withWaiting l) = (buildMonitor s).withWaiting l := by
  simp [buildMonitor]

/-! ### The Gate Drive Units -/

@[simp] theorem withWaiting_buildGate (k : Nat) :
    buildGate k (s.withWaiting l) = (buildGate k s).withWaiting l := by
  rcases h : mapGet s.drives.gates k with _ | g <;> rcases j : s.gateRow k with _ | row <;> simp [buildGate, h, j]

@[simp] theorem withWaiting_buildGates :
    buildGates (s.withWaiting l) = (buildGates s).withWaiting l :=
  withWaiting_forEach s l (fun k t => withWaiting_buildGate t l k) _

@[simp] theorem withWaiting_useGates :
    useGates (s.withWaiting l) = (useGates s).withWaiting l := by
  simp [useGates]

@[simp] theorem withWaiting_gatesEnter :
    gatesEnter (s.withWaiting l) = (gatesEnter s).withWaiting l := by
  simp [gatesEnter]

@[simp] theorem withWaiting_buildDrives :
    buildDrives (s.withWaiting l) = (buildDrives s).withWaiting l := by
  simp [buildDrives]

/-! ### The Budget Allocator -/

@[simp] theorem withWaiting_examineQueue :
    examineQueue (s.withWaiting l) = (examineQueue s).withWaiting l := by
  by_cases served : s.serves .gates (.budgetRegionNotice .gates false) = true <;> simp only [examineQueue,
    withWaiting_serves, served, reduceIte, Bool.false_eq_true]
  rfl

@[simp] theorem withWaiting_computeFigures :
    computeFigures (s.withWaiting l) = (computeFigures s).withWaiting l := rfl

@[simp] theorem withWaiting_recompute (c : BudgetCause) :
    recompute c (s.withWaiting l) = (recompute c s).withWaiting l := by
  by_cases grown : s.allocator.figures.remaining < (computeFigures s).allocator.figures.remaining <;>
    simp [recompute, grown]

@[simp] theorem withWaiting_firstFigures :
    firstFigures (s.withWaiting l) = (firstFigures s).withWaiting l := by
  simp [firstFigures]

@[simp] theorem withWaiting_allocatorSigns :
    allocatorSigns (s.withWaiting l) = (allocatorSigns s).withWaiting l := by
  simp [allocatorSigns]

@[simp] theorem withWaiting_allocatorSignsGone :
    allocatorSignsGone (s.withWaiting l) = (allocatorSignsGone s).withWaiting l := by
  simp [allocatorSignsGone]

@[simp] theorem withWaiting_ensureSigns :
    ensureSigns (s.withWaiting l) = (ensureSigns s).withWaiting l := by
  by_cases waits : Instr.budgetRegionNotice .signs false ∈ s.handed <;> simp [ensureSigns, takeEarly, waits]

/-! ### The Sign Publisher -/

/-- An attempt and its answer. -/
theorem withWaiting_attempt (g : Nat) (front : Bool) :
    attempt g front (s.withWaiting l) = ((attempt g front s).1.withWaiting l, (attempt g front s).2) := by
  rcases h : s.sign g with _ | r
  · rw [attempt_of_absent h, attempt_of_absent (s := s.withWaiting l) h]
  · rcases k : s.signRow g with _ | row
    · rw [attempt_of_rowless h _ k, attempt_of_rowless (s := s.withWaiting l) h _ k]
    · have beside : setOffer (s.withWaiting l) row r = ((setOffer s row r).1.withWaiting l, (setOffer s row r).2) :=
        withWaiting_offer ..
      cases answer : (setOffer s row r).2
      · rw [attempt_of_accepted h k _ answer, attempt_of_accepted (s := s.withWaiting l) h k _ (by rw [beside, answer]),
          beside]
        rfl
      · rw [attempt_of_full h k _ answer, attempt_of_full (s := s.withWaiting l) h k _ (by rw [beside, answer]), beside]
        rfl

@[simp] theorem withWaiting_startCycle (g : Nat) :
    startCycle g (s.withWaiting l) = (startCycle g s).withWaiting l := by
  rcases h : s.sign g with _ | r <;> simp [startCycle, h, withWaiting_attempt]

@[simp] theorem withWaiting_publishSign (lit : Nat → Bool) (g : Nat) :
    publishSign lit g (s.withWaiting l) = (publishSign lit g s).withWaiting l := by
  rcases h : s.sign g with _ | r <;> rcases k : s.signRow g with _ | row
  case some.some =>
    by_cases same : ({ r with
        winner := s.winner row r, desired := desiredOf (s.winner row r) r.granted } : SignRec).lit = lit g <;>
      simp [publishSign, h, k, same]
  all_goals simp [publishSign, h, k]

@[simp] theorem withWaiting_buildSigns (lit : Nat → Bool) :
    buildSigns lit (s.withWaiting l) = (buildSigns lit s).withWaiting l := by
  have publishes := fun t : State => withWaiting_forEach t l (fun g u => withWaiting_publishSign u l lit g)
  simp [buildSigns, publishes]

@[simp] theorem withWaiting_readView (entered : Bool) :
    readView entered (s.withWaiting l) = (readView entered s).withWaiting l := rfl

@[simp] theorem withWaiting_rebuildSigns (started : Bool) (lit : Nat → Bool) :
    rebuildSigns started lit (s.withWaiting l) = (rebuildSigns started lit s).withWaiting l := by
  simp [rebuildSigns]

end

end Sys2Proof.Machine
end

section
/-!
SUPPORT. The start of a job takes the requests that have waited for it as if they came after it (R169).
-/

namespace Sys2Proof.Machine

/-- The start `c` of a job of the block `b`: its records built by `build`, and then its own requests taken. -/
structure StartsBy (b : Touched) (c : Instr) (build : State → State) (own : Instr → Option (State → State)) : Prop where
  block : b ≠ .whole
  starts : ∀ s, exec c s = taken c (fun t => takeWaiting own (build t)) s
  builds : ∀ s, Offers b (fun _ => True) s (build s)
  beside : ∀ s l, build (s.withWaiting l) = (build s).withWaiting l
  owns : ∀ x, (own x).isSome = (waitsFor x == some c)
  takes : ∀ x f, own x = some f → ∀ s, exec x s = taken x f s
  acts : ∀ x f, own x = some f → ∀ s, Offers b (fun _ => True) s (f s)

/-- What a job takes of a request that has waited for it. -/
def takeRequest (own : Instr → Option (State → State)) (t : State) (c : Instr) : State :=
  match own c with
  | some f => flushReports (f t)
  | none => t

theorem takeRequest_of_own {own : Instr → Option (State → State)} {c : Instr} {f : State → State} (h : own c = some f)
    (t : State) : takeRequest own t c = flushReports (f t) := by
  unfold takeRequest
  rw [h]

theorem takeWaiting_eq (own : Instr → Option (State → State)) (s : State) :
    takeWaiting own s = (s.waiting.filter fun c => (own c).isSome).foldl (takeRequest own)
      ((flushReports s).withWaiting (s.waiting.filter fun c => (own c).isNone)) := rfl

theorem power_of_leavesOthers {b : Touched} (h : b ≠ .whole) {s t : State} (k : leavesOthers b s t) :
    t.power = s.power := by
  unfold leavesOthers at k
  cases b
  case whole => exact absurd rfl h
  all_goals rw [k]; rfl

theorem flushReports_again (s : State) : flushReports (flushReports s) = flushReports s :=
  flushReports_of_nil (flushReports_reports s)

namespace StartsBy

variable {b : Touched} {c : Instr} {build : State → State} {own : Instr → Option (State → State)}
  (start : StartsBy b c build own)
include start

theorem power {s t : State} (h : Offers b (fun _ => True) s t) : t.power = s.power :=
  power_of_leavesOthers start.block h.others

theorem waiting (s : State) : (build s).waiting = s.waiting := by
  have beside : build s = (build s).withWaiting s.waiting := start.beside s s.waiting
  rw [beside]
  rfl

theorem request_of_own {x : Instr} {f : State → State} (h : own x = some f) : waitsFor x = some c := by
  have owned := start.owns x
  rw [h] at owned
  exact eq_of_beq owned.symm

/-- The requests taken at a start are commands run after it. -/
theorem runs (xs : List Instr) (t : State) (steady : t.steady) (mine : ∀ x ∈ xs, (own x).isSome = true)
    (fresh : ∀ x ∈ xs, x ∉ t.handed) :
    runsAll xs (.next t) = .next (xs.foldl (takeRequest own) t) ∧ (xs.foldl (takeRequest own) t).reports = [] := by
  induction xs generalizing t with
  | nil => exact ⟨rfl, steady.2⟩
  | cons x xs ih =>
    obtain ⟨f, request⟩ := Option.isSome_iff_exists.mp (mine x List.mem_cons_self)
    have alone : t.took x = t := congrArg t.withHanded (List.erase_of_not_mem (fresh x List.mem_cons_self))
    have runsOne : exec x t = .next (flushReports (f t)) := by
      rw [start.takes x f request, taken_of_steady steady, alone]
    have offers : Offers b (fun _ => True) t (flushReports (f t)) :=
      offers_flushReports (start.acts x f request t) trivial
    have later : ∀ y ∈ xs, y ∉ (flushReports (f t)).handed := fun y hy waits => by
      obtain ⟨g, own⟩ := Option.isSome_iff_exists.mp (mine y (List.mem_cons_of_mem _ hy))
      refine (offers.handed y waits).elim (fresh y (List.mem_cons_of_mem _ hy)) fun none => ?_
      rw [start.request_of_own own] at none
      cases none
    rw [List.foldl_cons, takeRequest_of_own request]
    obtain ⟨all, quiet⟩ := ih (flushReports (f t)) ⟨(start.power offers).trans steady.1, flushReports_reports _⟩
      (fun y hy => mine y (List.mem_cons_of_mem _ hy)) later
    refine ⟨?_, quiet⟩
    calc runsAll (x :: xs) (.next t) = runsAll xs (exec x t) := rfl
      _ = _ := by rw [runsOne, all]

/-- The start of a job takes its requests in their order, the others waiting on. -/
theorem takes_requests (s : State) (steady : s.steady)
    (fresh : ∀ x ∈ s.waiting.filter (fun x => waitsFor x == some c), x ∉ s.handed) :
    exec c s = runsAll (s.waiting.filter fun x => waitsFor x == some c)
      (exec c (s.withWaiting (s.waiting.filter fun x => waitsFor x != some c))) := by
  have mineIff : (fun x => (own x).isSome) = fun x => waitsFor x == some c := funext start.owns
  have otherIff : (fun x => (own x).isNone) = fun x => waitsFor x != some c := funext fun x => by
    rw [← Option.not_isSome, start.owns]
    rfl
  generalize mineEq : (s.waiting.filter fun x => waitsFor x == some c) = mine at fresh ⊢
  generalize othersEq : (s.waiting.filter fun x => waitsFor x != some c) = others
  have ownOnly : ∀ x ∈ mine, (own x).isSome = true := fun x hx => by
    rw [← mineEq] at hx
    rw [start.owns]
    exact (List.mem_filter.mp hx).2
  have notOwn : ∀ x ∈ others, (waitsFor x != some c) = true := fun x hx => by
    rw [← othersEq] at hx
    exact (List.mem_filter.mp hx).2
  have taking : Offers b (fun _ => True) s (s.took c) :=
    Offers.acts .refl ⟨leavesOthers_of_traffic rfl, rfl, rfl, rfl, fun _ h => .inl (List.mem_of_mem_erase h)⟩
  have built : Offers b (fun _ => True) s ((flushReports (build (s.took c))).withWaiting others) :=
    offers_withWaiting (offers_flushReports (taking.trans (start.builds (s.took c))) trivial) others
  have quiet : ((flushReports (build (s.took c))).withWaiting others).reports = [] := flushReports_reports _
  obtain ⟨run, done⟩ := start.runs mine _ ⟨(start.power built).trans steady.1, quiet⟩ ownOnly fun x hx waits =>
    (built.handed x waits).elim (fresh x hx) fun none => by
      obtain ⟨f, request⟩ := Option.isSome_iff_exists.mp (ownOnly x hx)
      rw [start.request_of_own request] at none
      cases none
  have here : takeWaiting own (build (s.took c)) =
      mine.foldl (takeRequest own) ((flushReports (build (s.took c))).withWaiting others) := by
    rw [takeWaiting_eq, mineIff, otherIff, start.waiting, took_waiting, mineEq, othersEq]
  have there : takeWaiting own (build ((s.withWaiting others).took c)) =
      (flushReports (build (s.took c))).withWaiting others := by
    have beside : build ((s.withWaiting others).took c) = (build (s.took c)).withWaiting others :=
      start.beside (s.took c) others
    have none : others.filter (fun x => waitsFor x == some c) = [] :=
      List.filter_eq_nil_iff.mpr fun x hx same => by
        have other := notOwn x hx
        rw [bne, same] at other
        cases other
    rw [takeWaiting_eq, mineIff, otherIff, beside, State.withWaiting_waiting, none, List.filter_eq_self.mpr notOwn,
      withWaiting_flushReports]
    rfl
  rw [start.starts, start.starts, taken_of_steady steady, taken_of_steady (s := s.withWaiting others) steady, here,
    there,
    flushReports_of_nil quiet, run, flushReports_of_nil done]

end StartsBy

/-! ### The six owners of requests -/

theorem graderStarts_by : StartsBy .grader .gradeEvaluatorStart buildGrader graderRequest where
  block := by decide
  starts _ := rfl
  builds _ := offers_buildGrader .refl
  beside := withWaiting_buildGrader
  owns x := by cases x <;> rfl
  takes x f e s := by
    unfold graderRequest at e
    split at e <;> cases e
    rfl
  acts x f e s := by
    unfold graderRequest at e
    split at e <;> cases e
    exact offers_holdGrade .refl trivial ..

theorem monitorStarts_by : StartsBy .monitor .pathMonitorStart buildMonitor monitorRequest where
  block := by decide
  starts _ := rfl
  builds _ := offers_buildMonitor .refl
  beside := withWaiting_buildMonitor
  owns x := by cases x <;> rfl
  takes x f e s := by
    unfold monitorRequest at e
    split at e <;> cases e <;> rfl
  acts x f e s := by
    unfold monitorRequest at e
    split at e <;> cases e
    · exact offers_answerPath .refl trivial ..
    · exact offers_answerPath .refl trivial ..
    · exact offers_clearPathRequest .refl trivial ..

theorem drivesStart_by : StartsBy .drives .gateDriveStart buildDrives drivesRequest where
  block := by decide
  starts _ := rfl
  builds _ := offers_buildDrives .refl
  beside := withWaiting_buildDrives
  owns x := by cases x <;> rfl
  takes x f e s := by
    unfold drivesRequest at e
    split at e <;> cases e <;> rfl
  acts x f e s := by
    unfold drivesRequest at e
    split at e <;> cases e
    · exact offers_gateStop .refl trivial ..
    · exact offers_gateResume .refl trivial ..

/-- The Closure Sequencer's records as its start builds them. -/
def buildSequencer (s : State) : State := segmentsEnter (s.withSequencer (startedSequencer s))

theorem sequencerStarts_by : StartsBy .sequencer .closureSequencerStart buildSequencer sequencerRequest where
  block := by decide
  starts _ := rfl
  builds _ := offers_segmentsEnter (offers_withSequencer .refl _)
  beside s l := withWaiting_segmentsEnter (s.withSequencer (startedSequencer s)) l
  owns x := by cases x <;> rfl
  takes x f e s := by
    unfold sequencerRequest at e
    split at e <;> cases e <;> rfl
  acts x f e s := by
    unfold sequencerRequest at e
    split at e <;> cases e <;> simp [Offers.refl]

/-- The Budget Allocator's figures and notices as its start makes them. -/
def buildAllocator (s : State) : State := (firstFigures s).handAll (startNotices s)

theorem allocatorStarts_by : StartsBy .allocator .budgetAllocatorStart buildAllocator allocatorRequest where
  block := by decide
  starts _ := rfl
  builds _ := offers_handAll (offers_firstFigures .refl) (noRequest_map fun _ => rfl)
  beside s l := by simp [buildAllocator]
  owns x := by cases x <;> rfl
  takes x f e s := by
    unfold allocatorRequest at e
    split at e <;> cases e
    rfl
  acts x f e s := by
    unfold allocatorRequest at e
    split at e <;> cases e
    exact offers_setBudget .refl trivial ..

theorem publisherStarts_by :
    StartsBy .publisher .signPublisherStart (rebuildSigns true fun _ => false) publisherRequest where
  block := by decide
  starts _ := rfl
  builds _ := offers_rebuildSigns .refl ..
  beside s l := withWaiting_rebuildSigns s l true _
  owns x := by cases x <;> rfl
  takes x f e s := by
    unfold publisherRequest at e
    split at e <;> cases e <;> rfl
  acts x f e s := by
    unfold publisherRequest at e
    split at e <;> cases e
    · exact offers_forceFace .refl ..
    · exact offers_signSweep .refl ..

/-- Settles O25: MANAGE frames by source, destination, code and length; the codes one by one; the requests by their
owner; the starts by what their block builds. -/
theorem requestsReachTheirOwners : Obligations.RequestsReachTheirOwners := by
  refine ⟨fun a code tag ps s steady => ⟨manageFrame_of_ignored steady, manageFrame_of_broadcast steady,
    manageFrame_of_own steady, unknownRequest_of_unknown steady, unknownRequest_of_known steady⟩,
    codes_spell, requests_wait, fun s steady c start => ?_⟩
  simp only [List.mem_cons, List.not_mem_nil, or_false] at start
  rcases start with rfl | rfl | rfl | rfl | rfl | rfl
  · exact graderStarts_by.takes_requests s steady
  · exact monitorStarts_by.takes_requests s steady
  · exact drivesStart_by.takes_requests s steady
  · exact sequencerStarts_by.takes_requests s steady
  · exact allocatorStarts_by.takes_requests s steady
  · exact publisherStarts_by.takes_requests s steady

end Sys2Proof.Machine
end

section
/-!
SUPPORT. The Sign Publisher's events: what each leaves as it is, what an offer can do to the queues, and what one
attempt makes of a sign's record, its hold lists and its port (R158).
-/

namespace Sys2Proof.Machine

/-! ### What the Publisher's events leave -/

/-- The rows in use, the view and the node address are as they were. -/
structure SameService (s t : State) : Prop where
  store : t.store = s.store
  rows : t.publisher.rows = s.publisher.rows
  signsIn : t.publisher.signsIn = s.publisher.signsIn
  segmentView : t.publisher.segmentView = s.publisher.segmentView
  pathView : t.publisher.pathView = s.publisher.pathView
  out : Instr.signsOutOfService ∈ t.handed ↔ Instr.signsOutOfService ∈ s.handed

namespace SameService
variable {s t u : State}

theorem refl (s : State) : SameService s s := ⟨rfl, rfl, rfl, rfl, rfl, .rfl⟩

theorem trans (h : SameService s t) (k : SameService t u) : SameService s u where
  store := k.store.trans h.store
  rows := k.rows.trans h.rows
  signsIn := k.signsIn.trans h.signsIn
  segmentView := k.segmentView.trans h.segmentView
  pathView := k.pathView.trans h.pathView
  out := k.out.trans h.out

/-- An event that changes the Line Switch and hands on what is no notice of a clear. -/
theorem of_publisher (store : t.store = s.store) (publisher : t.publisher = s.publisher)
    (out : Instr.signsOutOfService ∈ t.handed ↔ Instr.signsOutOfService ∈ s.handed) : SameService s t :=
  ⟨store, by rw [publisher], by rw [publisher], by rw [publisher], by rw [publisher], out⟩

theorem serves (h : SameService s t) : t.serves .signs .signsOutOfService = s.serves .signs .signsOutOfService := by
  have active : t.active .signs = s.active .signs := by simp [State.active, State.region, h.store]
  rw [Bool.eq_iff_iff, State.serves_iff, State.serves_iff, active, h.out]

theorem signRow (h : SameService s t) (g : Nat) : t.signRow g = s.signRow g := by
  simp only [State.signRow, h.serves, h.signsIn, h.rows]

theorem sign_eq_some (h : SameService s t) {g : Nat} {r : SignRec} :
    t.sign g = some r ↔ (s.signRow g).isSome = true ∧ mapGet t.publisher.signs g = some r := by
  rw [State.sign_eq_some, h.signRow]

theorem sign (h : SameService s t) {g : Nat} (same : mapGet t.publisher.signs g = mapGet s.publisher.signs g) :
    t.sign g = s.sign g := by
  simp only [State.sign, h.signRow, same]

theorem faceSet (h : SameService s t) (row : SignRow) (token : Byte) (d : Display) :
    t.faceSet row token d = s.faceSet row token d := by
  simp [State.faceSet, State.compose, State.ownAddress, h.store]

theorem replyFrame (h : SameService s t) (code tag result : Byte) (data : Bytes) :
    t.replyFrame code tag result data = s.replyFrame code tag result data := by
  simp [State.replyFrame, State.compose, State.ownAddress, h.store]

end SameService

theorem sameService_of_offer {p : Port} {l : LocalFrame} (unmarked : l.restartReply = false) (s : State) :
    SameService s (offer p l s).1 := by
  refine .of_publisher (lineTouched_store (lineTouched_offer ..)) (lineTouched_publisher (lineTouched_offer ..)) ?_
  rcases (offerLeaves_offer (p := p) unmarked s).handed with e | e <;> simp [e]

theorem sameService_withSign (s : State) (g : Nat) (r : SignRec) : SameService s (s.withSign g r) :=
  ⟨rfl, rfl, rfl, rfl, rfl, .rfl⟩

theorem sameService_withHold (s : State) (p : Port) (l : List Nat) : SameService s (s.withHold p l) := by
  cases p <;> exact ⟨rfl, rfl, rfl, rfl, rfl, .rfl⟩

theorem sameService_withSweep (s : State) (w : Option Sweep) : SameService s (s.withSweep w) :=
  ⟨rfl, rfl, rfl, rfl, rfl, .rfl⟩

/-- A command of the Publisher is no notice of a clear. -/
theorem sameService_took (s : State) {c : Instr} (other : c ≠ .signsOutOfService) : SameService s (s.took c) :=
  .of_publisher rfl rfl (List.mem_erase_of_ne other.symm)

/-! ### What an offer does to the queues -/

/-- Links stay; a port that is sending goes on sending, and its local queue grows at the tail. -/
def LineGrows (s t : State) : Prop :=
  ∀ p, (t.line.port p).up = (s.line.port p).up ∧
    ((s.line.port p).up = true → (s.line.port p).busy.isSome = true →
      (t.line.port p).busy.isSome = true ∧ (s.line.port p).localQ <+: (t.line.port p).localQ)

theorem lineGrows_of_line {s t : State} (h : t.line = s.line) : LineGrows s t := fun p => by
  rw [h]
  exact ⟨rfl, fun _ busy => ⟨busy, List.prefix_refl _⟩⟩

theorem LineGrows.trans {s t u : State} (h : LineGrows s t) (k : LineGrows t u) : LineGrows s u := fun p => by
  obtain ⟨up, grows⟩ := h p
  obtain ⟨up', grows'⟩ := k p
  refine ⟨up'.trans up, fun on busy => ?_⟩
  obtain ⟨busy, first⟩ := grows on busy
  obtain ⟨busy, second⟩ := grows' (up.trans on) busy
  exact ⟨busy, first.trans second⟩

theorem lineGrows_offer {p : Port} {l : LocalFrame} (unmarked : l.restartReply = false) (s : State) :
    LineGrows s (offer p l s).1 := fun q => by
  have leaves := offerLeaves_offer (p := p) unmarked s
  rcases port_eq_or_opposite p q with rfl | rfl
  · refine ⟨leaves.linked.1, fun up busy => ?_⟩
    rcases offer_cases q s with down | ⟨-, room⟩ | ⟨-, full⟩
    · rw [up] at down
      cases down
    · rw [offer_of_busy up busy room, State.withLine_line, port_answered]
      exact ⟨busy, List.prefix_append ..⟩
    · rw [offer_of_full up full, unmarked]
      simp only [Bool.false_eq_true, if_false, State.withLine_line, port_answered, lossCounted]
      split <;> exact ⟨busy, List.prefix_refl _⟩
  · rw [leaves.opposite]
    exact ⟨rfl, fun _ busy => ⟨busy, List.prefix_refl _⟩⟩

theorem lineGrows_flushReports (s : State) : LineGrows s (flushReports s) := by
  have sent : ∀ (l : List ReportRequest) (u : State), LineGrows s u → LineGrows s (l.foldl sendReport u) := by
    intro l
    induction l with
    | nil => exact fun _ h => h
    | cons r l ih => exact fun u h => ih _ (h.trans (lineGrows_offer rfl u))
  exact sent _ _ (lineGrows_of_line rfl)

/-! ### The answer to an attempt -/

theorem offer_accepted {s : State} {p : Port} (h : s.takesAt p) (l : LocalFrame) : (offer p l s).2 = .accepted := by
  rcases offer_cases p s with down | ⟨up, room⟩ | ⟨up, full⟩
  · rw [offer_of_down down]
  · rw [offer_of_room up room]
  · rcases h with down | room
    · rw [up] at down
      cases down
    · omega

theorem takesAt_of_port {s t : State} {p : Port} (h : t.line.port p = s.line.port p) : t.takesAt p ↔ s.takesAt p := by
  simp only [State.takesAt, h]

theorem offer_refused {s : State} {p : Port} (h : ¬ s.takesAt p) {l : LocalFrame} (unmarked : l.restartReply = false) :
    (offer p l s).2 = .full ∧ ((offer p l s).1.line.port p).up = true ∧ ¬ (offer p l s).1.takesAt p := by
  obtain ⟨up, full⟩ := not_or.mp h
  have up : (s.line.port p).up = true := by simpa using up
  rw [offer_of_full up (Nat.not_lt.mp full), unmarked]
  have counted : (lossCounted l.frame (s.line.port p)).up = (s.line.port p).up ∧
      (lossCounted l.frame (s.line.port p)).localQ = (s.line.port p).localQ := by
    unfold lossCounted
    split <;> exact ⟨rfl, rfl⟩
  simp only [Bool.false_eq_true, if_false, State.takesAt, State.withLine_line, port_answered, counted]
  exact ⟨trivial, up, h⟩

/-! ### What an attempt leaves -/

theorem sign_withSign {s : State} {g : Nat} {r : SignRec} (h : s.sign g = some r) (x : SignRec) :
    (s.withSign g x).sign g = some x :=
  (sameService_withSign s g x).sign_eq_some.mpr ⟨(State.sign_eq_some.mp h).1, State.get_withSign ..⟩

/-- `t` is `s` after an attempt of a sign's cycle with the record `r`. -/
structure Attempted (front : Bool) (s t : State) (g : Nat) (row : SignRow) (r : SignRec) : Prop where
  service : SameService s t
  time : t.time = s.time
  reports : t.reports = s.reports
  grows : LineGrows s t
  beside : t.line.port (opposite row.port) = s.line.port (opposite row.port)
  others : ∀ h, h ≠ g → mapGet t.publisher.signs h = mapGet s.publisher.signs h
  sweep : t.publisher.sweep = s.publisher.sweep
  holdBeside : t.publisher.hold (opposite row.port) = s.publisher.hold (opposite row.port)
  taken : s.takesAt row.port → mapGet t.publisher.signs g = some (acceptedSign s.now r) ∧
    t.publisher.hold row.port = s.publisher.hold row.port
  held : ¬ s.takesAt row.port → mapGet t.publisher.signs g = some (heldSign r) ∧
    t.publisher.hold row.port = holdAgain front g (s.publisher.hold row.port) ∧
    (t.line.port row.port).up = true ∧ ¬ t.takesAt row.port
  queued : (s.line.port row.port).up = true → (s.line.port row.port).busy.isSome = true → s.takesAt row.port →
    (t.line.port row.port).localQ =
      (s.line.port row.port).localQ ++ [s.faceSet row (r.token + 1) r.desired]

theorem attempted_of_offer {s : State} {g : Nat} {row : SignRow} {r : SignRec} (front : Bool) {x : SignRec}
    (l : List Nat)
    (taken : s.takesAt row.port → x = acceptedSign s.now r ∧ l = s.publisher.hold row.port)
    (held : ¬ s.takesAt row.port → x = heldSign r ∧ l = holdAgain front g (s.publisher.hold row.port)) :
    Attempted front s (((setOffer s row r).1.withSign g x).withHold row.port l) g row r := by
  have touched : lineTouched s (setOffer s row r).1 := lineTouched_offer ..
  have leaves : OfferLeaves row.port s (setOffer s row r).1 := offerLeaves_offer rfl s
  have line : (((setOffer s row r).1.withSign g x).withHold row.port l).line = (setOffer s row r).1.line := by
    cases row.port <;> rfl
  have signs : (((setOffer s row r).1.withSign g x).withHold row.port l).publisher.signs =
      mapPut s.publisher.signs g x := by
    rw [State.signs_withHold, ← lineTouched_publisher touched]
    rfl
  refine
    { service := ((sameService_of_offer rfl s).trans (sameService_withSign ..)).trans (sameService_withHold ..)
      time := (show _ = (setOffer s row r).1.time by cases row.port <;> rfl).trans (lineTouched_time touched)
      reports := (show _ = (setOffer s row r).1.reports by cases row.port <;> rfl).trans (lineTouched_reports touched)
      grows := (lineGrows_offer rfl s).trans (lineGrows_of_line line)
      beside := by rw [line]; exact leaves.opposite
      others := fun h n => by rw [signs, mapGet_mapPut_of_ne _ _ n]
      sweep := (show _ = (setOffer s row r).1.publisher.sweep by cases row.port <;> rfl).trans
        (by rw [lineTouched_publisher touched])
      holdBeside := by
        rw [State.hold_withHold_opposite, State.hold_withSign, lineTouched_publisher touched]
      taken := fun h => ?_
      held := fun h => ?_
      queued := fun up busy room => ?_ }
  · obtain ⟨rfl, rfl⟩ := taken h
    exact ⟨by rw [signs, mapGet_mapPut_self], State.hold_withHold ..⟩
  · obtain ⟨rfl, rfl⟩ := held h
    obtain ⟨-, up, full⟩ := offer_refused h (l := s.faceSet row (r.token + 1) r.desired) rfl
    refine ⟨by rw [signs, mapGet_mapPut_self], State.hold_withHold .., by rw [line]; exact up, ?_⟩
    rw [takesAt_of_port (s := (setOffer s row r).1) (by rw [line])]
    exact full
  · have places := room.resolve_left (by simp [up])
    rw [line, setOffer, offer_of_busy up busy places, State.withLine_line, port_answered]

section
variable {s : State} {g : Nat} {r : SignRec} {row : SignRow} (h : s.sign g = some r) (k : s.signRow g = some row)
  (front : Bool)
include h k

/-- An attempt is answered ACCEPTED where its port takes one more local frame, and FULL where it does not. -/
theorem attempt_accepted (takes : s.takesAt row.port) : (attempt g front s).2 = .accepted := by
  rw [attempt_of_accepted h k front (offer_accepted takes _)]

theorem attempt_refused (refuses : ¬ s.takesAt row.port) : (attempt g front s).2 = .full := by
  rw [attempt_of_full h k front (offer_refused refuses rfl).1]

theorem attempted : Attempted front s (attempt g front s).1 g row r := by
  have left : (setOffer s row r).1.publisher = s.publisher := lineTouched_publisher (lineTouched_offer ..)
  by_cases takes : s.takesAt row.port
  · have same : ∀ t : State, t.withHold row.port (t.publisher.hold row.port) = t := fun t => by cases row.port <;> rfl
    rw [attempt_of_accepted h k front (offer_accepted takes _)]
    have done := attempted_of_offer (g := g) (r := r) front (x := acceptedSign s.now r) (s.publisher.hold row.port)
      (fun _ => ⟨rfl, rfl⟩) fun no => absurd takes no
    rwa [← left, ← State.hold_withSign, same] at done
  · rw [attempt_of_full h k front (offer_refused takes rfl).1]
    refine attempted_of_offer front _ (fun yes => absurd yes takes) fun _ => ⟨rfl, ?_⟩
    rw [left]

end

/-! ### The start of a cycle -/

/-- A record at the start of a cycle, before its first attempt. -/
def freshSign (r : SignRec) : SignRec := { r with attempts := 0, mismatch := false, republish := none }

theorem startCycle_eq {s : State} {g : Nat} {r : SignRec} (h : s.sign g = some r) :
    startCycle g s = (attempt g false (s.withSign g (freshSign r))).1 := by
  unfold startCycle
  rw [h]
  rfl

theorem attempted_of_withSign {front : Bool} {s t : State} {g : Nat} {row : SignRow} {r x : SignRec}
    (h : Attempted front (s.withSign g x) t g row r) : Attempted front s t g row r where
  service := (sameService_withSign s g x).trans h.service
  time := h.time
  reports := h.reports
  grows := h.grows
  beside := h.beside
  others j n := (h.others j n).trans (State.get_withSign_of_ne s x n)
  sweep := h.sweep
  holdBeside := h.holdBeside.trans (State.hold_withSign ..)
  taken takes := by
    rw [← State.hold_withSign s g x]
    exact h.taken takes
  held refuses := by
    rw [← State.hold_withSign s g x]
    exact h.held refuses
  queued := h.queued

theorem attempted_startCycle {s : State} {g : Nat} {r : SignRec} {row : SignRow} (h : s.sign g = some r)
    (k : s.signRow g = some row) : Attempted false s (startCycle g s) g row (freshSign r) := by
  rw [startCycle_eq h]
  exact attempted_of_withSign (attempted (sign_withSign h _) k false)

end Sys2Proof.Machine
end

section
/-!
SUPPORT. A space signal: the held signs of a port served from the head of its hold list (R13, R158).
-/

namespace Sys2Proof.Machine

/-- `t` is `s` after the first `n` signs of a hold list have been served. -/
structure Served (p : Port) (l : List Nat) (n : Nat) (s t : State) : Prop where
  count : n ≤ l.length
  service : SameService s t
  time : t.time = s.time
  reports : t.reports = s.reports
  sweep : t.publisher.sweep = s.publisher.sweep
  hold : t.publisher.hold p = l.drop n
  holdBeside : t.publisher.hold (opposite p) = s.publisher.hold (opposite p)
  taken : ∀ g ∈ l.take n, ∀ r ∈ mapGet s.publisher.signs g,
    mapGet t.publisher.signs g = some (acceptedSign s.now r)
  others : ∀ g, g ∉ l.take n → mapGet t.publisher.signs g = mapGet s.publisher.signs g
  stops : n < l.length → ¬ t.takesAt p
  starts : s.takesAt p → l ≠ [] → 1 ≤ n

/-- The signs of a list are held at a port. -/
def heldAt (p : Port) (l : List Nat) (s : State) : Prop :=
  ∀ g ∈ l, (∃ row, s.signRow g = some row ∧ row.port = p) ∧
    ∃ r, mapGet s.publisher.signs g = some r ∧ r.phase = .held ∧ r.reply = none

section
variable {p : Port} {g : Nat} {rest : List Nat} {s : State}

theorem serveHeld_of_accepted (h : (attempt g true (s.withHold p rest)).2 = .accepted) :
    serveHeld p (g :: rest) s = serveHeld p rest (attempt g true (s.withHold p rest)).1 := by
  rw [serveHeld]
  rcases e : attempt g true (s.withHold p rest) with ⟨t, _ | _⟩
  · rfl
  · rw [e] at h
    cases h

theorem serveHeld_of_full (h : (attempt g true (s.withHold p rest)).2 = .full) :
    serveHeld p (g :: rest) s = (attempt g true (s.withHold p rest)).1 := by
  rw [serveHeld]
  rcases e : attempt g true (s.withHold p rest) with ⟨t, _ | _⟩
  · rw [e] at h
    cases h
  · rfl

/-- A sign that is refused stays at the head, its record as it was. -/
theorem served_of_refused {t : State} {row : SignRow} {r : SignRec} (port : row.port = p)
    (nodup : (g :: rest).Nodup) (record : mapGet s.publisher.signs g = some r) (held : r.phase = .held)
    (silent : r.reply = none) (refuses : ¬ s.takesAt p) (tried : Attempted true (s.withHold p rest) t g row r) :
    Served p (g :: rest) 0 s t := by
  subst port
  have line : (s.withHold row.port rest).line = s.line := by cases row.port <;> rfl
  have refused : ¬ (s.withHold row.port rest).takesAt row.port := by
    rwa [takesAt_of_port (s := s) (by rw [line])]
  obtain ⟨same, hold, -, full⟩ := tried.held refused
  have unchanged : heldSign r = r := by
    cases r
    cases held
    cases silent
    rfl
  have alone : rest.filter (fun h => h != g) = rest :=
    List.filter_eq_self.mpr fun h hh => bne_iff_ne.mpr fun e => (List.nodup_cons.mp nodup).1 (e ▸ hh)
  exact
    { count := Nat.zero_le _
      service := (sameService_withHold ..).trans tried.service
      time := tried.time.trans (by cases row.port <;> rfl)
      reports := tried.reports.trans (by cases row.port <;> rfl)
      sweep := tried.sweep.trans (by cases row.port <;> rfl)
      hold := by
        rw [hold, State.hold_withHold, holdAgain, if_pos rfl, alone]
        rfl
      holdBeside := tried.holdBeside.trans (State.hold_withHold_opposite ..)
      taken := fun h hh => nomatch hh
      others := fun h _ => by
        by_cases e : h = g
        · rw [e, same, unchanged, record]
        · rw [tried.others h e, State.signs_withHold]
      stops := fun _ => full
      starts := fun takes => absurd takes refuses }

/-- A sign that is taken has left the list, and the rest is served. -/
theorem served_of_taken {t u : State} {row : SignRow} {r : SignRec} {n : Nat} (port : row.port = p)
    (nodup : (g :: rest).Nodup) (record : mapGet s.publisher.signs g = some r) (takes : s.takesAt p)
    (tried : Attempted true (s.withHold p rest) t g row r) (served : Served p rest n t u) :
    Served p (g :: rest) (n + 1) s u := by
  subst port
  have line : (s.withHold row.port rest).line = s.line := by cases row.port <;> rfl
  have time : (s.withHold row.port rest).time = s.time := by cases row.port <;> rfl
  obtain ⟨accepted, -⟩ := tried.taken ((takesAt_of_port (s := s) (by rw [line])).mpr takes)
  have absent : g ∉ rest := (List.nodup_cons.mp nodup).1
  have now : t.now = s.now := congrArg (· / 2) (tried.time.trans time)
  have first : mapGet u.publisher.signs g = some (acceptedSign s.now r) := by
    rw [served.others g fun h => absent (List.mem_of_mem_take h), accepted]
    exact congrArg (fun n => some (acceptedSign n r)) (congrArg (· / 2) time)
  have later : ∀ h, h ≠ g → mapGet t.publisher.signs h = mapGet s.publisher.signs h := fun h n => by
    rw [tried.others h n, State.signs_withHold]
  exact
    { count := Nat.succ_le_succ served.count
      service := ((sameService_withHold ..).trans tried.service).trans served.service
      time := (served.time.trans tried.time).trans time
      reports := (served.reports.trans tried.reports).trans (by cases row.port <;> rfl)
      sweep := (served.sweep.trans tried.sweep).trans (by cases row.port <;> rfl)
      hold := served.hold
      holdBeside := (served.holdBeside.trans tried.holdBeside).trans (State.hold_withHold_opposite ..)
      taken := fun h hh x hx => by
        rcases List.mem_cons.mp hh with rfl | behind
        · rw [record] at hx
          cases hx
          exact first
        · have other : h ≠ g := fun e => absent (e ▸ List.mem_of_mem_take behind)
          rw [served.taken h behind x (by rwa [later h other]), now]
      others := fun h hh => by
        rw [List.take_succ_cons, List.mem_cons, not_or] at hh
        rw [served.others h hh.2, later h hh.1]
      stops := fun more => served.stops (Nat.lt_of_succ_lt_succ more)
      starts := fun _ _ => Nat.succ_le_succ (Nat.zero_le n) }

end

theorem serveHeld_serves {p : Port} (l : List Nat) (s : State) (nodup : l.Nodup) (held : heldAt p l s)
    (whole : s.publisher.hold p = l) : ∃ n, Served p l n s (serveHeld p l s) := by
  induction l generalizing s with
  | nil =>
    exact ⟨0, Nat.le_refl _, .refl s, rfl, rfl, rfl, whole, rfl, fun g h => (nomatch h), fun _ _ => rfl,
      fun h => (nomatch h), fun _ h => absurd rfl h⟩
  | cons g rest ih =>
    obtain ⟨⟨row, present, port⟩, r, record, phase, silent⟩ := held g List.mem_cons_self
    have there : (s.withHold p rest).signRow g = some row := ((sameService_withHold s p rest).signRow g).trans present
    have sign : (s.withHold p rest).sign g = some r :=
      (sameService_withHold s p rest).sign_eq_some.mpr ⟨by rw [present]; rfl,
        by rw [State.signs_withHold]; exact record⟩
    have tried := attempted sign there true
    have same : (s.withHold p rest).takesAt row.port ↔ s.takesAt p := by
      rw [port]
      exact takesAt_of_port (by cases p <;> rfl)
    by_cases takes : s.takesAt p
    · rw [serveHeld_of_accepted (attempt_accepted sign there true (same.mpr takes))]
      have behind : heldAt p rest (attempt g true (s.withHold p rest)).1 := fun h hh => by
        obtain ⟨⟨row', present', port'⟩, r', record', rest'⟩ := held h (List.mem_cons_of_mem _ hh)
        have other : h ≠ g := fun e => (List.nodup_cons.mp nodup).1 (e ▸ hh)
        refine ⟨⟨row', ?_, port'⟩, r', ?_, rest'⟩
        · rw [((sameService_withHold ..).trans tried.service).signRow]
          exact present'
        · rw [tried.others h other, State.signs_withHold]
          exact record'
      have left : (attempt g true (s.withHold p rest)).1.publisher.hold p = rest := by
        have kept := (tried.taken (same.mpr takes)).2
        rwa [port, State.hold_withHold] at kept
      obtain ⟨n, served⟩ := ih _ (List.nodup_cons.mp nodup).2 behind left
      exact ⟨n + 1, served_of_taken port nodup record takes tried served⟩
    · rw [serveHeld_of_full (attempt_refused sign there true (fun yes => takes (same.mp yes)))]
      exact ⟨0, served_of_refused port nodup record phase silent takes tried⟩

theorem nodup_hold {s : State} (h : SignsOk s) (p : Port) : (s.publisher.hold p).Nodup := by
  obtain ⟨-, -, nodup, -⟩ := h
  cases p
  · exact (List.nodup_append.mp nodup).1
  · exact (List.nodup_append.mp nodup).2.1

theorem ok_of_signsOk {s : State} (h : SignsOk s) {g : Nat} {r : SignRec} (k : mapGet s.publisher.signs g = some r) :
    g < 24 ∧ r.ok := h.2.1 _ (mem_of_mapGet k)

theorem heldAt_hold {s : State} (h : SignsOk s) {p : Port}
    (rows : ∀ g ∈ s.publisher.hold p, ∃ row ∈ s.signRow g, row.port = p) : heldAt p (s.publisher.hold p) s := by
  intro g hg
  have listed : g ∈ s.publisher.holdV ++ s.publisher.holdS := by
    cases p
    · exact List.mem_append_left _ hg
    · exact List.mem_append_right _ hg
  obtain ⟨r, record, held⟩ := h.2.2.2.1 g listed
  obtain ⟨row, present, port⟩ := rows g hg
  obtain ⟨-, timed, -⟩ := ok_of_signsOk h record
  refine ⟨⟨row, present, port⟩, r, record, held, ?_⟩
  rw [← Option.not_isSome_iff_eq_none, timed, held]
  decide

theorem spaceSignal_serves (p : Port) (s : State) (steady : s.steady) (kept : SignsOk s)
    (rows : ∀ g ∈ s.publisher.hold p, ∃ row ∈ s.signRow g, row.port = p) :
    let l := s.publisher.hold p
    completes (.spaceSignal p) s fun t => ∃ n ∈ List.range (l.length + 1),
      t.publisher.hold p = l.drop n ∧ t.publisher.hold (opposite p) = s.publisher.hold (opposite p) ∧
      (∀ g ∈ l.take n, ∀ r ∈ mapGet s.publisher.signs g, ∃ r' ∈ mapGet t.publisher.signs g,
        attemptTaken t r.attempts r r' ∧ r'.desired = r.desired ∧ r'.mismatch = r.mismatch) ∧
      (∀ g, g < 24 → g ∉ l.take n → mapGet t.publisher.signs g = mapGet s.publisher.signs g) ∧
      (n < l.length → ¬ t.takesAt p) ∧ (s.takesAt p → l ≠ [] → 1 ≤ n) ∧
      t.publisher.sweep = s.publisher.sweep ∧ t.publisher.segmentView = s.publisher.segmentView := by
  have service := sameService_took s (c := .spaceSignal p) (by simp)
  have held : heldAt p (s.publisher.hold p) (s.took (.spaceSignal p)) := fun g hg => by
    rw [service.signRow]
    exact heldAt_hold kept rows g hg
  obtain ⟨n, served⟩ := serveHeld_serves (s.publisher.hold p) (s.took (.spaceSignal p)) (nodup_hold kept p) held rfl
  refine ⟨_, taken_eq steady rfl (served.reports.trans steady.2), n,
    List.mem_range.mpr (Nat.lt_succ_of_le served.count),
    served.hold, served.holdBeside, fun g hg r record => ⟨_, served.taken g hg r record, ?_, rfl, rfl⟩,
    fun g _ => served.others g, served.stops, served.starts, served.sweep, served.service.segmentView⟩
  have now : (serveHeld p (s.publisher.hold p) (s.took (.spaceSignal p))).now = s.now := congrArg (· / 2) served.time
  exact ⟨rfl, rfl, rfl, rfl, rfl, congrArg (fun m => some (m + 20)) now.symm⟩

end Sys2Proof.Machine
end

section
/-!
SUPPORT. The start of a publication cycle as O58 tells it, and SIGN SWEEP's tests (R161, R164).
-/

namespace Sys2Proof.Machine

/-! ### A cycle that starts -/

/-- `u` comes after `t`: the signs and hold lists are the same, and the queues have grown at most. -/
structure Later (t u : State) : Prop where
  signs : u.publisher.signs = t.publisher.signs
  hold : ∀ p, u.publisher.hold p = t.publisher.hold p
  time : u.time = t.time
  grows : LineGrows t u

theorem Later.trans {s t u : State} (h : Later s t) (k : Later t u) : Later s u :=
  ⟨k.signs.trans h.signs, fun p => (k.hold p).trans (h.hold p), k.time.trans h.time, h.grows.trans k.grows⟩

theorem later_withSweep (s : State) (w : Option Sweep) : Later s (s.withSweep w) :=
  ⟨rfl, fun p => by cases p <;> rfl, rfl, lineGrows_of_line rfl⟩

theorem later_report (s : State) (kind : Byte) (data : Bytes) : Later s (s.report kind data) :=
  ⟨rfl, fun _ => rfl, rfl, lineGrows_of_line rfl⟩

theorem later_of_lineTouched {s t : State} (h : lineTouched s t) (grows : LineGrows s t) : Later s t :=
  ⟨by rw [lineTouched_publisher h], fun p => by rw [lineTouched_publisher h], lineTouched_time h, grows⟩

theorem later_reply (s : State) (code tag result : Byte) (data : Bytes) : Later s (s.reply code tag result data) :=
  later_of_lineTouched (lineTouched_reply ..) (lineGrows_offer rfl s)

theorem later_flushReports (s : State) : Later s (flushReports s) := by
  have touched := lineTouched_flushReports s
  exact ⟨by rw [lineTouched_publisher touched]; rfl, fun p => by rw [lineTouched_publisher touched]; rfl,
    (lineTouched_time touched).trans rfl, lineGrows_flushReports s⟩

theorem Later.now {t u : State} (h : Later t u) : u.now = t.now := congrArg (· / 2) h.time

theorem attempts_later {alone : Bool} {s t u : State} {g : Nat} {row : SignRow} {n : Nat} {r r' : SignRec}
    (h : attempts alone s t g row n r r') (l : Later t u) (grows : LineGrows s t) :
    attempts alone s u g row n r r' := by
  have takes : attemptTaken t n r r' → attemptTaken u n r r' := fun ⟨a, b, c, d, e, f⟩ =>
    ⟨a, b, c, d, e, f.trans (congrArg (fun n => some (n + 20)) l.now.symm)⟩
  have holds : attemptHeld t g row n r r' → attemptHeld u g row n r r' := fun ⟨a, b, c, d, e, f, i, up⟩ =>
    ⟨a, b, c, d, e, f, by rw [l.hold]; exact i, (l.grows row.port).1.trans up⟩
  obtain ⟨either, only⟩ := h
  refine ⟨either.imp takes holds, fun one => ?_⟩
  obtain ⟨taken, refused, queued⟩ := only one
  refine ⟨fun k => takes (taken k), fun k => ⟨holds (refused k).1, (l.hold _).trans (refused k).2⟩, fun up busy k => ?_⟩
  obtain ⟨up', on⟩ := grows row.port
  have first := List.isPrefixOf_iff_prefix.mp (queued up busy k)
  exact List.isPrefixOf_iff_prefix.mpr (first.trans ((l.grows row.port).2 (up'.trans up) (on up busy).1).2)

/-- A cycle whose first attempt has been made. -/
theorem cycleStarts_of_attempted {s t : State} {g : Nat} {row : SignRow} {r : SignRec}
    (tried : Attempted false s t g row (freshSign r)) (none : r.nextPending = false) :
    ∃ r', mapGet t.publisher.signs g = some r' ∧ r'.phase ≠ .idle ∧ sameOutcome r r' ∧ r'.desired = r.desired ∧
      cycleStarts true s t g row r r' := by
  have now : t.now = s.now := congrArg (· / 2) tried.time
  by_cases takes : s.takesAt row.port
  · obtain ⟨record, -⟩ := tried.taken takes
    have taken : attemptTaken t 0 { r with nextPending := false } (acceptedSign s.now (freshSign r)) :=
      ⟨rfl, rfl, rfl, rfl, rfl, congrArg (fun n => some (n + 20)) now.symm⟩
    refine ⟨_, record, by simp [acceptedSign], ⟨rfl, rfl, rfl⟩, rfl, rfl, rfl, .inl taken, fun _ =>
      ⟨fun _ => taken, fun refuses => absurd takes refuses, fun up busy _ => ?_⟩⟩
    rw [tried.queued up busy takes]
    exact List.isPrefixOf_iff_prefix.mpr (List.prefix_refl _)
  · obtain ⟨record, hold, up, -⟩ := tried.held takes
    have held : attemptHeld t g row 0 { r with nextPending := false } (heldSign (freshSign r)) :=
      ⟨rfl, rfl, rfl, rfl, rfl, none, by rw [hold]; simp [holdAgain], up⟩
    exact ⟨_, record, by simp [heldSign], ⟨rfl, rfl, rfl⟩, rfl, rfl, rfl, .inr held, fun _ =>
      ⟨fun yes => absurd yes takes, fun _ => ⟨held, hold⟩, fun _ _ yes => absurd yes takes⟩⟩

/-! ### SIGN SWEEP (R164) -/

section
variable {s : State} {w : Sweep}

theorem sweepTake_of_end (h : w.signs[w.position]? = none) : sweepTake w s = sweepDone w s := by
  unfold sweepTake
  rw [h]

variable {g : Nat} (h : w.signs[w.position]? = some g)
include h

theorem sweepTake_of_absent (k : s.sign g = none) : sweepTake w s = sweepStop w noTable s := by
  simp only [sweepTake, h, k]

theorem sweepTake_of_idle {r : SignRec} (k : s.sign g = some r) (idle : r.phase = .idle) :
    sweepTake w s = (startCycle g s).withSweep (some { w with own := true }) := by
  simp only [sweepTake, h, k, idle, if_true]

theorem sweepTake_of_busy {r : SignRec} (k : s.sign g = some r) (busy : r.phase ≠ .idle) :
    sweepTake w s = s.withSweep (some { w with own := false }) := by
  simp only [sweepTake, h, k, busy, if_false]

end

section
variable {tag : Byte} {signs : List Byte} {s : State} (started : s.publisher.started = true)
include started

/-- The signs of a request that R164 refuses: none, too many, or one out of range. -/
def badSigns (signs : List Byte) : Prop := signs = [] ∨ 24 < signs.length ∨ ∃ b ∈ signs, 23 < b.toNat

theorem signSweep_of_bad (bad : badSigns signs) : signSweep tag signs s = s.reply 0x39 tag badArgument [] := by
  unfold signSweep
  rw [if_neg (by simp [started])]
  rcases bad with rfl | many | ⟨b, mem, far⟩
  · exact if_pos (.inl rfl)
  · exact if_pos (.inr many)
  · by_cases count : signs.length = 0 ∨ 24 < signs.length
    · exact if_pos count
    · rw [if_neg count]
      exact if_pos (List.any_eq_true.mpr ⟨b, mem, decide_eq_true far⟩)

variable (good : ¬ badSigns signs)
include good

theorem signSweep_of_good : signSweep tag signs s =
    if s.serves .signs .signsOutOfService = false then s.reply 0x39 tag noTable []
    else if s.publisher.sweep.isSome then s.reply 0x39 tag busyResult []
    else sweepTake { signs := signs.map fun b => b.toNat, position := 0, tag := tag, own := false } s := by
  obtain ⟨some, few, near⟩ : signs ≠ [] ∧ ¬ 24 < signs.length ∧ ¬ ∃ b ∈ signs, 23 < b.toNat := by
    simpa only [badSigns, not_or] using good
  unfold signSweep
  rw [if_neg (by simp [started]), if_neg (not_or.mpr ⟨mt List.length_eq_zero_iff.mp some, few⟩), if_neg fun any => ?_]
  obtain ⟨b, mem, far⟩ := List.any_eq_true.mp any
  exact near ⟨b, mem, of_decide_eq_true far⟩

end

theorem not_serves {s : State} (h : s.active .signs = false ∨ .signsOutOfService ∈ s.handed) :
    s.serves .signs .signsOutOfService = false := by
  rw [← Bool.not_eq_true, State.serves_iff]
  rcases h with h | h
  · simp [h]
  · exact fun both => both.2 h

theorem withSweep_self {s : State} (w : Option Sweep) (h : s.publisher.sweep = w) : s.withSweep w = s := by
  subst h
  rfl

/-- What an attempt leaves of the other signs and the view. -/
theorem signFrame_of_attempted {front : Bool} {s t : State} {g : Nat} {row : SignRow} {r : SignRec}
    (h : Attempted front s t g row r) : signFrame s t g :=
  ⟨fun j _ n => h.others j n, h.service.segmentView, h.service.pathView, h.service.signsIn⟩

theorem signSweep_taken (tag : Byte) (signs : List Byte) (s : State) (steady : s.steady) (kept : SignsOk s)
    (started : s.publisher.started = true) :
    let c := Instr.signSweep tag signs
    let refused := fun (x : Byte) => exec c s = .next ((s.took c).reply 0x39 tag x [])
    (badSigns signs → refused badArgument) ∧
    (¬ badSigns signs → s.active .signs = false ∨ .signsOutOfService ∈ s.handed → refused noTable) ∧
    (¬ badSigns signs → s.active .signs = true → .signsOutOfService ∉ s.handed → s.publisher.sweep.isSome = true →
      refused busyResult) ∧
    (¬ badSigns signs → s.active .signs = true → .signsOutOfService ∉ s.handed → s.publisher.sweep = none →
      ∀ b ∈ signs.head?,
      let g := b.toNat
      let w : Sweep := { signs := signs.map BitVec.toNat, position := 0, tag := tag, own := false }
      (s.sign g = none → exec c s = .next
        ((s.took c).reply 0x39 tag stoppedResult (byteOf 0 ++ byteOf signs.length ++ [noTable]))) ∧
      ∀ r ∈ s.sign g, ∀ row ∈ s.signRow g,
        (r.phase ≠ .idle → exec c s = .next ((s.took c).withSweep (some w))) ∧
        (r.phase = .idle → completes c s fun t => ∃ r' ∈ mapGet t.publisher.signs g,
          signFrame s t g ∧ t.publisher.sweep = some { w with own := true } ∧ sameOutcome r r' ∧
          r'.desired = r.desired ∧ cycleStarts true s t g row r r')) := by
  intro c refused
  have service : SameService s (s.took c) := sameService_took s (by simp [c])
  have quiet : ∀ result data, ((s.took c).reply 0x39 tag result data).reports = [] := fun result data =>
    (reply_reports ..).trans steady.2
  refine ⟨fun bad => ?_, fun good out => ?_, fun good active stands sweep => ?_,
    fun good active stands idle b first => ?_⟩
  · exact taken_eq steady (signSweep_of_bad (s := s.took c) started bad) (quiet _ _)
  · refine taken_eq steady ((signSweep_of_good (s := s.took c) started good).trans ?_) (quiet _ _)
    exact if_pos (service.serves.trans (not_serves out))
  · have served : (s.took c).serves .signs .signsOutOfService = true :=
      service.serves.trans ((s.serves_iff ..).mpr ⟨active, stands⟩)
    refine taken_eq steady ((signSweep_of_good (s := s.took c) started good).trans ?_) (quiet _ _)
    rw [served]
    exact if_pos sweep
  · have served : (s.took c).serves .signs .signsOutOfService = true :=
      service.serves.trans ((s.serves_iff ..).mpr ⟨active, stands⟩)
    intro g w
    have free : ¬ (s.took c).publisher.sweep.isSome = true := by simp [idle]
    have takes : signSweep tag signs (s.took c) = sweepTake w (s.took c) := by
      rw [signSweep_of_good (s := s.took c) started good, served, if_neg (by simp), if_neg free]
    have position : w.signs[w.position]? = some g := by
      obtain ⟨rest, rfl⟩ := List.head?_eq_some_iff.mp first
      rfl
    have same : (s.took c).sign g = s.sign g := service.sign rfl
    refine ⟨fun absent => ?_, fun r hr row hrow => ⟨fun busy => ?_, fun rests => ?_⟩⟩
    · refine taken_eq steady (takes.trans ((sweepTake_of_absent position (same.trans absent)).trans ?_)) (quiet _ _)
      rw [sweepStop, withSweep_self none (s := s.took c) idle]
      simp [w]
    · exact taken_eq steady (takes.trans (sweepTake_of_busy position (same.trans hr) busy)) steady.2
    · have tried := attempted_startCycle (same.trans hr) ((service.signRow g).trans hrow)
      obtain ⟨-, ok⟩ := ok_of_signsOk kept (State.sign_eq_some.mp hr).2
      obtain ⟨r', record, -, outcome, desired, starts⟩ :=
        cycleStarts_of_attempted tried (ok.2.2.2.2.2.2.1 rests).2
      obtain ⟨mismatch, republish, attempts⟩ := starts
      have frame : signFrame (s.took c) (startCycle g (s.took c)) g := signFrame_of_attempted tried
      refine ⟨_, taken_eq steady (takes.trans (sweepTake_of_idle position (same.trans hr) rests))
        (tried.reports.trans steady.2), r', record, frame, rfl, outcome, desired, mismatch, republish, ?_⟩
      exact attempts_later attempts (later_withSweep ..) tried.grows

end Sys2Proof.Machine
end

section
/-!
SUPPORT. The end of a publication cycle at which a sweep stands: a sweep that waits starts its own cycle, and the end of
its own cycle stops it or takes it on (R161, R165).
-/

namespace Sys2Proof.Machine

/-! ### Equations -/

/-- A record whose cycle has ended. -/
def endedSign (s : State) (row : SignRow) (r : SignRec) : SignRec :=
  { r with
    phase := .idle, attempts := 0, nextPending := false, reply := none
    republish := some (s.now + seconds row.republish) }

/-- The end of a cycle with its pending cycle, before the sweep's part. -/
def afterEnd (g : Nat) (row : SignRow) (r : SignRec) (s : State) : State :=
  if r.nextPending then startCycle g (s.withSign g (endedSign s row r)) else s.withSign g (endedSign s row r)

section
variable {s : State} {g : Nat} {r : SignRec} {row : SignRow} {w : Sweep} (h : s.sign g = some r)
  (k : s.signRow g = some row) (sweep : s.publisher.sweep = some w) (stands : w.signs[w.position]? = some g)
include h k sweep stands

theorem cycleEnd_of_waiting (own : w.own = false) (status : SignStatus) :
    cycleEnd g status s =
      (startCycle g (s.withSign g (endedSign s row r))).withSweep (some { w with own := true }) := by
  simp only [cycleEnd, h, k, sweep, stands, own, if_true, Bool.false_eq_true, if_false]
  rfl

theorem cycleEnd_of_own (own : w.own = true) (status : SignStatus) :
    cycleEnd g status s = sweepOwnEnd w status (afterEnd g row r s) := by
  simp only [cycleEnd, h, k, sweep, stands, own, if_true]
  rfl

end

theorem later_signReport (g : Nat) (old : SignRec) (m : Bool) (s : State) : Later s (signReport g old m s) := by
  unfold signReport
  split
  · exact ⟨rfl, fun _ => rfl, rfl, lineGrows_of_line rfl⟩
  · split
    · exact ⟨rfl, fun _ => rfl, rfl, lineGrows_of_line rfl⟩
    · exact later_report ..

theorem sweep_signReport (g : Nat) (old : SignRec) (m : Bool) (s : State) :
    (signReport g old m s).publisher = s.publisher := by
  unfold signReport
  split
  · rfl
  · split <;> rfl

/-- An event's state after its SIGN report and the step's reports. -/
def reported (g : Nat) (old : SignRec) (m : Bool) (s : State) : State := flushReports (signReport g old m s)

theorem later_reported (g : Nat) (old : SignRec) (m : Bool) (s : State) : Later s (reported g old m s) :=
  (later_signReport g old m s).trans (later_flushReports _)

theorem sweep_reported (g : Nat) (old : SignRec) (m : Bool) (s : State) :
    (reported g old m s).publisher.sweep = s.publisher.sweep := by
  have left : (flushReports (signReport g old m s)).publisher = (signReport g old m s).publisher :=
    (lineTouched_publisher (lineTouched_flushReports _)).trans rfl
  rw [reported, left, sweep_signReport]

/-- What was offered at a port V that is sending is still in its queue. -/
theorem Later.queued {t u : State} (h : Later t u) {n : Nat} (room : t.room n) {l : LocalFrame}
    (mem : l ∈ t.line.portV.localQ) : l ∈ u.line.portV.localQ :=
  ((h.grows .v).2 room.1 room.2.1).2.subset mem

/-! ### The state in which a cycle ends -/

/-- The cycle of the sign `g`, with the record `r` in `s`, ends in the state `u`, with the record `x`. -/
structure Decided (s u : State) (g : Nat) (r x : SignRec) : Prop where
  service : SameService s u
  line : u.line = s.line
  sign : mapGet u.publisher.signs g = some x
  others : ∀ h, h ≠ g → mapGet u.publisher.signs h = mapGet s.publisher.signs h
  hold : ∀ p, u.publisher.hold p = s.publisher.hold p
  sweep : u.publisher.sweep = s.publisher.sweep
  published : x.published = r.published
  token : x.token = r.token
  pending : x.nextPending = r.nextPending

theorem attempts_congr {alone : Bool} {s s' t : State} {g : Nat} {row : SignRow} {n : Nat} {r q r' : SignRec}
    (h : attempts alone s t g row n r r') (service : SameService s' s) (line : s.line = s'.line)
    (hold : ∀ p, s.publisher.hold p = s'.publisher.hold p) (token : r.token = q.token)
    (published : r.published = q.published) (pending : r.nextPending = q.nextPending) :
    attempts alone s' t g row n q r' := by
  simpa only [attempts, attemptTaken, attemptHeld, State.takesAt, line, hold, token, published, pending,
    service.faceSet] using h

section
variable {s u : State} {g : Nat} {r x : SignRec} {row : SignRow} {w : Sweep} (decided : Decided s u g r x)
  (k : s.signRow g = some row) (sweep : s.publisher.sweep = some w) (stands : w.signs[w.position]? = some g)
include decided k

theorem Decided.present : u.signRow g = some row := (decided.service.signRow g).trans k

theorem Decided.record : u.sign g = some x := decided.service.sign_eq_some.mpr ⟨by rw [k]; rfl, decided.sign⟩

/-- The cycle that follows the end. -/
theorem Decided.next_attempted :
    Attempted false (u.withSign g (endedSign u row x)) (startCycle g (u.withSign g (endedSign u row x))) g row
      (freshSign (endedSign u row x)) :=
  attempted_startCycle (sign_withSign (decided.record k) _) (decided.present k)

include sweep stands

/-- A sweep that waits starts its own cycle, in place of a pending one. -/
theorem Decided.waiting_starts (own : w.own = false) (status : SignStatus) (old : SignRec) (m : Bool) :
    let t := reported g old m (cycleEnd g status u)
    t.publisher.sweep = some { w with own := true } ∧
      ∃ r' ∈ mapGet t.publisher.signs g, r'.status = x.status ∧ cycleStarts true s t g row r r' := by
  intro t
  have tried := decided.next_attempted k
  obtain ⟨r', record, -, ⟨status', -⟩, -, mismatch, republish, attempts⟩ := cycleStarts_of_attempted tried rfl
  have ends : cycleEnd g status u =
      (startCycle g (u.withSign g (endedSign u row x))).withSweep (some { w with own := true }) :=
    cycleEnd_of_waiting (decided.record k) (decided.present k) (decided.sweep.trans sweep) stands own status
  have later : Later (startCycle g (u.withSign g (endedSign u row x))) t := by
    simp only [t, ends]
    exact (later_withSweep ..).trans (later_reported ..)
  refine ⟨(sweep_reported ..).trans (by rw [ends]; rfl), r', by rw [later.signs]; exact record, status', mismatch,
    republish, ?_⟩
  refine attempts_congr (attempts_later attempts later tried.grows) ?_ decided.line ?_ decided.token
    decided.published rfl
  · exact decided.service.trans (sameService_withSign ..)
  · exact fun p => (State.hold_withSign ..).trans (decided.hold p)

end

/-! ### The end of the sweep's own cycle -/

theorem Attempted.room {front : Bool} {s t : State} {g : Nat} {row : SignRow} {r : SignRec} {n : Nat}
    (h : Attempted front s t g row r) (room : s.room (n + 1)) : t.room n := by
  obtain ⟨up, busy, places⟩ := room
  obtain ⟨up', grows⟩ := h.grows .v
  refine ⟨up'.trans up, (grows up busy).1, ?_⟩
  rcases e : row.port
  · have takes : s.takesAt row.port := by
      rw [e]
      exact .inr (Nat.lt_of_lt_of_le (by change s.line.portV.localQ.length < _; omega) places)
    have queued := h.queued (by rw [e]; exact up) (by rw [e]; exact busy) takes
    rw [e] at queued
    change (t.line.port .v).localQ.length + n ≤ _
    rw [queued, List.length_append, List.length_singleton]
    change s.line.portV.localQ.length + 1 + n ≤ _
    omega
  · have beside := h.beside
    rw [e] at beside
    change (t.line.port (opposite .s)).localQ.length + n ≤ _
    rw [beside]
    change s.line.portV.localQ.length + n ≤ _
    omega

/-- A REPLY of the sweep at a port V with room. -/
theorem sweepReply_of_room {s v : State} {n : Nat} (service : SameService s v) (room : v.room (n + 1))
    (code tag result : Byte) (data : Bytes) :
    ((v.withSweep none).reply code tag result data).publisher.sweep = none ∧
      ((v.withSweep none).reply code tag result data).room n ∧
      s.replyFrame code tag result data ∈ ((v.withSweep none).reply code tag result data).line.portV.localQ := by
  have room' : (v.withSweep none).room (n + 1) := room
  rw [reply_of_room room', (service.trans (sameService_withSweep v none)).replyFrame]
  exact ⟨rfl, room_queuedV room' _, by rw [queuedV_localQ]; exact List.mem_append_right _ List.mem_cons_self⟩

theorem attempts_beside {alone : Bool} {s s' t : State} {g : Nat} {row : SignRow} {n : Nat} {r q r' : SignRec}
    (h : attempts alone s t g row n r r') (token : r.token = q.token) (published : r.published = q.published)
    (pending : r.nextPending = q.nextPending) : attempts false s' t g row n q r' := by
  refine ⟨?_, fun no => nomatch no⟩
  simpa only [attemptTaken, attemptHeld, token, published, pending] using h.1

/-- What the end of a cycle and its pending cycle leave to the sweep. -/
structure Ended (s v : State) (g : Nat) (r : SignRec) : Prop where
  service : SameService s v
  room : ∀ n, s.room (n + 1) → v.room n
  others : ∀ h, h ≠ g → mapGet v.publisher.signs h = mapGet s.publisher.signs h
  rests : r.nextPending = false → ∃ y, mapGet v.publisher.signs g = some y ∧ y.phase = .idle ∧ y.nextPending = false ∧
    y.token = r.token ∧ y.published = r.published
  goesOn : r.nextPending = true → ∃ y, mapGet v.publisher.signs g = some y ∧ y.phase ≠ .idle

section
variable {s u v : State} {g : Nat} {r x : SignRec} {row : SignRow} {w : Sweep}

theorem Decided.ended (decided : Decided s u g r x) (k : s.signRow g = some row) :
    Ended s (afterEnd g row x u) g r := by
  have fresh : SameService s (u.withSign g (endedSign u row x)) := decided.service.trans (sameService_withSign ..)
  have rest : ∀ h, h ≠ g →
      mapGet (u.withSign g (endedSign u row x)).publisher.signs h = mapGet s.publisher.signs h := fun h n =>
    (State.get_withSign_of_ne _ _ n).trans (decided.others h n)
  have places : ∀ {n}, s.room n → (u.withSign g (endedSign u row x)).room n := fun {n} room => by
    unfold State.room at *
    rw [State.withSign_line, decided.line]
    exact room
  cases pending : x.nextPending
  · have still : afterEnd g row x u = u.withSign g (endedSign u row x) := if_neg (by simp [pending])
    rw [still]
    exact ⟨fresh, fun n room => places (room_mono room (Nat.le_succ n)), rest,
      fun _ => ⟨_, State.get_withSign .., rfl, rfl, decided.token, decided.published⟩,
      fun p => by simp [← decided.pending, pending] at p⟩
  · have goes : afterEnd g row x u = startCycle g (u.withSign g (endedSign u row x)) := if_pos pending
    have tried := decided.next_attempted k
    obtain ⟨y, record, busy, -⟩ := cycleStarts_of_attempted tried rfl
    rw [goes]
    exact ⟨fresh.trans tried.service, fun n room => tried.room (places room),
      fun h n => (tried.others h n).trans (rest h n), fun p => by simp [← decided.pending, pending] at p,
      fun _ => ⟨y, record, busy⟩⟩

/-- A sign at which the sweep can start a cycle: the one whose cycle has ended, or another that is IDLE. -/
def restsAfter (s : State) (g : Nat) (r : SignRec) (h : Nat) : Prop :=
  (h = g ∧ r.nextPending = false) ∨ (h ≠ g ∧ ∃ x ∈ s.sign h, x.phase = .idle)

theorem Ended.sign_of_rests (ended : Ended s v g r) (kept : SignsOk s) (sign : s.sign g = some r) {h : Nat}
    (rests : restsAfter s g r h) : ∃ y, v.sign h = some y ∧ y.phase = .idle ∧ y.nextPending = false ∧
      ∀ x ∈ s.sign h, y.token = x.token ∧ y.published = x.published := by
  rcases rests with ⟨rfl, none⟩ | ⟨other, x, record, idle⟩
  · obtain ⟨y, record, idle, pending, token, published⟩ := ended.rests none
    refine ⟨y, ended.service.sign_eq_some.mpr ⟨(State.sign_eq_some.mp sign).1, record⟩, idle, pending, fun x hx => ?_⟩
    rw [sign] at hx
    cases hx
    exact ⟨token, published⟩
  · obtain ⟨-, -, -, -, -, -, -, resting, -⟩ := ok_of_signsOk kept (State.sign_eq_some.mp record).2
    refine ⟨x, (ended.service.sign (ended.others h other)).trans record, idle, (resting idle).2, fun z hz => ?_⟩
    cases record.symm.trans hz
    exact ⟨rfl, rfl⟩

theorem Ended.sign_of_busy (ended : Ended s v g r) (sign : s.sign g = some r) {h : Nat}
    (present : (s.sign h).isSome = true) (busy : ¬ restsAfter s g r h) : ∃ y, v.sign h = some y ∧ y.phase ≠ .idle := by
  by_cases e : h = g
  · subst e
    have pending : r.nextPending = true := by
      by_contra none
      exact busy (.inl ⟨rfl, Bool.eq_false_iff.mpr none⟩)
    obtain ⟨y, record, busy⟩ := ended.goesOn pending
    exact ⟨y, ended.service.sign_eq_some.mpr ⟨(State.sign_eq_some.mp sign).1, record⟩, busy⟩
  · obtain ⟨x, record⟩ := Option.isSome_iff_exists.mp present
    exact ⟨x, (ended.service.sign (ended.others h e)).trans record, fun idle => busy (.inr ⟨e, x, record, idle⟩)⟩

/-- What a sweep does at its next sign, told from the state before the event. -/
theorem Ended.sweep_goes_on (ended : Ended s v g r) (kept : SignsOk s) (room : s.room 3) (sign : s.sign g = some r)
    {t : State} (later : Later (sweepTake w v) t)
    (sweep : t.publisher.sweep = (sweepTake w v).publisher.sweep) :
    (w.signs[w.position]? = none → t.publisher.sweep = none ∧
      s.replyFrame 0x39 w.tag done (byteOf w.signs.length) ∈ t.line.portV.localQ) ∧
    ∀ h ∈ w.signs[w.position]?,
      let idle := (h = g ∧ r.nextPending = false) ∨ (h ≠ g ∧ ∃ x ∈ s.sign h, x.phase = .idle)
      (s.sign h = none → t.publisher.sweep = none ∧
        s.replyFrame 0x39 w.tag stoppedResult
          (byteOf w.position ++ byteOf (w.signs.length - w.position) ++ [noTable]) ∈ t.line.portV.localQ) ∧
      ((s.sign h).isSome = true → idle →
        t.publisher.sweep = some { w with own := true } ∧
        ∀ x ∈ s.sign h, ∀ row' ∈ s.signRow h, ∃ r' ∈ mapGet t.publisher.signs h,
          cycleStarts false s t h row' x r') ∧
      ((s.sign h).isSome = true → ¬ idle → t.publisher.sweep = some { w with own := false }) := by
  have places : v.room 2 := ended.room 2 room
  refine ⟨fun none => ?_, fun h stands => ⟨fun absent => ?_, fun _ idle => ?_, fun present busy => ?_⟩⟩
  · rw [sweepTake_of_end none] at later sweep
    obtain ⟨stops, left, frame⟩ := sweepReply_of_room ended.service places 0x39 w.tag done (byteOf w.signs.length)
    exact ⟨sweep.trans stops, later.queued left frame⟩
  · have other : h ≠ g := fun e => by rw [e, sign] at absent; cases absent
    have gone : v.sign h = none := (ended.service.sign (ended.others h other)).trans absent
    rw [sweepTake_of_absent stands gone] at later sweep
    obtain ⟨stops, left, frame⟩ := sweepReply_of_room ended.service places 0x39 w.tag stoppedResult
      (byteOf w.position ++ byteOf (w.signs.length - w.position) ++ [noTable])
    exact ⟨sweep.trans stops, later.queued left frame⟩
  · obtain ⟨y, record, resting, pending, same⟩ := ended.sign_of_rests kept sign idle
    rw [sweepTake_of_idle stands record resting] at later sweep
    refine ⟨sweep, fun x hx row' hrow => ?_⟩
    have tried := attempted_startCycle record ((ended.service.signRow h).trans hrow)
    obtain ⟨r', made, -, -, -, mismatch, republish, attempts⟩ := cycleStarts_of_attempted tried pending
    have onwards := (later_withSweep (startCycle h v) (some { w with own := true })).trans later
    obtain ⟨token, published⟩ := same x hx
    exact ⟨r', by rw [onwards.signs]; exact made, mismatch, republish,
      attempts_beside (attempts_later attempts onwards tried.grows) token published rfl⟩
  · obtain ⟨y, record, going⟩ := ended.sign_of_busy sign present busy
    rw [sweepTake_of_busy stands record going] at sweep
    exact sweep

/-- The end of the sweep's own cycle, not confirmed, stops it. -/
theorem Decided.own_stops (decided : Decided s u g r x) (k : s.signRow g = some row)
    (sweep : s.publisher.sweep = some w) (stands : w.signs[w.position]? = some g) (room : s.room 3)
    (own : w.own = true) {status : SignStatus} (failed : status ≠ .confirmed) (old : SignRec) (m : Bool) :
    let t := reported g old m (cycleEnd g status u)
    t.publisher.sweep = none ∧ s.replyFrame 0x39 w.tag stoppedResult
      (byteOf w.position ++ byteOf (w.signs.length - w.position) ++ [stopReason status]) ∈ t.line.portV.localQ := by
  intro t
  have ended := decided.ended k
  have ends : cycleEnd g status u = sweepStop w (stopReason status) (afterEnd g row x u) :=
    (cycleEnd_of_own (decided.record k) (decided.present k) (decided.sweep.trans sweep) stands own status).trans
      (if_neg failed)
  obtain ⟨stops, left, frame⟩ := sweepReply_of_room ended.service (ended.room 2 room) 0x39 w.tag stoppedResult
    (byteOf w.position ++ byteOf (w.signs.length - w.position) ++ [stopReason status])
  simp only [t, ends]
  exact ⟨(sweep_reported ..).trans stops, (later_reported ..).queued left frame⟩

/-- The end of the sweep's own cycle, confirmed, takes it to its next sign. -/
theorem Decided.own_confirmed (decided : Decided s u g r x) (k : s.signRow g = some row)
    (sweep : s.publisher.sweep = some w) (stands : w.signs[w.position]? = some g) (own : w.own = true) :
    cycleEnd g .confirmed u =
      sweepTake { w with position := w.position + 1, own := false } (afterEnd g row x u) :=
  (cycleEnd_of_own (decided.record k) (decided.present k) (decided.sweep.trans sweep) stands own _).trans (if_pos rfl)

end

end Sys2Proof.Machine
end

section
/-!
SUPPORT. The events that end a publication cycle (R159, R160), and O58.
-/

namespace Sys2Proof.Machine

/-- A command ends the cycle of a sign with a status; its report and the step's reports follow. -/
def endsCycle (c : Instr) (s : State) (g : Nat) (r : SignRec) (status : SignStatus) : Prop :=
  ∃ u x m, exec c s = .next (reported g r m (cycleEnd g status u)) ∧ Decided s u g r x ∧ x.status = status

theorem decided_of_publisher {s u : State} {g : Nat} {r x : SignRec} (store : u.store = s.store)
    (line : u.line = s.line) (publisher : u.publisher = (s.withSign g x).publisher)
    (out : Instr.signsOutOfService ∈ u.handed ↔ Instr.signsOutOfService ∈ s.handed)
    (published : x.published = r.published) (token : x.token = r.token) (pending : x.nextPending = r.nextPending) :
    Decided s u g r x where
  service := ⟨store, by rw [publisher]; rfl, by rw [publisher]; rfl, by rw [publisher]; rfl,
    by rw [publisher]; rfl, out⟩
  line := line
  sign := by rw [publisher]; exact State.get_withSign ..
  others h n := by rw [publisher]; exact State.get_withSign_of_ne _ _ n
  hold p := by rw [publisher]; exact State.hold_withSign ..
  sweep := by rw [publisher]; rfl
  published := published
  token := token
  pending := pending

theorem failAttempt_of_third {g : Nat} {old r : SignRec} {s : State} (third : r.attempts = 3) :
    failAttempt g old r s = signReport g old r.mismatch
      (cycleEnd g (failedStatus r.mismatch) (s.withSign g { r with status := failedStatus r.mismatch })) :=
  if_neg (by rw [third]; decide)

section
variable {s : State} {g : Nat} {r : SignRec} (steady : s.steady) (sign : s.sign g = some r)
include steady sign

/-- The expiry of the reply timer after the third attempt. -/
theorem replyTimerExpiry_ends (timed : r.reply.isSome = true) (third : r.attempts = 3) :
    endsCycle (.replyTimerExpiry g) s g r (failedStatus r.mismatch) := by
  obtain ⟨e, reply⟩ := Option.isSome_iff_exists.mp timed
  have service : SameService s (s.took (.replyTimerExpiry g)) := sameService_took s (by simp)
  have here : (s.took (.replyTimerExpiry g)).sign g = some r := (service.sign rfl).trans sign
  have expires : replyExpired g (s.took (.replyTimerExpiry g)) =
      failAttempt g r { r with reply := none } ((s.took (.replyTimerExpiry g)).reach e) := by
    simp only [replyExpired, here, reply]
  refine ⟨((s.took (.replyTimerExpiry g)).reach e).withSign g { r with
      reply := none, status := failedStatus r.mismatch }, _, r.mismatch, (taken_of_steady steady).trans ?_,
    decided_of_publisher rfl rfl rfl service.out rfl rfl rfl, rfl⟩
  rw [expires]
  exact congrArg (fun t => Host.Outcome.next (flushReports t))
    (failAttempt_of_third (r := { r with reply := none }) third)

end

section
variable {s : State} {g : Nat} {r : SignRec} {row : SignRow} {a : Arrival} {f : FaceReport}

/-- A report's source names its sign. -/
theorem signAt_of_address (kept : SignsOk s) (sign : s.sign g = some r) (present : s.signRow g = some row)
    (names : row.address = a.source.toNat)
    (only : ∀ h, h < 24 → (∃ row' ∈ s.signRow h, row'.address = a.source.toNat) → h = g) :
    s.signAt a.source = some g := by
  have listed : g ∈ mapKeys s.publisher.signs :=
    List.mem_map_of_mem (mem_of_mapGet (State.sign_eq_some.mp sign).2)
  obtain ⟨h, found⟩ := Option.isSome_iff_exists.mp (List.find?_isSome.mpr ⟨g, listed, by
    simp [present, names]⟩ : ((mapKeys s.publisher.signs).find? fun g =>
      (s.signRow g).any fun row => row.address == a.source.toNat).isSome = true)
  obtain ⟨e, member, same⟩ := List.mem_map.mp (List.mem_of_find?_eq_some found)
  have named := List.find?_some found
  rw [Option.any_eq_true] at named
  obtain ⟨row', there, address⟩ := named
  have index : h < 24 := same ▸ (kept.2.1 e member).1
  rw [State.signAt, found, only h index ⟨row', there, eq_of_beq address⟩]

variable (sign : s.sign g = some r) (started : s.publisher.started = true)
  (at_sign : s.signAt a.source = some g) (passes : parseFaceReport a.payload = some f)
  (awaiting : r.phase = .awaiting) (token : f.token = r.token)
include sign started at_sign passes awaiting token

theorem takeReport_of_sign : takeReport a (s.took (.faceReport a)) =
    if f.face = r.published.face ∧ f.level = r.published.level then
      confirmAttempt g r { r with reply := none, condition := f.condition } f.face f.level (s.took (.faceReport a))
    else failAttempt g r { r with reply := none, condition := f.condition, mismatch := true }
      (s.took (.faceReport a)) := by
  have service : SameService s (s.took (.faceReport a)) := sameService_took s (by simp)
  have here : (s.took (.faceReport a)).sign g = some r := (service.sign rfl).trans sign
  have source : (s.took (.faceReport a)).signAt a.source = some g := by
    have rows : (s.took (.faceReport a)).signRow = s.signRow := funext service.signRow
    rw [← at_sign, State.signAt, rows]
    rfl
  simp only [takeReport, took_publisher, started, passes, source, reportAt, here, awaiting, token, and_self, if_true]

variable (steady : s.steady)
include steady

/-- A FACE REPORT that does not match after the third attempt. -/
theorem faceReport_fails (third : r.attempts = 3)
    (differs : ¬ (f.face = r.published.face ∧ f.level = r.published.level)) :
    endsCycle (.faceReport a) s g r .fault := by
  have service : SameService s (s.took (.faceReport a)) := sameService_took s (by simp)
  refine ⟨(s.took (.faceReport a)).withSign g { r with
      reply := none, condition := f.condition, mismatch := true, status := .fault }, _, true,
    (taken_of_steady steady).trans ?_, decided_of_publisher rfl rfl rfl service.out rfl rfl rfl, rfl⟩
  rw [takeReport_of_sign sign started at_sign passes awaiting token, if_neg differs]
  exact congrArg (fun t => Host.Outcome.next (flushReports t))
    (failAttempt_of_third (r := { r with reply := none, condition := f.condition, mismatch := true }) third)

/-- A FACE REPORT that matches. -/
theorem faceReport_confirms (matching : f.face = r.published.face ∧ f.level = r.published.level) :
    endsCycle (.faceReport a) s g r .confirmed := by
  have service : SameService s (s.took (.faceReport a)) := sameService_took s (by simp)
  refine ⟨((s.took (.faceReport a)).withSign g { r with
      reply := none, condition := f.condition, status := .confirmed, confirmed := some (f.face, f.level) }).hand
      (.confirmationNotice g f.face), _, r.mismatch, (taken_of_steady steady).trans ?_,
    decided_of_publisher rfl rfl rfl ?_ rfl rfl rfl, rfl⟩
  · rw [takeReport_of_sign sign started at_sign passes awaiting token, if_pos matching]
    rfl
  · rw [State.hand_handed, List.mem_append]
    exact (or_iff_left (by simp)).trans service.out

end

/-! ### The sweep at the end of a cycle -/

section
variable {c : Instr} {s : State} {g : Nat} {r : SignRec} {row : SignRow} {w : Sweep} {status : SignStatus}
  (ends : endsCycle c s g r status) (k : s.signRow g = some row) (sweep : s.publisher.sweep = some w)
  (stands : w.signs[w.position]? = some g)
include ends k sweep stands

theorem sweep_takes_over (own : w.own = false) : completes c s fun t =>
    t.publisher.sweep = some { w with own := true } ∧
      ∃ r' ∈ mapGet t.publisher.signs g, r'.status = status ∧ cycleStarts true s t g row r r' := by
  obtain ⟨u, x, m, runs, decided, rfl⟩ := ends
  exact ⟨_, runs, decided.waiting_starts k sweep stands own x.status r m⟩

theorem sweep_stops (own : w.own = true) (room : s.room 3) (failed : status ≠ .confirmed) : completes c s fun t =>
    t.publisher.sweep = none ∧ s.replyFrame 0x39 w.tag stoppedResult
      (byteOf w.position ++ byteOf (w.signs.length - w.position) ++ [stopReason status]) ∈ t.line.portV.localQ := by
  obtain ⟨u, x, m, runs, decided, -⟩ := ends
  exact ⟨_, runs, decided.own_stops k sweep stands room own failed r m⟩

end

/-- The sweep's own cycle confirmed: it goes on to its next sign. -/
theorem sweep_goes_on {c : Instr} {s : State} {g : Nat} {r : SignRec} {row : SignRow} {w : Sweep}
    (ends : endsCycle c s g r .confirmed) (k : s.signRow g = some row) (sweep : s.publisher.sweep = some w)
    (stands : w.signs[w.position]? = some g) (own : w.own = true) (room : s.room 3) (kept : SignsOk s)
    (sign : s.sign g = some r) :
    let next := w.position + 1
    completes c s fun t =>
      (w.signs[next]? = none → t.publisher.sweep = none ∧
        s.replyFrame 0x39 w.tag done (byteOf w.signs.length) ∈ t.line.portV.localQ) ∧
      ∀ h ∈ w.signs[next]?,
        (s.sign h = none → t.publisher.sweep = none ∧
          s.replyFrame 0x39 w.tag stoppedResult
            (byteOf next ++ byteOf (w.signs.length - next) ++ [noTable]) ∈ t.line.portV.localQ) ∧
        ((s.sign h).isSome = true → restsAfter s g r h →
          t.publisher.sweep = some { w with position := next, own := true } ∧
          ∀ x ∈ s.sign h, ∀ row' ∈ s.signRow h, ∃ r' ∈ mapGet t.publisher.signs h,
            cycleStarts false s t h row' x r') ∧
        ((s.sign h).isSome = true → ¬ restsAfter s g r h →
          t.publisher.sweep = some { w with position := next, own := false }) := by
  obtain ⟨u, x, m, runs, decided, -⟩ := ends
  rw [decided.own_confirmed k sweep stands own] at runs
  exact ⟨_, runs, (decided.ended k).sweep_goes_on (w := { w with position := w.position + 1, own := false }) kept
    room sign (later_reported ..) (sweep_reported ..)⟩

/-- Settles O58: the hold list by induction from its head; SIGN SWEEP by R164's tests; the end of a cycle by whether it
is the sweep's own, and then by the sweep's next sign. -/
theorem holdListsAndSweepsGoInOrder : Obligations.HoldListsAndSweepsGoInOrder := by
  refine ⟨spaceSignal_serves, signSweep_taken, fun g a s steady kept room index started w sweep stands r sign row
    present awaiting => ?_⟩
  intro c d reports next
  have expires : r.attempts = 3 → endsCycle c s g r (failedStatus r.mismatch) := by
    obtain ⟨-, timed, -⟩ := ok_of_signsOk kept (State.sign_eq_some.mp sign).2
    exact replyTimerExpiry_ends steady sign (timed.mpr awaiting)
  have fails : r.attempts = 3 → reports false → endsCycle d s g r .fault := by
    rintro third ⟨names, only, f, passes, token, shown⟩
    exact faceReport_fails sign started (signAt_of_address kept sign present names only) passes awaiting token steady
      third fun same => nomatch shown.mpr same
  have confirms : reports true → endsCycle d s g r .confirmed := by
    rintro ⟨names, only, f, passes, token, shown⟩
    exact faceReport_confirms sign started (signAt_of_address kept sign present names only) passes awaiting token steady
      (shown.mp rfl)
  refine ⟨fun own => ⟨fun third => ?_, fun third shown => ?_, fun shown => ?_⟩, fun own => ?_⟩
  · exact sweep_takes_over (expires third) present sweep stands own
  · exact sweep_takes_over (fails third shown) present sweep stands own
  · exact sweep_takes_over (confirms shown) present sweep stands own
  intro stopped
  refine ⟨fun third => ⟨?_, fun shown => ?_⟩, fun shown => ?_⟩
  · have reason : stopReason (failedStatus r.mismatch) =
        if r.mismatch = true then reasonFault else reasonUnreachable := by
      cases r.mismatch <;> rfl
    have failed : failedStatus r.mismatch ≠ .confirmed := by cases r.mismatch <;> simp [failedStatus]
    rw [← reason]
    exact sweep_stops (expires third) present sweep stands own room failed
  · exact sweep_stops (fails third shown) present sweep stands own room (by simp)
  · obtain ⟨t, runs, last, goes⟩ := sweep_goes_on (confirms shown) present sweep stands own room kept sign
    exact ⟨t, runs, fun all => last (List.getElem?_eq_none (Nat.le_of_eq all.symm)), goes⟩

end Sys2Proof.Machine
end

section
/-!
SUPPORT. The table requests at the Table Store: what a request without a region, a refused one and a reading one
answer; the settled statements on OPEN REGION, WRITE ROWS, READ ROWS, BLANK CHECK and SITE READ.
-/

namespace Sys2Proof.Machine

/-! ### The region a request names (R22) -/

theorem regionOf_of_number {n : Byte} {r : Region} (h : n.toNat = Region.number r) : regionOf n = some r := by
  unfold regionOf
  rw [h]
  cases r <;> rfl

theorem regionOf_of_large {n : Byte} (h : 6 < n.toNat) : regionOf n = none :=
  List.getElem?_eq_none h

theorem onRegion_of_number {n : Byte} {r : Region} (h : n.toNat = Region.number r) (code tag : Byte)
    (f : Region → State → State) (s : State) : onRegion code tag n f s = f r s := by
  rw [onRegion, regionOf_of_number h]

theorem capacity_le (r : Region) : Region.capacity r ≤ 96 := by cases r <;> decide

theorem took_steady {s : State} (h : s.steady) (c : Instr) : (s.took c).steady := h

theorem reply_steady {s : State} (h : s.steady) (code tag result : Byte) (data : Bytes) :
    (s.reply code tag result data).steady :=
  ⟨(lineTouched_power (lineTouched_reply ..)).trans h.1, (reply_reports ..).trans h.2⟩

section
variable {c : Instr} {code tag region : Byte} {s : State} (steady : s.steady) (free : s.store.clearing = none)
include steady free

/-- A request that finds no CLEAR ALL under way is taken; one that asks for no report leaves its effect. -/
theorem taken_whenFree {f : State → State} {t : State} (e : f (s.took c) = t) (quiet : t.reports = []) :
    taken c (whenFree c f) s = .next t :=
  taken_eq steady ((whenFree_of_free (s := s.took c) free).trans e) quiet

/-- A request that answers with a REPLY alone. -/
theorem taken_answers {f : State → State} {result : Byte} {data : Bytes}
    (e : f (s.took c) = (s.took c).reply code tag result data) :
    taken c (whenFree c f) s = .next ((s.took c).reply code tag result data) :=
  taken_whenFree steady free e ((reply_reports ..).trans steady.2)

/-- A region number above 6 names no region. -/
theorem taken_noRegion (f : Region → State → State) (h : 6 < region.toNat) :
    taken c (whenFree c (onRegion code tag region f)) s = .next ((s.took c).reply code tag badArgument []) :=
  taken_answers steady free (by rw [onRegion, regionOf_of_large h])

/-- A request that names a region and answers with a REPLY alone. -/
theorem taken_regionAnswers {f : Region → State → State} {r : Region} {result : Byte} {data : Bytes}
    (h : region.toNat = Region.number r) (e : f r (s.took c) = (s.took c).reply code tag result data) :
    taken c (whenFree c (onRegion code tag region f)) s = .next ((s.took c).reply code tag result data) :=
  taken_answers steady free ((onRegion_of_number h ..).trans e)

/-- A request that names a region leaves its effect on it, with the reports it asks for. -/
theorem taken_onRegion {f : Region → State → State} {r : Region} (h : region.toNat = Region.number r) :
    taken c (whenFree c (onRegion code tag region f)) s = .next (flushReports (f r (s.took c))) := by
  rw [taken_of_steady steady, whenFree_of_free (show (s.took c).store.clearing = none from free),
    onRegion_of_number h]

end

/-! ### OPEN REGION (R23) -/

section
variable {tag count : Byte} {r : Region} {s : State}

theorem openRegion_of_used (h : (s.region r).header.state ≠ .empty) :
    openRegion tag count r s = s.reply 0x01 tag wrongState [] := if_pos h

theorem openRegion_of_badCount (h : (s.region r).header.state = .empty)
    (k : count.toNat = 0 ∨ Region.capacity r < count.toNat) :
    openRegion tag count r s = s.reply 0x01 tag badArgument [] := by
  have out : within count.toNat 1 (Region.capacity r) = false := by simp [within]; omega
  rw [openRegion, if_neg (not_not.mpr h), if_pos out]

theorem openRegion_of_count (h : (s.region r).header.state = .empty) (low : 1 ≤ count.toNat)
    (high : count.toNat ≤ Region.capacity r) :
    openRegion tag count r s =
      (s.withHeader r { state := .opened, count := count.toNat, check := 0 }).reply 0x01 tag done [] := by
  have inside : within count.toNat 1 (Region.capacity r) = true := by simp [within, low, high]
  rw [openRegion, if_neg (not_not.mpr h), if_neg (by simp [inside])]

end

/-! ### WRITE ROWS (R24) -/

/-- A row written changes no other row's test. -/
theorem rowPasses_withRow {r : Region} {s : State} {i j : Nat} (row : Bytes) (h : j ≠ i) :
    RowPasses ((s.withRow r i row).region r) j ↔ RowPasses (s.region r) j := by
  simp [RowPasses, State.withRow, readRow_writeRow_of_ne _ _ h]

/-- The reason for which a row is not written. -/
def refusalReason (x : RegionRecord) (i : Nat) : Byte := if x.header.count ≤ i then badArgument else notBlank

theorem rowRefusal_of_not {x : RegionRecord} {i : Nat} (h : ¬ RowPasses x i) :
    rowRefusal x i = some (refusalReason x i) := by
  rw [rowPasses_iff] at h
  unfold rowRefusal refusalReason at *
  split <;> simp_all

/-- Where the rows of a request stop, the row that fails and its reason are told, with the number of rows left. -/
theorem writeRows_told {r : Region} {first k : Nat} {rows : List Bytes} {s : State} (inside : k ≤ rows.length)
    (passed : ∀ i, i < k → RowPasses (s.region r) (first + i))
    (stops : k < rows.length → ¬ RowPasses (s.region r) (first + k)) :
    (writeRows r first rows s).2 =
      if k = rows.length then none
      else some (refusalReason (s.region r) (first + k), first + k, rows.length - k) := by
  induction rows generalizing first k s with
  | nil => simp_all [writeRows]
  | cons row rest ih =>
    rcases k with _ | k
    · have fails := rowRefusal_of_not (stops (by simp))
      simp only [Nat.add_zero] at fails
      simp [writeRows, fails]
    · have first_passes := passed 0 (by omega)
      rw [Nat.add_zero, rowPasses_iff] at first_passes
      have reason : refusalReason ((s.withRow r first row).region r) = refusalReason (s.region r) := by
        funext i
        simp [refusalReason, State.withRow]
      have shift : ∀ j, first + 1 + j = first + (j + 1) := by omega
      have rest_told := ih (first := first + 1) (k := k) (s := s.withRow r first row) (by simpa using inside)
        (fun i hi => (rowPasses_withRow row (by omega)).mpr (shift i ▸ passed (i + 1) (by omega)))
        (fun hk => mt (rowPasses_withRow row (by omega)).mp (shift k ▸ stops (by simpa using hk)))
      simp [writeRows, first_passes, rest_told, reason, shift]

/-- What a WRITE ROWS answers that has written the first `k` of `n` rows from the row `first` on. -/
def writeResult (x : RegionRecord) (first n k : Nat) : Byte × Bytes :=
  if k = n then (done, [0]) else (refusalReason x (first + k), byteOf (first + k) ++ byteOf (n - k))

/-- WRITE ROWS of an OPEN region: the first `k` rows are written, and the REPLY tells the row that failed. -/
theorem writeRequest_of_opened {tag first count : Byte} {rows : List Bytes} {r : Region} {s : State} {k : Nat}
    (opened : (s.region r).header.state = .opened) (low : 1 ≤ count.toNat) (high : count.toNat ≤ 3)
    (len : rows.length = count.toNat) (inside : k ≤ count.toNat) (passed : ∀ i, i < k → RowPasses (s.region r) (first.toNat + i))
    (stops : k < count.toNat → ¬ RowPasses (s.region r) (first.toNat + k)) :
    ∃ t, RowsWritten r first.toNat k rows s t ∧
      writeRequest tag first count rows r s =
        t.reply 0x02 tag (writeResult (s.region r) first.toNat count.toNat k).1
          (writeResult (s.region r) first.toNat count.toNat k).2 := by
  have fits : within count.toNat 1 3 = true := by simp [within, low, high]
  have all : rows.take count.toNat = rows := by rw [← len]; exact List.take_length
  rw [writeRequest, if_neg (not_not.mpr opened), if_neg (by simp [fits]), all]
  obtain ⟨m, written, ends⟩ := writeRows_spec r first.toNat rows s
  have reached : m = k := by
    rcases Nat.lt_trichotomy m k with less | same | more
    · rcases ends with ⟨_, whole⟩ | ⟨_, _, refused⟩
      · omega
      · exact absurd ((rowPasses_iff ..).mp (passed m less)) refused
    · exact same
    · exact absurd ((rowPasses_iff ..).mpr (written.passed k more)) (stops (by have := written.count; omega))
  subst reached
  have told := writeRows_told (rows := rows) (by rw [len]; exact inside) passed (by rw [len]; exact stops)
  rw [len] at told
  rcases e : writeRows r first.toNat rows s with ⟨t, failure⟩
  rw [e] at written told
  refine ⟨t, written, ?_⟩
  dsimp only at told
  subst told
  by_cases whole : m = count.toNat
  · simp [writeResult, whole, byteOf]
  · simp [writeResult, whole]

theorem writeRequest_of_closed {tag first count : Byte} {rows : List Bytes} {r : Region} {s : State}
    (h : (s.region r).header.state ≠ .opened) :
    writeRequest tag first count rows r s = s.reply 0x02 tag wrongState [] := if_pos h

theorem writeRequest_of_badCount {tag first count : Byte} {rows : List Bytes} {r : Region} {s : State}
    (h : (s.region r).header.state = .opened) (k : count.toNat = 0 ∨ 3 < count.toNat) :
    writeRequest tag first count rows r s = s.reply 0x02 tag badArgument [] := by
  have out : within count.toNat 1 3 = false := by simp [within]; omega
  rw [writeRequest, if_neg (not_not.mpr h), if_pos out]

/-! ### An offer leaves the Table Store, and does not read its regions -/

theorem select_withStore (p : Port) (s : State) (x : TableStore) :
    select p (s.withStore x) = (select p s).withStore x := by
  unfold select
  have same : (s.withStore x).selects p = s.selects p := rfl
  rw [same]
  split
  · show (match chooseFrame (s.line.port p) with | none => _ | some (.own _, q) => _ | some (.passing _, q) => _) = _
    rcases chooseFrame (s.line.port p) with _ | ⟨_ | _, q⟩ <;> rfl
  · rfl

theorem offer_withStore (p : Port) (l : LocalFrame) (s : State) (x : TableStore) :
    offer p l (s.withStore x) = ((offer p l s).1.withStore x, (offer p l s).2) := by
  rcases offer_cases p s with down | ⟨up, room⟩ | ⟨up, full⟩
  · rw [offer_of_down down, offer_of_down (s := s.withStore x) down]
    dsimp only
    split <;> rfl
  · rw [offer_of_room up room, offer_of_room (s := s.withStore x) up room]
    exact congrArg (·, _) (select_withStore p (s.withLine _) x)
  · rw [offer_of_full up full, offer_of_full (s := s.withStore x) up full]
    dsimp only
    split <;> rfl

theorem reply_withRegion (s : State) (r : Region) (x : RegionRecord) (code tag result : Byte) (data : Bytes) :
    (s.withRegion r x).reply code tag result data = (s.reply code tag result data).withRegion r x := by
  have store : (s.reply code tag result data).store = s.store := lineTouched_store (lineTouched_reply ..)
  unfold State.withRegion
  rw [store]
  exact congrArg Prod.fst (offer_withStore .v _ s { s.store with regions := s.store.regions.set r x })

/-- A REPLY does not see a region's record. -/
theorem OnlyRegion.reply_line {r : Region} {s t : State} (h : OnlyRegion r s t) (code tag result : Byte) (data : Bytes) :
    (t.reply code tag result data).line = (s.reply code tag result data).line := by
  rw [h, reply_withRegion]
  rfl

theorem reply_region (s : State) (r : Region) (code tag result : Byte) (data : Bytes) :
    (s.reply code tag result data).region r = s.region r := by
  rw [State.region, lineTouched_store (lineTouched_reply ..), State.region]

/-! ### READ ROWS and BLANK CHECK (R25, R26) -/

section
variable {tag first count : Byte} {r : Region} {s : State}

theorem readRequest_of_badRange (h : count.toNat = 0 ∨ 3 < count.toNat ∨ Region.capacity r < first.toNat + count.toNat) :
    readRequest tag first count r s = s.reply 0x03 tag badArgument [] := by
  refine if_pos ?_
  by_cases beyond : Region.capacity r < first.toNat + count.toNat
  · exact .inr beyond
  · exact .inl (by simp [within]; omega)

theorem readRequest_of_range (low : 1 ≤ count.toNat) (high : count.toNat ≤ 3)
    (range : first.toNat + count.toNat ≤ Region.capacity r) :
    readRequest tag first count r s = s.reply 0x03 tag done
      (byteOf (RegionState.num (s.region r).header.state) ++ byteOf (s.region r).header.count ++ [count] ++
        (List.range count.toNat).flatMap fun i => readRow (s.region r).rows (first.toNat + i)) := by
  refine if_neg ?_
  simp [within, low, high]
  omega

/-- One to three rows in order. -/
theorem flatMap_range_three (f : Nat → Bytes) {n : Nat} (low : 1 ≤ n) (high : n ≤ 3) :
    (List.range n).flatMap f = f 0 ++ (if 2 ≤ n then f 1 else []) ++ (if 3 ≤ n then f 2 else []) := by
  obtain rfl | rfl | rfl : n = 1 ∨ n = 2 ∨ n = 3 := by omega
  all_goals simp [List.range_succ]

theorem firstWritten_eq_none {rows : Map Bytes} :
    firstWritten r rows = none ↔ ∀ i, i < Region.capacity r → readRow rows i = blankRow := by
  simp [firstWritten, rowBlank_iff]

theorem firstWritten_eq_some {rows : Map Bytes} {i : Nat} (inside : i < Region.capacity r)
    (written : readRow rows i ≠ blankRow) (before : ∀ j, j < i → readRow rows j = blankRow) :
    firstWritten r rows = some i := by
  rw [firstWritten, List.find?_range_eq_some]
  simpa [rowBlank_iff, ← Bool.not_eq_true] using ⟨written, inside, before⟩

end

/-! ### The settled statements -/

/-- Settles O26: the tests of OPEN REGION in their order. -/
theorem openRegionTakesAnEmptyRegion : Obligations.OpenRegionTakesAnEmptyRegion := by
  intro tag region count s steady free
  refine ⟨taken_noRegion steady free _, fun r _ number => ⟨fun used => ?_, fun empty bad => ?_, fun empty low high => ?_⟩⟩
  · exact taken_regionAnswers steady free number (openRegion_of_used (by simpa using used))
  · exact taken_regionAnswers steady free number (openRegion_of_badCount (by simpa using empty) bad)
  · refine taken_whenFree steady free ((onRegion_of_number number ..).trans ?_) ?_
    · rw [openRegion_of_count (by simpa using empty) low high, State.withHeader, took_region]
    · exact (reply_reports ..).trans steady.2

/-- Settles O27: the rows are written up to the first that fails its test, and a REPLY does not see them. -/
theorem writeRowsStopsAtTheFirstRowThatFails : Obligations.WriteRowsStopsAtTheFirstRowThatFails := by
  intro tag region first count rows s steady free ok
  refine ⟨taken_noRegion steady free _, fun r _ number =>
    ⟨fun closed => ?_, fun opened bad => ?_, fun opened low high k _ inside passed stops => ?_⟩⟩
  · exact taken_regionAnswers steady free number (writeRequest_of_closed (by simpa using closed))
  · exact taken_regionAnswers steady free number (writeRequest_of_badCount (by simpa using opened) bad)
  · have sizes : rows.length = count.toNat ∧ ∀ row ∈ rows, row.length = 32 := by simpa [rowsOk] using ok
    obtain ⟨t, written, answer⟩ := writeRequest_of_opened (tag := tag) (s := s.took (.writeRows tag region first count rows))
      (by simpa using opened) low high sizes.1 inside (by simpa [RowPasses] using passed)
      (fun short pass => (stops short).elim (fun h => absurd pass.1 (by simpa using h))
        (fun h => h (by simpa using pass.2)))
    have effect : onRegion 0x02 tag region (writeRequest tag first count rows) (s.took _) = _ :=
      (onRegion_of_number number ..).trans answer
    refine ⟨_, taken_whenFree steady free effect ?_, ?_⟩
    · rw [reply_reports, written.only]
      exact steady.2
    · obtain ⟨elsewhere, site⟩ := written.only.elsewhere
      have read := written.read
      simp only [readWritten, took_region] at read elsewhere
      refine ⟨?_, fun i hi => ?_, fun i _ out => ?_, fun q hq other => ?_, ?_, ?_⟩
      · rw [reply_region]
        simpa using written.header
      · rw [reply_region, read, if_pos (by omega), Nat.add_sub_cancel_left]
        have listed : i < rows.length := by omega
        rw [List.getD_eq_getElem _ _ listed]
        exact asRow_of_length (sizes.2 _ (List.getElem_mem listed))
      · rw [reply_region, read, if_neg (by omega)]
      · rw [reply_region]
        exact elsewhere q hq other
      · rw [lineTouched_store (lineTouched_reply ..)]
        exact site
      · rw [written.only.reply_line, writeResult, refusalReason, took_region]
        split <;> rfl

/-- Settles O28: each request answers from the state it finds. -/
theorem rowsAndFieldsReadBackAsStored : Obligations.RowsAndFieldsReadBackAsStored := by
  refine ⟨fun tag region first count s steady free => ?_, fun tag region s steady free => ?_, fun tag s steady free => ?_⟩
  · refine ⟨taken_noRegion steady free _, fun r _ number => ⟨fun bad => ?_, fun low high range => ?_⟩⟩
    · exact taken_regionAnswers steady free number (readRequest_of_badRange bad)
    · refine taken_regionAnswers steady free number ?_
      rw [readRequest_of_range low high range, flatMap_range_three _ low high]
      simp
  · refine ⟨taken_noRegion steady free _, fun r _ number => ⟨fun blank => ?_, fun i inside written before => ?_⟩⟩
    · refine taken_regionAnswers steady free number ?_
      rw [blankRequest, took_region, firstWritten_eq_none.mpr blank]
    · refine taken_regionAnswers steady free number ?_
      rw [blankRequest, took_region, firstWritten_eq_some inside written before]
  · refine taken_answers steady free ?_
    simp [siteData, siteFields, SiteRecord.get]

end Sys2Proof.Machine
end

section
/-!
SUPPORT. ACTIVATE REGION (R27 to R30): the check, the first row that is not valid, and the first that conflicts with
one before it.
-/

namespace Sys2Proof.Machine

/-! ### The present rows (R20) -/

/-- The present row of an index, with its index. -/
def presentAt (rows : Map Bytes) (i : Nat) : Map Bytes := if rowBlank rows i then [] else [(i, readRow rows i)]

theorem presentRows_succ (n : Nat) (rows : Map Bytes) :
    presentRows (n + 1) rows = presentRows n rows ++ presentAt rows n := by
  have below : ∀ i ∈ List.range n, presentIn (n + 1) rows i = presentIn n rows i := by
    intro i hi
    have := List.mem_range.mp hi
    simp [presentIn, this, Nat.lt_succ_of_lt this]
  rw [presentRows, List.range_succ, List.filterMap_append, presentRows]
  congr 1
  · exact List.filterMap_congr fun i hi => by rw [below i hi]
  · by_cases blank : rowBlank rows n = true <;> simp [presentAt, presentIn, blank]

/-- The present rows before an index. -/
def rowsBefore (rows : Map Bytes) (i : Nat) : List Bytes :=
  ((List.range i).map (readRow rows)).filter fun row => row != blankRow

theorem presentRows_snd (n : Nat) (rows : Map Bytes) : (presentRows n rows).map Prod.snd = rowsBefore rows n := by
  induction n with
  | zero => rfl
  | succ n ih =>
    rw [presentRows_succ, List.map_append, ih, rowsBefore, rowsBefore, List.range_succ]
    by_cases blank : readRow rows n = blankRow <;> simp [presentAt, rowBlank, blank]

/-- An index whose row is present and of which something is told. -/
def presentWith (rows : Map Bytes) (p : Nat → Bool) (i : Nat) : Bool := !rowBlank rows i && p i

theorem firstInvalid_eq (r : Region) (n : Nat) (rows : Map Bytes) :
    firstInvalid r (presentRows n rows) =
      (List.range n).find? (presentWith rows fun i => !rowValid r (readRow rows i)) := by
  induction n with
  | zero => rfl
  | succ n ih =>
    unfold firstInvalid at *
    rw [presentRows_succ, List.find?_append, Option.map_or, ih, List.range_succ, List.find?_append]
    congr 1
    by_cases blank : rowBlank rows n = true <;> by_cases valid : rowValid r (readRow rows n) = true <;>
      simp [presentAt, presentWith, blank, valid]

theorem firstConflict_append (r : Region) (earlier : List Bytes) (a b : List (Nat × Bytes)) :
    firstConflict r earlier (a ++ b) =
      (firstConflict r earlier a).or (firstConflict r (earlier ++ a.map Prod.snd) b) := by
  induction a generalizing earlier with
  | nil => simp [firstConflict]
  | cons e a ih =>
    simp only [List.cons_append, firstConflict, List.map_cons]
    split
    · rfl
    · rw [ih, List.append_assoc, List.singleton_append]

theorem firstConflict_eq (r : Region) (n : Nat) (rows : Map Bytes) :
    firstConflict r [] (presentRows n rows) =
      (List.range n).find? (presentWith rows fun i => rowConflict r (rowsBefore rows i) (readRow rows i)) := by
  induction n with
  | zero => rfl
  | succ n ih =>
    rw [presentRows_succ, firstConflict_append, ih, List.range_succ, List.find?_append, List.nil_append,
      presentRows_snd]
    congr 1
    by_cases blank : rowBlank rows n = true <;>
      by_cases clash : rowConflict r (rowsBefore rows n) (readRow rows n) = true <;>
        simp [presentAt, presentWith, firstConflict, blank, clash]

section
variable {rows : Map Bytes} {p : Nat → Bool} {n : Nat}

theorem findPresent_eq_none :
    (List.range n).find? (presentWith rows p) = none ↔ ∀ i, i < n → readRow rows i ≠ blankRow → p i = false := by
  simp [presentWith, ← rowBlank_iff]

theorem findPresent_eq_some {i : Nat} (inside : i < n) (present : readRow rows i ≠ blankRow) (found : p i = true)
    (before : ∀ j, j < i → readRow rows j ≠ blankRow → p j = false) :
    (List.range n).find? (presentWith rows p) = some i := by
  rw [List.find?_range_eq_some]
  simp only [presentWith, List.mem_range, Bool.and_eq_true, Bool.not_eq_true', Bool.not_and, Bool.not_not,
    Bool.or_eq_true]
  refine ⟨⟨?_, found⟩, inside, fun j hj => ?_⟩
  · simpa [← rowBlank_iff] using present
  · by_cases blank : readRow rows j = blankRow
    · exact .inl ((rowBlank_iff ..).mpr blank)
    · exact .inr (before j hj blank)

end

/-! ### The check (R27) -/

/-- The sum of every byte of the declared rows. -/
def byteSum (n : Nat) (rows : Map Bytes) : Nat :=
  ((List.range n).flatMap fun i => (readRow rows i).map BitVec.toNat).sum

theorem regionCheck_eq (n : Nat) (rows : Map Bytes) : regionCheck n rows = BitVec.ofNat 16 (byteSum n rows) := by
  unfold regionCheck byteSum
  rw [List.flatMap_def, List.sum_flatten, List.map_map]
  rfl

theorem regionCheck_eq_iff (n : Nat) (rows : Map Bytes) (check : BitVec 16) :
    regionCheck n rows = check ↔ byteSum n rows % 65536 = check.toNat := by
  rw [regionCheck_eq, ← BitVec.toNat_inj, BitVec.toNat_ofNat]

theorem be_two_mod (v : Nat) : be 2 (v % 65536) = be 2 v := by
  simp only [be, List.nil_append]
  congr 2
  · apply BitVec.eq_of_toNat_eq; simp only [BitVec.toNat_ofNat]; omega
  · apply BitVec.eq_of_toNat_eq; simp only [BitVec.toNat_ofNat]; omega

/-! ### The three stages (R27 to R29) -/

section
variable {r : Region} {check : BitVec 16} {x : RegionRecord}

theorem activationRefusal_of_closed (h : x.header.state ≠ .opened) :
    activationRefusal r check x = some (wrongState, []) := if_pos h

theorem activationRefusal_of_mismatch (h : x.header.state = .opened)
    (k : byteSum x.header.count x.rows % 65536 ≠ check.toNat) :
    activationRefusal r check x = some (checkMismatch, be 2 (byteSum x.header.count x.rows)) := by
  have differs := mt (regionCheck_eq_iff x.header.count x.rows check).mp k
  rw [activationRefusal, if_neg (not_not.mpr h), if_pos differs, regionCheck_eq, BitVec.toNat_ofNat, be_two_mod]

theorem activationRefusal_of_check (h : x.header.state = .opened)
    (k : byteSum x.header.count x.rows % 65536 = check.toNat) :
    activationRefusal r check x =
      ((firstInvalid r (presentRows x.header.count x.rows)).or
        (firstConflict r [] (presentRows x.header.count x.rows))).map fun i => (invalidRow, byteOf i) := by
  have agrees := (regionCheck_eq_iff x.header.count x.rows check).mpr k
  rw [activationRefusal, if_neg (not_not.mpr h), if_neg (not_not.mpr agrees)]
  cases firstInvalid r (presentRows x.header.count x.rows)
  · dsimp only
    cases firstConflict r [] (presentRows x.header.count x.rows) <;> rfl
  · rfl

/-- All three stages of an activation that is not refused. -/
theorem activationRefusal_eq_none :
    activationRefusal r check x = none ↔ x.header.state = .opened ∧ regionCheck x.header.count x.rows = check ∧
      firstInvalid r (presentRows x.header.count x.rows) = none ∧
      firstConflict r [] (presentRows x.header.count x.rows) = none := by
  by_cases opened : x.header.state = .opened
  · by_cases agrees : byteSum x.header.count x.rows % 65536 = check.toNat
    · rw [activationRefusal_of_check opened agrees, regionCheck_eq_iff]
      simp [opened, agrees]
    · rw [activationRefusal_of_mismatch opened agrees, regionCheck_eq_iff]
      simp [agrees]
  · rw [activationRefusal_of_closed opened]
    simp [opened]

end

/-! ### The REPLY and the REGION STATE report (R30, R42) -/

theorem entryNotices_noSpace (r : Region) : .spaceSignal .v ∉ entryNotices r := by cases r <;> decide

theorem besideSpace_of_signalsOnly {s t : State} (h : signalsOnly .v s t) : t.besideSpace = s.besideSpace := by
  unfold State.besideSpace
  rcases h with h | h <;> simp [h]

theorem besideSpace_handAll (s : State) {l : List Instr} (h : .spaceSignal .v ∉ l) :
    (s.handAll l).besideSpace = s.besideSpace ++ l := by
  have kept : l.filter (fun e => e != .spaceSignal .v) = l :=
    List.filter_eq_self.mpr fun e he => by
      rw [bne_iff_ne]
      rintro rfl
      exact h he
  rw [State.besideSpace, State.handAll_handed, List.filter_append, kept, State.besideSpace]

/-- Offers at port V hand on signals of space alone. -/
theorem besideSpace_reply (s : State) (code tag result : Byte) (data : Bytes) :
    (s.reply code tag result data).besideSpace = s.besideSpace :=
  besideSpace_of_signalsOnly (offerLeaves_offer rfl s).handed

theorem besideSpace_flushReports (s : State) : (flushReports s).besideSpace = s.besideSpace := by
  have sent : ∀ (l : List ReportRequest) (u : State), (l.foldl sendReport u).besideSpace = u.besideSpace := by
    intro l
    induction l with
    | nil => exact fun _ => rfl
    | cons r l ih => exact fun u => (ih _).trans (besideSpace_of_signalsOnly (sendReport_leaves u r).handed)
  exact sent _ _

section
variable {s : State} (up : s.line.portV.up = true) (busy : s.line.portV.busy.isSome = true)
include up busy

/-- A port V that is sending makes no selection: an offer signals no space. -/
theorem offer_handed_of_busy {l : LocalFrame} (unmarked : l.restartReply = false) :
    (offer .v l s).1.handed = s.handed := by
  rcases offer_cases .v s with down | ⟨up, room⟩ | ⟨up, full⟩
  · exact absurd up (by rw [show s.line.portV.up = false from down]; simp)
  · rw [offer_of_busy up busy room]
    rfl
  · rw [offer_of_full up full, unmarked]
    rfl

theorem flushReports_handed_of_busy : (flushReports s).handed = s.handed := by
  have sent : ∀ (l : List ReportRequest) (u : State), u.line.portV.up = true → u.line.portV.busy.isSome = true →
      (l.foldl sendReport u).handed = u.handed := by
    intro l
    induction l with
    | nil => exact fun _ _ _ => rfl
    | cons r l ih =>
      intro u up busy
      obtain ⟨up', grows⟩ := lineGrows_offer (p := .v)
        (l := { frame := u.compose .report 0 (u.reportPayload r), restartReply := false }) rfl u .v
      exact (ih _ (up'.trans up) (grows up busy).1).trans (offer_handed_of_busy up busy rfl)
  exact sent _ _ up busy

end

/-- What a table request leaves that has changed the store to `u`, with its REPLY `l` and the reports `rs` behind. -/
structure Answered (u : State) (l : LocalFrame) (rs : List LocalFrame) (t : State) : Prop where
  store : t.store = u.store
  sequencer : t.sequencer = u.sequencer
  beside : t.besideSpace = u.besideSpace
  handed : u.room 1 → t.handed = u.handed
  leads : u.room 1 → leadsV u t l
  added : u.room (rs.length + 1) → addedV u t (l :: rs)

theorem answered_reports (u : State) (code tag result : Byte) (data : Bytes) (rs : List ReportRequest) :
    Answered u (u.replyFrame code tag result data) (rs.map fun r => u.reportFrame r.kind r.data)
      (flushReports ((u.reply code tag result data).withReports rs)) where
  store := by
    rw [flushReports_store, State.withReports_store, lineTouched_store (lineTouched_reply u code tag result data)]
  sequencer := by
    rw [lineTouched_sequencer (lineTouched_flushReports _), State.withReports_sequencer, State.withReports_sequencer,
      lineTouched_sequencer (lineTouched_reply u code tag result data)]
  beside := (besideSpace_flushReports _).trans (besideSpace_reply ..)
  handed := fun room => by
    rw [reply_of_room (n := 0) room, flushReports_handed_of_busy]
    · rfl
    · exact room.1
    · exact room.2.1
  leads := fun room => by
    rw [reply_of_room (n := 0) room]
    exact List.isPrefixOf_iff_prefix.mpr ((lineGrows_flushReports
      ((u.queuedV (u.replyFrame code tag result data)).withReports rs) .v).2 room.1 room.2.1).2
  added := fun room => by
    rw [List.length_map] at room
    rw [reply_of_room (room_mono room (Nat.le_add_left 1 _) : u.room (0 + 1))]
    have sent := (flushReports_of_room (s := (u.queuedV (u.replyFrame code tag result data)).withReports rs)
      (room_queuedV room _)).1
    rw [addedV, sent]
    exact List.append_assoc ..

/-- ACTIVATE REGION of a region that passes the three stages. -/
theorem activateRequest_of_passed {tag : Byte} {check : BitVec 16} {r : Region} {s : State} (quiet : s.reports = [])
    (h : activationRefusal r check (s.region r) = none) :
    activateRequest tag check r s =
      (((s.withRegion r (activated check (s.region r))).handAll (entryNotices r)).reply 0x05 tag done []).withReports
        [{ kind := reportRegionState, data := regionData r (activated check (s.region r)).header .activated }] := by
  have reports : (((s.withRegion r (activated check (s.region r))).handAll (entryNotices r)).reply 0x05 tag done []).reports
      = [] := (reply_reports ..).trans quiet
  rw [activateRequest, h]
  dsimp only
  rw [regionReport, State.report, reports, List.nil_append, reply_region]
  rw [show ((s.withRegion r (activated check (s.region r))).handAll (entryNotices r)).region r = _ from
    State.region_withRegion ..]

theorem activateRequest_of_refused {tag : Byte} {check : BitVec 16} {r : Region} {s : State} {result : Byte}
    {data : Bytes} (h : activationRefusal r check (s.region r) = some (result, data)) :
    activateRequest tag check r s = s.reply 0x05 tag result data := by
  rw [activateRequest, h]

end Sys2Proof.Machine
end

section
/-!
SUPPORT. Row validity and row consistency (R28, R29, R179) in terms of a row's bytes.
-/

namespace Sys2Proof.Machine

/-! ### Fields of a row (R177) -/

/-- A byte of a row as a number. -/
def byteNat (row : Bytes) (i : Nat) : Nat := (row.getD i 0).toNat

/-- A word of a row as a number. -/
def wordNat (row : Bytes) (i : Nat) : Nat := 256 * byteNat row i + byteNat row (i + 1)

theorem byteNat_lt (row : Bytes) (i : Nat) : byteNat row i < 256 := (row.getD i 0).isLt

theorem byteNat_of_inside {row : Bytes} {i : Nat} (h : i < row.length) : byteNat row i = row[i].toNat := by
  rw [byteNat, List.getD_eq_getElem _ _ h]

theorem field_eq_byteNat {row : Bytes} {i : Nat} (h : i < row.length) : field row i 1 = byteNat row i := by
  rw [field, List.drop_eq_getElem_cons h, byteNat_of_inside h]
  simp only [List.take_succ_cons, List.take_zero, natOf, List.foldl_cons, List.foldl_nil]
  omega

theorem field_eq_wordNat {row : Bytes} {i : Nat} (h : i + 1 < row.length) : field row i 2 = wordNat row i := by
  rw [field, List.drop_eq_getElem_cons (by omega), List.drop_eq_getElem_cons h, wordNat, byteNat_of_inside h,
    byteNat_of_inside (by omega)]
  simp only [List.take_succ_cons, List.take_zero, natOf, List.foldl_cons, List.foldl_nil]
  omega

theorem field_eq_tripleNat {row : Bytes} {i : Nat} (h : i + 2 < row.length) :
    field row i 3 = 65536 * byteNat row i + wordNat row (i + 1) := by
  rw [field, List.drop_eq_getElem_cons (by omega), List.drop_eq_getElem_cons (by omega), List.drop_eq_getElem_cons h,
    wordNat, byteNat_of_inside h, byteNat_of_inside (by omega), byteNat_of_inside (i := i + 1) (by omega)]
  simp only [List.take_succ_cons, List.take_zero, natOf, List.foldl_cons, List.foldl_nil]
  omega

section
variable {row : Bytes} (size : row.length = 32)
include size

/-- One slot of a PATHS row as its bytes give it (R77, R179). -/
theorem slotValid_iff {j : Nat} (hj : j < 4) :
    slotValid row j = true ↔
      wordNat row (10 + 5 * j) / 1024 % 16 = 0 ∧ byteNat row (13 + 5 * j) ≤ 3 ∧
        ((wordNat row (10 + 5 * j) / 16384 = 0 ∧ byteNat row (14 + 5 * j) = 0) ∨
          (wordNat row (10 + 5 * j) / 16384 = 1 ∧ wordNat row (10 + 5 * j) % 1024 ≤ 11 ∧
            (byteNat row (13 + 5 * j) ≤ 1 ∨ byteNat row (14 + 5 * j) = 0)) ∨
          (wordNat row (10 + 5 * j) / 16384 = 2 ∧ 1 ≤ wordNat row (10 + 5 * j) % 1024 ∧
            wordNat row (10 + 5 * j) % 1024 ≤ 1022 ∧ byteNat row (14 + 5 * j) = 0)) := by
  unfold slotValid
  rw [field_eq_wordNat (by omega), field_eq_byteNat (by omega), field_eq_byteNat (by omega)]
  generalize wordNat row (10 + 5 * j) = w
  generalize byteNat row (13 + 5 * j) = mode
  generalize byteNat row (14 + 5 * j) = dead
  dsimp only
  split <;> simp_all [within] <;> omega

theorem channelValid_iff : channelValid row = true ↔
    1 ≤ wordNat row 0 ∧ wordNat row 0 ≤ 1022 ∧ byteNat row 2 ≤ 15 ∧ byteNat row 3 ≤ 8 ∧ wordNat row 4 ≤ wordNat row 6 ∧
      byteNat row 16 ≤ 7 ∧ 1 ≤ wordNat row 17 ∧ wordNat row 17 ≤ 3600 := by
  simp (disch := omega) [channelValid, within, field_eq_byteNat, field_eq_wordNat, and_assoc]

theorem ruleValid_iff : ruleValid row = true ↔
    byteNat row 0 ≠ 0 ∧ byteNat row 1 ≤ 63 ∧ byteNat row 2 ≤ 1 ∧ byteNat row 3 ≤ 1 ∧
      -32000 ≤ (if wordNat row 4 < 32768 then (wordNat row 4 : Int) else (wordNat row 4 : Int) - 65536) ∧
      (if wordNat row 4 < 32768 then (wordNat row 4 : Int) else (wordNat row 4 : Int) - 65536) ≤ 32000 ∧
      wordNat row 6 ≤ 1000 ∧ 1 ≤ byteNat row 8 ∧ byteNat row 8 ≤ 5 ∧ byteNat row 9 ≤ 2 := by
  have first : byteAt row 0 = 0#8 ↔ byteNat row 0 = 0 := by simp [byteAt, byteNat, ← BitVec.toNat_inj]
  simp (disch := omega) [ruleValid, within, fieldInt, signedOf, field_eq_byteNat, field_eq_wordNat, and_assoc, first]

theorem segmentValid_iff : segmentValid row = true ↔
    wordNat row 0 ≤ 1800 ∧ byteNat row 2 ≤ 120 ∧ wordNat row 3 ≤ 600 ∧ 60 ≤ wordNat row 5 ∧ wordNat row 5 ≤ 7200 ∧
      1 ≤ byteNat row 7 ∧ byteNat row 7 ≤ 5 ∧ byteNat row 8 ≤ 1 := by
  simp (disch := omega) [segmentValid, within, field_eq_byteNat, field_eq_wordNat, and_assoc]

theorem scheduleValid_iff : scheduleValid row = true ↔
    byteNat row 1 ≤ 127 ∧ 65536 * byteNat row 2 + wordNat row 3 ≤ 86399 ∧
      65536 * byteNat row 5 + wordNat row 6 ≤ 86399 ∧ wordNat row 8 ≤ wordNat row 10 := by
  have start : field row 2 3 = 65536 * byteNat row 2 + wordNat row 3 := field_eq_tripleNat (by omega)
  have finish : field row 5 3 = 65536 * byteNat row 5 + wordNat row 6 := field_eq_tripleNat (by omega)
  simp (disch := omega) [scheduleValid, within, field_eq_wordNat, start, finish, field_eq_byteNat, and_assoc]

theorem signValid_iff : signValid row = true ↔
    1 ≤ wordNat row 0 ∧ wordNat row 0 ≤ 1022 ∧ byteNat row 2 ≤ 1 ∧ byteNat row 3 ≤ 7 ∧ byteNat row 4 ≤ 1 ∧
      wordNat row 13 ≤ wordNat row 15 ∧ wordNat row 15 ≤ 4000 ∧ 60 ≤ wordNat row 17 ∧ wordNat row 17 ≤ 3600 := by
  simp (disch := omega) [signValid, within, field_eq_byteNat, field_eq_wordNat, and_assoc]
  omega

theorem gateValid_iff : gateValid row = true ↔
    byteNat row 0 ≤ 7 ∧ 100 ≤ wordNat row 1 ∧ wordNat row 1 ≤ 60000 ∧ 1 ≤ wordNat row 3 ∧ wordNat row 3 ≤ 2000 ∧
      2 * wordNat row 3 < wordNat row 1 ∧ byteNat row 5 ≤ 1 ∧ wordNat row 6 ≤ 4000 ∧ byteNat row 8 ≤ 50 ∧
      byteNat row 9 ≤ 50 ∧ 5 ≤ byteNat row 10 ∧ byteNat row 10 ≤ 50 ∧ 2 ≤ byteNat row 11 ∧ byteNat row 11 ≤ 50 ∧
      5 ≤ wordNat row 12 ∧ wordNat row 12 ≤ 300 ∧ 1 ≤ byteNat row 14 ∧ byteNat row 14 ≤ 60 ∧ 10 ≤ wordNat row 15 ∧
      wordNat row 15 ≤ 600 ∧ 60 ≤ wordNat row 17 ∧ wordNat row 17 ≤ 3600 ∧ byteNat row 19 ≤ 1 := by
  simp (disch := omega) [gateValid, within, field_eq_byteNat, field_eq_wordNat, and_assoc]

theorem pathValid_iff : pathValid row = true ↔
    1 ≤ byteNat row 1 ∧ byteNat row 1 ≤ 16 ∧ byteNat row 1 ≤ byteNat row 2 ∧ byteNat row 2 ≤ 16 ∧ 10 ≤ wordNat row 3 ∧
      wordNat row 3 ≤ 3600 ∧ byteNat row 5 ≤ 2 ∧ 30 ≤ wordNat row 6 ∧ wordNat row 6 ≤ 900 ∧ 60 ≤ wordNat row 8 ∧
      wordNat row 8 ≤ 3600 ∧ slotValid row 0 = true ∧ slotValid row 1 = true ∧ slotValid row 2 = true ∧
      slotValid row 3 = true := by
  simp (disch := omega) [pathValid, within, field_eq_byteNat, field_eq_wordNat, and_assoc]

end

/-! ### Rows of the same station, channel or address (R29) -/

theorem wordNat_eq_iff (q row : Bytes) (i : Nat) :
    wordNat q i = wordNat row i ↔ byteNat q i = byteNat row i ∧ byteNat q (i + 1) = byteNat row (i + 1) := by
  have := byteNat_lt q i
  have := byteNat_lt q (i + 1)
  have := byteNat_lt row i
  have := byteNat_lt row (i + 1)
  unfold wordNat
  omega

section
variable {q row : Bytes} (size : row.length = 32) (other : q.length = 32)
include size other

theorem take_eq_iff {n : Nat} (h : n ≤ 32) : q.take n = row.take n ↔ ∀ i, i < n → byteNat q i = byteNat row i := by
  rw [List.ext_getElem_iff]
  have lengths : (q.take n).length = (row.take n).length := by simp [size, other]
  simp only [lengths, true_and, List.getElem_take, List.length_take, size, Nat.min_eq_left h]
  refine forall_congr' fun i => ⟨fun k hi => ?_, fun k hi _ => ?_⟩
  · rw [byteNat_of_inside (by omega), byteNat_of_inside (by omega), k hi hi]
  · have := k hi
    rwa [byteNat_of_inside (by omega), byteNat_of_inside (by omega), BitVec.toNat_inj] at this

theorem sameChannel_iff : field q 0 2 = field row 0 2 ∧ field q 2 1 = field row 2 1 ↔ q.take 3 = row.take 3 := by
  rw [field_eq_wordNat (by omega), field_eq_wordNat (by omega), field_eq_byteNat (by omega),
    field_eq_byteNat (by omega), wordNat_eq_iff, take_eq_iff size other (by decide)]
  constructor
  · rintro ⟨⟨h, k⟩, l⟩ i hi
    obtain rfl | rfl | rfl : i = 0 ∨ i = 1 ∨ i = 2 := by omega
    exacts [h, k, l]
  · exact fun h => ⟨⟨h 0 (by decide), h 1 (by decide)⟩, h 2 (by decide)⟩

theorem sameAddress_iff : field q 0 2 = field row 0 2 ↔ q.take 2 = row.take 2 := by
  rw [field_eq_wordNat (by omega), field_eq_wordNat (by omega), wordNat_eq_iff,
    take_eq_iff size other (by decide)]
  constructor
  · rintro ⟨h, k⟩ i hi
    obtain rfl | rfl : i = 0 ∨ i = 1 := by omega
    exacts [h, k]
  · exact fun h => ⟨h 0 (by decide), h 1 (by decide)⟩

end

/-! ### Slots that name one local input in two ways (R29) -/

/-- Two entries of the local inputs' list name one input with different configurations. -/
def Clash (x y : Nat × (Bool × Bool × Nat)) : Prop := x.1 = y.1 ∧ x.2 ≠ y.2

theorem slotsConflict_iff (earlier l : List (Nat × (Bool × Bool × Nat))) :
    slotsConflict earlier l = true ↔
      (∃ y ∈ l, ∃ x ∈ earlier, Clash x y) ∨ ¬ l.Pairwise fun x y => ¬ Clash x y := by
  induction l generalizing earlier with
  | nil => simp [slotsConflict]
  | cons y l ih =>
    obtain ⟨i, c⟩ := y
    have front : (earlier.any fun e => e.1 == i && e.2 != c) = true ↔ ∃ x ∈ earlier, Clash x (i, c) := by
      simp [Clash]
    rw [slotsConflict, Bool.or_eq_true, front, ih, List.pairwise_cons]
    simp only [List.exists_mem_cons_iff, List.mem_append, List.mem_singleton, or_and_right, exists_or, and_or_left,
      exists_eq_left, not_and_or, not_forall, not_not, exists_prop, or_assoc]

/-- The local input that a slot names, with its configuration. -/
def localAt (row : Bytes) (j : Nat) : Option (Nat × (Bool × Bool × Nat)) :=
  match (slotOf row j).source with
  | .local i => some (i, ((slotOf row j).tripwire, (slotOf row j).rising, (slotOf row j).dead))
  | _ => none

theorem localSlots_eq (row : Bytes) : localSlots row = (List.range 4).filterMap (localAt row) := by
  rw [localSlots, pathRow, List.filterMap_map]
  rfl

theorem localAt_eq_some {row : Bytes} (size : row.length = 32) {j : Nat} (hj : j < 4) (x : Nat × (Bool × Bool × Nat)) :
    localAt row j = some x ↔ wordNat row (10 + 5 * j) / 16384 = 1 ∧
      x = (wordNat row (10 + 5 * j) % 1024, (decide (2 ≤ byteNat row (13 + 5 * j)), byteNat row (13 + 5 * j) % 2 == 0,
        byteNat row (14 + 5 * j))) := by
  simp (disch := omega) only [localAt, slotOf, field_eq_wordNat, field_eq_byteNat]
  generalize wordNat row (10 + 5 * j) = w
  rcases h : w / 16384 with _ | _ | _ | n <;> simp [eq_comm]

/-- The source word of a slot. -/
def slotWord (q : Bytes) (j : Nat) : Nat := 256 * byteNat q (10 + 5 * j) + byteNat q (11 + 5 * j)

theorem wordNat_slot (q : Bytes) (j : Nat) : wordNat q (10 + 5 * j) = slotWord q j := by
  rw [wordNat, slotWord, show 10 + 5 * j + 1 = 11 + 5 * j by omega]

/-- The slot `i` of one PATHS row and the slot `j` of another name one local input in two ways. -/
def SlotsDiffer (p : Bytes) (i : Nat) (q : Bytes) (j : Nat) : Prop :=
  slotWord p i / 16384 = 1 ∧ slotWord q j / 16384 = 1 ∧ slotWord p i % 1024 = slotWord q j % 1024 ∧
    (byteNat p (13 + 5 * i) ≠ byteNat q (13 + 5 * j) ∨ byteNat p (14 + 5 * i) ≠ byteNat q (14 + 5 * j))

/-- A mode is told by whether it is a tripwire's and by its edge. -/
theorem mode_eq_iff {m n : Nat} (hm : m ≤ 3) (hn : n ≤ 3) :
    m = n ↔ decide (2 ≤ m) = decide (2 ≤ n) ∧ (m % 2 == 0) = (n % 2 == 0) := by
  interval_cases m <;> interval_cases n <;> decide

theorem clash_iff {p q : Bytes} (sizeP : p.length = 32) (sizeQ : q.length = 32) {i j : Nat} (hi : i < 4) (hj : j < 4)
    (validP : slotValid p i = true) (validQ : slotValid q j = true) :
    (∃ x, localAt p i = some x ∧ ∃ y, localAt q j = some y ∧ Clash x y) ↔ SlotsDiffer p i q j := by
  have modeP := ((slotValid_iff sizeP hi).mp validP).2.1
  have modeQ := ((slotValid_iff sizeQ hj).mp validQ).2.1
  simp only [localAt_eq_some sizeP hi, localAt_eq_some sizeQ hj, wordNat_slot, Clash, SlotsDiffer]
  constructor
  · rintro ⟨_, ⟨oneP, rfl⟩, _, ⟨oneQ, rfl⟩, same, differ⟩
    refine ⟨oneP, oneQ, same, ?_⟩
    by_contra both
    simp only [not_or, not_not] at both
    exact differ (by rw [both.1, both.2])
  · rintro ⟨oneP, oneQ, same, differ⟩
    refine ⟨_, ⟨oneP, rfl⟩, _, ⟨oneQ, rfl⟩, same, fun e => ?_⟩
    simp only [Prod.mk.injEq] at e
    obtain ⟨trip, edge, dead⟩ := e
    exact differ.elim (fun h => h ((mode_eq_iff modeP modeQ).mpr ⟨trip, edge⟩)) (fun h => h dead)

theorem slotValid_of_pathValid {row : Bytes} (size : row.length = 32) (h : pathValid row = true) {j : Nat} (hj : j < 4) :
    slotValid row j = true := by
  have slots := (pathValid_iff size).mp h
  obtain rfl | rfl | rfl | rfl : j = 0 ∨ j = 1 ∨ j = 2 ∨ j = 3 := by omega
  all_goals tauto

/-- A PATHS row conflicts with the rows before it. -/
theorem pathConflict_iff {earlier : List Bytes} {row : Bytes} (sizes : ∀ q ∈ row :: earlier, q.length = 32)
    (valid : ∀ q ∈ row :: earlier, pathValid q = true) :
    rowConflict .paths earlier row = true ↔
      ∃ j, j < 4 ∧ ((∃ q ∈ earlier, ∃ i, i < 4 ∧ SlotsDiffer q i row j) ∨ ∃ i, i < j ∧ SlotsDiffer row i row j) := by
  have mine : row ∈ row :: earlier := List.mem_cons_self
  have clash : ∀ q ∈ row :: earlier, ∀ i j, i < 4 → j < 4 →
      ((∃ x, localAt q i = some x ∧ ∃ y, localAt row j = some y ∧ Clash x y) ↔ SlotsDiffer q i row j) :=
    fun q hq i j hi hj => clash_iff (sizes q hq) (sizes row mine) hi hj (slotValid_of_pathValid (sizes q hq) (valid q hq) hi)
      (slotValid_of_pathValid (sizes row mine) (valid row mine) hj)
  have own : ¬ (localSlots row).Pairwise (fun x y => ¬ Clash x y) ↔ ∃ j, j < 4 ∧ ∃ i, i < j ∧ SlotsDiffer row i row j := by
    have pairs : (localSlots row).Pairwise (fun x y => ¬ Clash x y) ↔ ∀ i j, i < j → j < 4 → ¬ SlotsDiffer row i row j := by
      rw [localSlots_eq, List.pairwise_filterMap, List.pairwise_iff_getElem]
      simp only [List.length_range, List.getElem_range]
      refine ⟨fun k i j lt hj d => ?_, fun k i j hi hj lt x ex y ey c => ?_⟩
      · obtain ⟨x, ex, y, ey, c⟩ := (clash row mine i j (by omega) hj).mpr d
        exact k i j (by omega) hj lt x ex y ey c
      · exact k i j lt hj ((clash row mine i j hi hj).mp ⟨x, ex, y, ey, c⟩)
    rw [pairs]
    push Not
    exact ⟨fun ⟨i, j, lt, hj, d⟩ => ⟨j, hj, i, lt, d⟩, fun ⟨j, hj, i, lt, d⟩ => ⟨i, j, lt, hj, d⟩⟩
  show slotsConflict _ _ = true ↔ _
  rw [slotsConflict_iff, own]
  simp only [localSlots_eq, List.mem_flatMap, List.mem_filterMap, List.mem_range]
  constructor
  · rintro (⟨y, ⟨j, hj, ey⟩, x, ⟨q, hq, i, hi, ex⟩, c⟩ | ⟨j, hj, own⟩)
    · exact ⟨j, hj, .inl ⟨q, hq, i, hi, (clash q (List.mem_cons_of_mem _ hq) i j hi hj).mp ⟨x, ex, y, ey, c⟩⟩⟩
    · exact ⟨j, hj, .inr own⟩
  · rintro ⟨j, hj, ⟨q, hq, i, hi, d⟩ | own⟩
    · obtain ⟨x, ex, y, ey, c⟩ := (clash q (List.mem_cons_of_mem _ hq) i j hi hj).mpr d
      exact .inl ⟨y, ⟨j, hj, ey⟩, x, ⟨q, hq, i, hi, ex⟩, c⟩
    · exact .inr ⟨j, hj, own⟩

/-! ### The settled statement -/

/-- The three stages of ACTIVATE REGION, as the statement on it gives them. -/
theorem activateRegion_stages (tag region : Byte) (check : BitVec 16) {s : State} (steady : s.steady)
    (free : s.store.clearing = none) {r : Region} (number : region.toNat = Region.number r) {result : Byte} {data : Bytes}
    (refused : activationRefusal r check (s.region r) = some (result, data)) :
    exec (.activateRegion tag region check) s =
      .next ((s.took (.activateRegion tag region check)).reply 0x05 tag result data) :=
  taken_regionAnswers steady free number (activateRequest_of_refused (by rw [took_region]; exact refused))

theorem activateRegion_passes (tag region : Byte) (check : BitVec 16) {s : State} (steady : s.steady)
    (free : s.store.clearing = none) {r : Region} (number : region.toNat = Region.number r)
    (passed : activationRefusal r check (s.region r) = none) :
    ∃ t, exec (.activateRegion tag region check) s = .next t ∧
      Answered (((s.took (.activateRegion tag region check)).withRegion r (activated check (s.region r))).handAll
          (entryNotices r)) (s.replyFrame 0x05 tag done [])
        [s.reportFrame 0x02 (regionData r (activated check (s.region r)).header .activated)] t := by
  refine ⟨_, taken_onRegion steady free number, ?_⟩
  rw [activateRequest_of_passed (s := s.took _) steady.2 (by rw [took_region]; exact passed), took_region]
  exact answered_reports
    (((s.took _).withRegion r (activated check (s.region r))).handAll (entryNotices r)) 0x05 tag done []
    [{ kind := reportRegionState, data := regionData r (activated check (s.region r)).header .activated }]

/-- Settles O29: the stages of an activation in their order, the valid rows field by field, and the conflicts. -/
theorem activateRegionPassesThreeStages : Obligations.ActivateRegionPassesThreeStages := by
  refine ⟨fun tag region check s steady free => ⟨taken_noRegion steady free _, fun r _ number => ?_⟩,
    fun row size => ⟨channelValid_iff size, ruleValid_iff size, segmentValid_iff size, ?_, scheduleValid_iff size,
      signValid_iff size, gateValid_iff size⟩, fun earlier row sizes => ?_⟩
  · have refused := fun result data => activateRegion_stages tag region check steady free number
      (result := result) (data := data)
    refine ⟨fun closed => refused _ _ (activationRefusal_of_closed closed),
      fun opened differs => refused _ _ (activationRefusal_of_mismatch opened differs), fun opened agrees => ?_⟩
    have stages := activationRefusal_of_check (r := r) (check := check) opened agrees
    rw [firstInvalid_eq, firstConflict_eq] at stages
    refine ⟨fun i inside present bad before => ?_, fun valid => ⟨fun i inside present clash before => ?_, fun apart => ?_⟩⟩
    · rw [findPresent_eq_some inside present (by simpa using bad) (fun j hj pj => by simpa using before j hj pj)] at stages
      exact refused _ _ stages
    · rw [findPresent_eq_none.mpr (fun i hi pi => by simpa using valid i hi pi),
        findPresent_eq_some (p := fun i => rowConflict r (rowsBefore _ i) (readRow _ i)) inside present clash before]
        at stages
      exact refused _ _ stages
    · rw [findPresent_eq_none.mpr (fun i hi pi => by simpa using valid i hi pi), 
        findPresent_eq_none (p := fun i => rowConflict r (rowsBefore _ i) (readRow _ i)) |>.mpr apart] at stages
      obtain ⟨t, next, answer⟩ := activateRegion_passes tag region check steady free number stages
      have stored : ∀ q, t.region q = (s.withRegion r (activated check (s.region r))).region q := by
        intro q
        rw [State.region, answer.store]
        rfl
      refine ⟨t, next, ?_, fun q _ other => ?_, ?_, fun room => ?_, fun room => ?_⟩
      · rw [stored, State.region_withRegion]
        rfl
      · rw [stored, State.region_withRegion_of_ne _ _ other]
      · rw [answer.beside, besideSpace_handAll _ (entryNotices_noSpace r)]
        cases r <;> rfl
      · rw [answer.handed room]
        cases r <;> rfl
      · exact answer.added room
  · refine (pathValid_iff size).trans ?_
    rw [slotValid_iff size (by decide), slotValid_iff size (by decide), slotValid_iff size (by decide),
      slotValid_iff size (by decide)]
    rfl
  · have mine : row.length = 32 := sizes row List.mem_cons_self
    have theirs : ∀ q ∈ earlier, q.length = 32 := fun q hq => sizes q (List.mem_cons_of_mem _ hq)
    refine ⟨?_, ?_, fun valid => pathConflict_iff sizes valid, fun r hr => ?_⟩
    · simp only [rowConflict, List.any_eq_true, Bool.and_eq_true, beq_iff_eq]
      exact exists_congr fun q => and_congr_right fun hq => sameChannel_iff mine (theirs q hq)
    · simp only [rowConflict, List.any_eq_true, beq_iff_eq]
      exact exists_congr fun q => and_congr_right fun hq => sameAddress_iff mine (theirs q hq)
    · simp only [List.mem_cons, List.not_mem_nil, or_false] at hr
      rcases hr with rfl | rfl | rfl | rfl <;> rfl

end Sys2Proof.Machine
end

section
/-!
SUPPORT. The rows that the jobs work with (R35): what an operation leaves in use is what was in use before it, no rows
at all, or the rows of a region in service. The supply and the Table Store stay as they are.
-/

namespace Sys2Proof.Machine

/-! ### The rows in use -/

/-- Rows that a job may have in use after an operation. -/
def State.usable (s : State) (r : Region) (rows : Map Bytes) : Prop :=
  (r, rows) ∈ s.jobRows ∨ rows = [] ∨ rows = s.serviceRows r

/-- An operation of a job leaves the supply and the store, and the jobs with usable rows. -/
structure InUse (s t : State) : Prop where
  power : t.power = s.power
  store : t.store = s.store
  rows : ∀ e ∈ t.jobRows, s.usable e.1 e.2

section
variable {s t u : State}

theorem usable_of_mem {e : Region × Map Bytes} (h : e ∈ s.jobRows) : s.usable e.1 e.2 := .inl h

theorem usable_nil (r : Region) : s.usable r [] := .inr (.inl rfl)

theorem usable_serviceRows (r : Region) : s.usable r (s.serviceRows r) := .inr (.inr rfl)

theorem InUse.refl (s : State) : InUse s s := ⟨rfl, rfl, fun _ => usable_of_mem⟩

theorem serviceRows_of_store (h : t.store = s.store) (r : Region) : t.serviceRows r = s.serviceRows r := by
  rw [State.serviceRows, State.active, State.region, h]
  rfl

theorem InUse.usable (h : InUse s t) {r : Region} {rows : Map Bytes} (k : t.usable r rows) : s.usable r rows := by
  rcases k with m | e | e
  · exact h.rows _ m
  · exact .inr (.inl e)
  · exact .inr (.inr (e.trans (serviceRows_of_store h.store r)))

theorem InUse.trans (h : InUse s t) (k : InUse t u) : InUse s u :=
  ⟨k.power.trans h.power, k.store.trans h.store, fun e m => h.usable (k.rows e m)⟩

/-- A change that leaves the rows in use. -/
theorem inUse_of_rows (h : InUse s t) (power : u.power = t.power) (store : u.store = t.store)
    (rows : u.jobRows = t.jobRows) : InUse s u :=
  h.trans ⟨power, store, fun _ m => usable_of_mem (rows ▸ m)⟩

/-! ### Operations of no job in particular -/

section
variable (h : InUse s t)
include h

@[simp] theorem inUse_withHanded (l : List Instr) : InUse s (t.withHanded l) := inUse_of_rows h rfl rfl rfl

@[simp] theorem inUse_withWaiting (l : List Instr) : InUse s (t.withWaiting l) := inUse_of_rows h rfl rfl rfl

@[simp] theorem inUse_deferred (c : Instr) : InUse s (t.deferred c) := inUse_withWaiting h _

@[simp] theorem inUse_withReports (l : List ReportRequest) : InUse s (t.withReports l) := inUse_of_rows h rfl rfl rfl

@[simp] theorem inUse_withTime (n : Nat) : InUse s (t.withTime n) := inUse_of_rows h rfl rfl rfl

@[simp] theorem inUse_withPending (l : List Instr) : InUse s (t.withPending l) := inUse_of_rows h rfl rfl rfl

@[simp] theorem inUse_withDrawn (n : Nat) : InUse s (t.withDrawn n) := inUse_of_rows h rfl rfl rfl

@[simp] theorem inUse_report (kind : Byte) (data : Bytes) : InUse s (t.report kind data) := inUse_withReports h _

@[simp] theorem inUse_handAll (l : List Instr) : InUse s (t.handAll l) := inUse_withHanded h _

@[simp] theorem inUse_hand (c : Instr) : InUse s (t.hand c) := inUse_withHanded h _

theorem inUse_forEach {l : List Nat} {f : Nat → State → State} (k : ∀ i u, InUse s u → InUse s (f i u)) :
    InUse s (forEach l f t) := forEach_keeps h fun i _ u => k i u

theorem inUse_foldl {α : Type} {l : List α} {f : State → α → State}
    (k : ∀ a u, InUse s u → InUse s (f u a)) : InUse s (l.foldl f t) := by
  induction l generalizing t with
  | nil => exact h
  | cons a l ih => exact ih (k a t h)

/-- What changes the line, the Responder and the events handed on alone leaves the rows in use. -/
theorem inUse_of_line (touched : lineTouched t u) : InUse s u := by
  refine inUse_of_rows h (lineTouched_power touched) (lineTouched_store touched) ?_
  simp only [State.jobRows, lineTouched_intake touched, lineTouched_grader touched, lineTouched_monitor touched,
    lineTouched_sequencer touched, lineTouched_drives touched, lineTouched_allocator touched,
    lineTouched_publisher touched]

theorem inUse_offer (p : Port) (l : LocalFrame) : InUse s (offer p l t).1 := inUse_of_line h (lineTouched_offer p l t)

@[simp] theorem inUse_reply (code tag result : Byte) (data : Bytes) : InUse s (t.reply code tag result data) :=
  inUse_offer h ..

@[simp] theorem inUse_flushReports : InUse s (flushReports t) :=
  inUse_foldl (inUse_withReports h _) fun _ _ k => inUse_offer k ..

/-- The requests that wait for an owner, taken. -/
theorem inUse_takeWaiting {own : Instr → Option (State → State)}
    (k : ∀ c f u, own c = some f → InUse s u → InUse s (f u)) : InUse s (takeWaiting own t) := by
  unfold takeWaiting
  refine inUse_foldl (inUse_withWaiting (inUse_flushReports h) _) fun c u hu => ?_
  split
  · next f e => exact inUse_flushReports (k c f u e hu)
  · exact hu

end

/-! ### Jobs replaced -/

section
variable (t : State)

@[simp] theorem usable_intake : t.usable .channels t.intake.rows := .inl (by simp [State.jobRows])
@[simp] theorem usable_rules : t.usable .gradeRules t.grader.ruleRows := .inl (by simp [State.jobRows])
@[simp] theorem usable_graded : t.usable .segments t.grader.segmentRows := .inl (by simp [State.jobRows])
@[simp] theorem usable_monitor : t.usable .paths t.monitor.rows := .inl (by simp [State.jobRows])
@[simp] theorem usable_segments : t.usable .segments t.sequencer.segmentRows := .inl (by simp [State.jobRows])
@[simp] theorem usable_schedule : t.usable .schedule t.sequencer.scheduleRows := .inl (by simp [State.jobRows])
@[simp] theorem usable_gates : t.usable .gates t.sequencer.gateRows := .inl (by simp [State.jobRows])
@[simp] theorem usable_drives : t.usable .gates t.drives.rows := .inl (by simp [State.jobRows])
@[simp] theorem usable_lit : t.usable .signs t.allocator.signRows := .inl (by simp [State.jobRows])
@[simp] theorem usable_drawing : t.usable .gates t.allocator.gateRows := .inl (by simp [State.jobRows])
@[simp] theorem usable_publisher : t.usable .signs t.publisher.rows := .inl (by simp [State.jobRows])

end

section
variable (h : InUse s t)
include h

theorem inUse_withIntake (x : Intake) (k : t.usable .channels x.rows := by exact usable_intake _) :
    InUse s (t.withIntake x) :=
  h.trans ⟨rfl, rfl, by simpa [State.jobRows] using k⟩

theorem inUse_withGrader (x : Grader) (rules : t.usable .gradeRules x.ruleRows := by exact usable_rules _)
    (segments : t.usable .segments x.segmentRows := by exact usable_graded _) : InUse s (t.withGrader x) :=
  h.trans ⟨rfl, rfl, by simpa [State.jobRows] using ⟨rules, segments⟩⟩

theorem inUse_withMonitor (x : Monitor) (k : t.usable .paths x.rows := by exact usable_monitor _) :
    InUse s (t.withMonitor x) :=
  h.trans ⟨rfl, rfl, by simpa [State.jobRows] using k⟩

theorem inUse_withSequencer (x : Sequencer) (segments : t.usable .segments x.segmentRows := by exact usable_segments _)
    (schedule : t.usable .schedule x.scheduleRows := by exact usable_schedule _)
    (gates : t.usable .gates x.gateRows := by exact usable_gates _) :
    InUse s (t.withSequencer x) :=
  h.trans ⟨rfl, rfl, by simpa [State.jobRows] using ⟨segments, schedule, gates⟩⟩

theorem inUse_withDrives (x : GateDrives) (k : t.usable .gates x.rows := by exact usable_drives _) :
    InUse s (t.withDrives x) :=
  h.trans ⟨rfl, rfl, by simpa [State.jobRows] using k⟩

theorem inUse_withAllocator (x : Allocator) (signs : t.usable .signs x.signRows := by exact usable_lit _)
    (gates : t.usable .gates x.gateRows := by exact usable_drawing _) :
    InUse s (t.withAllocator x) :=
  h.trans ⟨rfl, rfl, by simpa [State.jobRows] using ⟨signs, gates⟩⟩

theorem inUse_withPublisher (x : Publisher) (k : t.usable .signs x.rows := by exact usable_publisher _) :
    InUse s (t.withPublisher x) :=
  h.trans ⟨rfl, rfl, by simpa [State.jobRows] using k⟩

end

end

end Sys2Proof.Machine
end

section
/-!
SUPPORT. The operations of the Closure Sequencer leave it with usable rows.
-/

namespace Sys2Proof.Machine

-- Many short proofs: elaborated one after another, as side by side they would hold a thread each.
set_option Elab.async false

section
variable {s t : State} (h : InUse s t)
include h

/-! ### Records and states -/

@[simp] theorem inUse_withSegment (g : Nat) (r : SegmentRec) : InUse s (t.withSegment g r) :=
  inUse_withSequencer h _

@[simp] theorem inUse_withClock (c : Option Clock) : InUse s (t.withClock c) :=
  inUse_withSequencer h _

@[simp] theorem inUse_refreshParameter (g : Nat) : InUse s (refreshParameter g t) := by
  unfold refreshParameter
  split
  · split
    · exact inUse_hand (inUse_withSegment h ..) _
    · exact h
  · exact h

@[simp] theorem inUse_enterState (g : Nat) (r : SegmentRec) (st : ClosureState) :
    InUse s (enterState g r st t) := by
  have k : InUse s ((t.withSegment g { r with state := st }).handAll
      ((t.orderedGates g r.state st).map fun k => .orderEvent k (orderOf st))) :=
    inUse_handAll (inUse_withSegment h ..) _
  unfold enterState
  dsimp only
  split
  · exact inUse_hand (inUse_withSequencer k _) _
  · exact inUse_hand k _

@[simp] theorem inUse_raisedTest (g : Nat) : InUse s (raisedTest g t) := by
  unfold raisedTest
  split
  · exact h
  · split <;> simp [h]

@[simp] theorem inUse_enterReopening (g : Nat) (r : SegmentRec) :
    InUse s (enterReopening g r t) := by simp [enterReopening, h]

@[simp] theorem inUse_reopenTest (g : Nat) : InUse s (reopenTest g t) := by
  unfold reopenTest
  split
  · split
    · split <;> simp [h]
    · exact h
  · exact h

@[simp] theorem inUse_loweredTest (g : Nat) : InUse s (loweredTest g t) := by
  unfold loweredTest
  split
  · exact h
  · split <;> simp [h]

@[simp] theorem inUse_enterClosing (g : Nat) (r : SegmentRec) : InUse s (enterClosing g r t) := by
  simp [enterClosing, h]

@[simp] theorem inUse_enterNotice (g : Nat) (row : SegmentRow) (urgent : Bool) (r : SegmentRec) :
    InUse s (enterNotice g row urgent r t) := by simp [enterNotice, h]

/-! ### Claims -/

@[simp] theorem inUse_claimArrives (g : Nat) (urgent : Bool) :
    InUse s (claimArrives g urgent t) := by
  unfold claimArrives
  split
  · split
    · simp [h]
    · split
      · simp [h]
      · split <;> simp [h]
    · exact h
    · simp [h]
    · simp [h]
  · exact h

@[simp] theorem inUse_claimDeparts (g : Nat) : InUse s (claimDeparts g t) := by
  unfold claimDeparts
  split
  · exact h
  · split
    · exact h
    · split <;> simp [h]
    · split <;> simp [h]
    · simp [h]
    · exact h

@[simp] theorem inUse_placeClaim (source : Nat) (urgent : Bool) (g : Nat) :
    InUse s (placeClaim source urgent g t) := by
  unfold placeClaim
  split
  · exact h
  · split
    · simp [h]
    · split
      · dsimp only
        split <;> simp [h]
      · exact h

@[simp] theorem inUse_removeClaims (sources : List Nat) (g : Nat) :
    InUse s (removeClaims sources g t) := by
  unfold removeClaims
  split
  · exact h
  · split <;> simp [h]

/-! ### Events -/

@[simp] theorem inUse_segmentOutcome (cause : SegmentCause) (before : State) (g : Nat) :
    InUse s (segmentOutcome cause before g t) := by
  unfold segmentOutcome
  split
  · dsimp only
    have k : ∀ u : Prop, [Decidable u] → ∀ c, InUse s (if u then t else t.hand c) := by
      intro u _ c
      split <;> simp [h]
    split
    · exact inUse_report (k _ _) _ _
    · exact k _ _
  · exact h

theorem inUse_segmentEvent (cause : SegmentCause) {f : State → State}
    (k : ∀ u, InUse s u → InUse s (f u)) :
    InUse s (segmentEvent cause f t) :=
  inUse_forEach (k t h) fun g _ hu => inUse_segmentOutcome hu cause _ g

@[simp] theorem inUse_leadDecision (g : Nat) : InUse s (leadDecision g t) := by
  unfold leadDecision
  split
  · split
    · dsimp only
      split <;> simp [h]
    · exact h
  · exact h

@[simp] theorem inUse_graceDecision (g : Nat) : InUse s (graceDecision g t) := by
  unfold graceDecision
  split
  · exact h
  · split <;> simp [h]

@[simp] theorem inUse_graceStep (g : Nat) : InUse s (graceStep g t) :=
  inUse_segmentEvent h _ fun _ k => inUse_graceDecision k g

@[simp] theorem inUse_leadStep (g : Nat) : InUse s (leadStep g t) := by
  have k := inUse_segmentEvent h .leadExpiry fun _ k => inUse_leadDecision k g
  unfold leadStep
  dsimp only
  split
  · exact inUse_graceStep k g
  · exact k

@[simp] theorem inUse_zeroLeads (before : State) : InUse s (zeroLeads before t) :=
  inUse_forEach h fun g u hu => by
    split
    · exact inUse_leadStep hu g
    · exact hu

theorem inUse_sequencerEvent (cause : SegmentCause) {f : State → State}
    (k : ∀ u, InUse s u → InUse s (f u)) :
    InUse s (sequencerEvent cause f t) :=
  inUse_zeroLeads (inUse_segmentEvent h cause k) _

@[simp] theorem inUse_placement (source : ClaimSource) (urgent : Bool) (mask : Byte) :
    InUse s (placement source urgent mask t) :=
  inUse_sequencerEvent h _ fun _ k => inUse_forEach k fun g _ ku => inUse_placeClaim ku _ urgent g

@[simp] theorem inUse_removal (source : ClaimSource) (mask : Byte) :
    InUse s (removal source mask t) :=
  inUse_sequencerEvent h _ fun _ k => inUse_forEach k fun g _ ku => inUse_removeClaims ku _ g

@[simp] theorem inUse_confirmAt (face : Byte) (row : SignRow) : InUse s (confirmAt face row t) := by
  unfold confirmAt
  split
  · exact h
  · split <;> simp [h]

@[simp] theorem inUse_confirmation (sign : Nat) (face : Byte) :
    InUse s (confirmation sign face t) := by
  unfold confirmation
  split
  · exact h
  · exact inUse_sequencerEvent h _ fun _ k => inUse_confirmAt k face _

@[simp] theorem inUse_refreshGateFault (g : Nat) : InUse s (refreshGateFault g t) := by
  unfold refreshGateFault
  split <;> simp [h]

@[simp] theorem inUse_gateNotice (k : Nat) : InUse s (gateNotice k t) := by
  unfold gateNotice
  split
  · exact h
  · exact inUse_sequencerEvent h _ fun _ k => inUse_raisedTest (inUse_loweredTest (inUse_refreshGateFault k _) _) _

@[simp] theorem inUse_takeGrade (g grade : Nat) (action : Option ClaimAction) :
    InUse s (takeGrade g grade action t) := by
  unfold takeGrade
  split
  · exact h
  · refine inUse_reopenTest ?_ g
    split
    · exact inUse_withSegment h ..
    · exact inUse_placeClaim (inUse_withSegment h ..) ..
    · exact inUse_removeClaims (inUse_withSegment h ..) ..

/-! ### The schedule, derivations and conversions -/

@[simp] theorem inUse_evaluatePair (e g : Nat) : InUse s (evaluatePair e g t) := by
  unfold evaluatePair
  split
  · split
    · split
      · simp [h]
      · split <;> simp [h]
    · exact h
  · exact h

@[simp] theorem inUse_evaluateSchedule : InUse s (evaluateSchedule t) :=
  inUse_forEach h fun e _ k => inUse_forEach k fun g _ ku => inUse_evaluatePair ku e g

@[simp] theorem inUse_evaluateAfterSet : InUse s (evaluateAfterSet t) :=
  inUse_forEach (inUse_evaluateSchedule h) fun g _ k => inUse_refreshParameter k g

@[simp] theorem inUse_scheduleEnters : InUse s (scheduleEnters t) := by
  unfold scheduleEnters
  split
  · exact inUse_sequencerEvent (inUse_withSequencer h _ (schedule := usable_serviceRows _)) _
      fun _ k => inUse_evaluateSchedule k
  · exact h

@[simp] theorem inUse_orderGates (g : Nat) (o : GateOrder) : InUse s (orderGates g o t) := by
  simp [orderGates, h]

@[simp] theorem inUse_deriveOpen (g : Nat) (r : SegmentRec) : InUse s (deriveOpen g r t) := by
  unfold deriveOpen
  split <;> simp [h]

@[simp] theorem inUse_deriveStart (g : Nat) : InUse s (deriveStart g t) := by
  unfold deriveStart
  split <;> simp [h]

@[simp] theorem inUse_deriveClaims (g : Nat) : InUse s (deriveClaims g t) := by
  unfold deriveClaims
  split
  · refine inUse_forEach ?_ fun p _ k => inUse_placeClaim k _ true g
    split <;> simp [h]
  · exact h

@[simp] theorem inUse_deriveOutcome (g : Nat) : InUse s (deriveOutcome g t) := by
  unfold deriveOutcome
  split
  · exact h
  · next r _ =>
    have k : InUse s (if r.urgent = true then t.hand (.urgencyNotice g true) else t) := by
      split
      · exact inUse_hand h _
      · exact h
    dsimp only
    split
    · exact k
    · exact inUse_report k ..

@[simp] theorem inUse_makeSegments : InUse s (makeSegments t) :=
  inUse_withSequencer h _ (segments := usable_serviceRows _)

@[simp] theorem inUse_buildSegments : InUse s (buildSegments t) :=
  inUse_zeroLeads (inUse_forEach (inUse_evaluateSchedule (inUse_forEach
    (inUse_forEach (inUse_makeSegments h) fun g _ k => inUse_deriveStart k g)
    fun g _ k => inUse_deriveClaims k g)) fun g _ k => inUse_deriveOutcome k g) _

@[simp] theorem inUse_segmentsEnter : InUse s (segmentsEnter t) := by
  unfold segmentsEnter
  split <;> simp [h]

@[simp] theorem inUse_dropSegments : InUse s (dropSegments t) :=
  inUse_withSequencer h _ (segments := usable_nil _)

@[simp] theorem inUse_withholdOrders (g : Nat) : InUse s (withholdOrders g t) :=
  inUse_withSequencer (inUse_handAll h _) _

@[simp] theorem inUse_rederive (g : Nat) : InUse s (rederive g t) := by
  unfold rederive
  split
  · exact h
  · dsimp only
    have k := inUse_withSegment h
    split
    · exact inUse_deriveOpen (k ..) ..
    · exact inUse_withholdOrders (k ..) g
    · exact inUse_loweredTest (inUse_orderGates (k ..) ..) g
    · exact inUse_raisedTest (inUse_orderGates (k ..) ..) g
    · split
      · exact inUse_orderGates (k ..) ..
      · exact inUse_orderGates (inUse_enterState (k ..) ..) ..

@[simp] theorem inUse_gatesBuilt : InUse s (gatesBuilt t) := by
  unfold gatesBuilt
  split
  · exact inUse_sequencerEvent (inUse_withSequencer h _ (gates := usable_drives _)) _ fun _ k =>
      inUse_forEach k fun g _ ku => inUse_rederive ku g
  · exact h

@[simp] theorem inUse_becomeGateless (g : Nat) : InUse s (becomeGateless g t) :=
  inUse_raisedTest (inUse_loweredTest (inUse_refreshGateFault h g) g) g

@[simp] theorem inUse_gatesGone : InUse s (gatesGone t) :=
  inUse_sequencerEvent (inUse_withSequencer h _ (gates := usable_nil _)) _ fun _ k =>
    inUse_forEach k fun g _ ku => inUse_becomeGateless ku g

@[simp] theorem inUse_convertAt (lo hi g : Nat) : InUse s (convertAt lo hi g t) := by
  unfold convertAt
  split
  · exact h
  · split <;> simp [h]

@[simp] theorem inUse_convertSources (lo hi : Nat) : InUse s (convertSources lo hi t) :=
  inUse_segmentEvent h _ fun _ k => inUse_forEach k fun g _ ku => inUse_convertAt ku lo hi g

@[simp] theorem inUse_takeWaitingClaims : InUse s (takeWaitingClaims t) := by
  refine inUse_foldl (inUse_withHanded h _) fun c u k => ?_
  unfold takeClaimEvent
  split <;> simp [k]

@[simp] theorem inUse_convertPaths : InUse s (convertPaths t) := by simp [convertPaths, h]

@[simp] theorem inUse_convertSchedule : InUse s (convertSchedule t) :=
  inUse_withSequencer (inUse_convertSources h ..) _ (schedule := usable_nil _)

/-! ### Requests and the start -/

theorem inUse_segmentRequest (code tag : Byte) (g : Nat) {f : State → State}
    (k : ∀ u, InUse s u → InUse s (f u)) :
    InUse s (segmentRequest code tag g f t) :=
  inUse_zeroLeads (inUse_reply (inUse_segmentEvent h _ k) ..) _

@[simp] theorem inUse_closeSegment (tag segment urgent : Byte) :
    InUse s (closeSegment tag segment urgent t) := by
  unfold closeSegment
  dsimp only
  split
  · simp [h]
  · split
    · simp [h]
    · split
      · simp [h]
      · split
        · simp [h]
        · exact inUse_segmentRequest h _ _ _ fun _ k => inUse_placeClaim k ..

@[simp] theorem inUse_releaseSegment (tag segment : Byte) :
    InUse s (releaseSegment tag segment t) := by
  unfold releaseSegment
  dsimp only
  split
  · simp [h]
  · split
    · simp [h]
    · split
      · simp [h]
      · split
        · exact inUse_segmentRequest h _ _ _ fun _ k => inUse_removeClaims k ..
        · simp [h]

@[simp] theorem inUse_setTime (tag : Byte) (broadcast : Bool) (day : BitVec 16) (second : BitVec 24) :
    InUse s (setTime tag broadcast day second t) := by
  unfold setTime
  split
  · simp [h]
  · split
    · split
      · exact h
      · simp [h]
    · have k := inUse_segmentEvent (inUse_withClock h (some
        { day := day.toNat, second := second.toNat, next := t.now + 10 })) .claim
        fun _ k => inUse_evaluateAfterSet k
      dsimp only
      split <;> simp [k]

theorem inUse_sequencerStarts : InUse s (sequencerStarts t) := by
  have gates : t.usable .gates (startedSequencer t).gateRows := by
    simp only [startedSequencer]
    split
    · exact usable_drives t
    · exact usable_nil _
  refine inUse_takeWaiting (inUse_segmentsEnter
    (inUse_withSequencer h _ (usable_nil _) (usable_serviceRows _) gates)) fun c f u e k => ?_
  unfold sequencerRequest at e
  split at e <;> cases e <;> simp [k]

end

end Sys2Proof.Machine
end

section
/-!
SUPPORT. The operations of the Gate Drive Units leave them with usable rows.
-/

namespace Sys2Proof.Machine

-- Many short proofs: elaborated one after another, as side by side they would hold a thread each.
set_option Elab.async false

section
variable {s t : State} (h : InUse s t)
include h

@[simp] theorem inUse_putGate (k : Nat) (g : GateRec) : InUse s (putGate k g t) := by
  unfold putGate
  dsimp only
  split
  · exact inUse_withDrives h _
  · exact inUse_hand (inUse_withDrives h _) _

@[simp] theorem inUse_gateReport (k : Nat) (before : GateState) (cause : GateCause) :
    InUse s (gateReport k before t cause) := by
  unfold gateReport
  split
  · exact h
  · exact inUse_report h ..

theorem inUse_gateReports (k : Nat) (before : GateState) (causes : List GateCause) :
    InUse s (causes.foldl (gateReport k before) t) :=
  inUse_foldl h fun cause _ hu => inUse_gateReport hu k before cause

theorem inUse_gateEvent (k : Nat) {f : GateRec → GateRow → State → GateRun}
    (hf : ∀ g row, InUse s (f g row t).1) : InUse s (gateEvent k f t) := by
  unfold gateEvent
  split
  · exact h
  · exact inUse_gateReports (hf ..) ..

@[simp] theorem inUse_giveUp (k : Nat) (g : GateRec) : InUse s (giveUp k g t) := by
  unfold giveUp
  split
  · exact h
  · exact inUse_hand h _
  · exact inUse_hand h _

@[simp] theorem inUse_requestRaise (k : Nat) (row : GateRow) (g : GateRec) :
    InUse s (requestRaise k row g t) := by
  unfold requestRaise
  split
  · exact inUse_hand (inUse_putGate h ..) _
  · exact inUse_putGate h ..

@[simp] theorem inUse_askLowering (k : Nat) (row : GateRow) (g : GateRec) :
    InUse s (askLowering k row g t) := by
  unfold askLowering
  split
  · exact inUse_hand (inUse_putGate h ..) _
  · exact inUse_putGate h ..

@[simp] theorem inUse_enterHeld (k : Nat) (row : GateRow) (g : GateRec) :
    InUse s (enterHeld k row g t) := inUse_askLowering h ..

@[simp] theorem inUse_goFault (k : Nat) (cause : FaultCause) (g : GateRec) :
    InUse s (goFault k cause g t).1 := inUse_putGate (inUse_giveUp h ..) ..

@[simp] theorem inUse_settleEnd (k : Nat) (row : GateRow) (g : GateRec) :
    InUse s (settleEnd k row g t).1 := by
  unfold settleEnd
  split
  · unfold settleLowered
    split
    · dsimp only
      split
      · exact inUse_requestRaise h ..
      · exact inUse_putGate h ..
    · exact inUse_goFault h ..
  · unfold settleRaised
    dsimp only
    split
    · split
      · exact inUse_enterHeld h ..
      · exact inUse_goFault h ..
    · split
      · exact inUse_enterHeld (inUse_putGate h ..) ..
      · exact inUse_putGate h ..

@[simp] theorem inUse_enterSettle (k : Nat) (dir : Direction) (row : GateRow) (g : GateRec) :
    InUse s (enterSettle k dir row g t).1 := by
  have e : ∀ r, InUse s (putGate k r (giveUp k g t)) := fun r => inUse_putGate (inUse_giveUp h ..) ..
  unfold enterSettle
  dsimp only
  split
  · exact inUse_settleEnd (e _) ..
  · exact e _

@[simp] theorem inUse_beginTravel (k : Nat) (dir : Direction) (row : GateRow) (g : GateRec) :
    InUse s (beginTravel k dir row g t).1 := by
  unfold beginTravel
  dsimp only
  split
  · exact inUse_putGate (inUse_putGate h ..) ..
  · split
    · exact inUse_putGate (inUse_putGate h ..) ..
    · exact inUse_putGate h ..

@[simp] theorem inUse_dwellEnd (k : Nat) (g : GateRec) (row : GateRow) :
    InUse s (dwellEnd k g row t).1 := by
  unfold dwellEnd
  dsimp only
  split
  · exact inUse_putGate (inUse_giveUp h ..) ..
  · split
    · exact inUse_enterSettle h ..
    · split
      · exact inUse_enterHeld (inUse_giveUp h ..) ..
      · exact inUse_beginTravel h ..

@[simp] theorem inUse_lowerAtRest (k : Nat) (row : GateRow) (g : GateRec) :
    InUse s (lowerAtRest k row g t) := by
  unfold lowerAtRest
  split
  · exact inUse_enterHeld (inUse_giveUp h ..) ..
  · exact inUse_enterHeld h ..
  · exact inUse_putGate (inUse_giveUp h ..) ..
  · exact inUse_askLowering h ..
  · exact inUse_putGate h ..

@[simp] theorem inUse_raiseHeld (k : Nat) (row : GateRow) (g : GateRec) :
    InUse s (raiseHeld k row g t) := by
  unfold raiseHeld
  dsimp only
  split
  · exact inUse_putGate (inUse_giveUp h ..) ..
  · exact inUse_requestRaise (inUse_giveUp h ..) ..

@[simp] theorem inUse_actOnOrder (k : Nat) (g : GateRec) (row : GateRow) :
    InUse s (actOnOrder k g row t) := by
  unfold actOnOrder
  split
  · refine inUse_putGate ?_ ..
    split
    · exact inUse_giveUp h ..
    · exact h
  · split
    · exact inUse_putGate h ..
    · exact inUse_lowerAtRest h ..
  · dsimp only
    split
    · exact inUse_requestRaise h ..
    · exact inUse_requestRaise h ..
    · exact inUse_raiseHeld h ..
    · split <;> exact inUse_putGate h ..
    · exact inUse_putGate h ..

@[simp] theorem inUse_takeOrder (o : GateOrder) (k : Nat) (g : GateRec) (row : GateRow) :
    InUse s (takeOrder o k g row t).1 := by
  unfold takeOrder
  split
  · exact h
  · exact inUse_actOnOrder h ..

@[simp] theorem inUse_loseSegment (k : Nat) : InUse s (loseSegment k t) := by
  unfold loseSegment
  split
  · exact inUse_gateEvent h k fun _ _ => inUse_takeOrder h ..
  · exact h

@[simp] theorem inUse_grantAt (dir : Direction) (k : Nat) (g : GateRec) (row : GateRow) :
    InUse s (grantAt dir k g row t).1 := by
  unfold grantAt
  split
  · split
    · exact inUse_beginTravel h ..
    · exact inUse_putGate (inUse_hand h _) ..
  · split
    · exact inUse_beginTravel h ..
    · exact inUse_hand h _

@[simp] theorem inUse_takeGrant (k : Nat) (dir : Direction) : InUse s (takeGrant k dir t) := by
  unfold takeGrant
  split
  · exact inUse_gateEvent h k fun _ _ => inUse_grantAt h ..
  · exact inUse_hand h _

@[simp] theorem inUse_testEnd (k : Nat) (row : GateRow) (g : GateRec) :
    InUse s (testEnd k row g t).1 := by
  unfold testEnd
  split
  · exact inUse_putGate h ..
  · split
    · split
      · exact inUse_enterSettle h ..
      · exact inUse_putGate h ..
    · split
      · exact inUse_enterSettle h ..
      · split
        · exact inUse_goFault h ..
        · exact inUse_putGate h ..

@[simp] theorem inUse_illegalEdge (k : Nat) (g : GateRec) : InUse s (illegalEdge k g t).1 := by
  unfold illegalEdge
  split
  · dsimp only
    split
    · exact inUse_goFault h ..
    · exact inUse_putGate h ..
  · exact h

@[simp] theorem inUse_edgeAt (moved k : Nat) (g : GateRec) (row : GateRow) :
    InUse s (edgeAt moved k g row t).1 := by
  unfold edgeAt
  split
  · exact h
  · exact inUse_illegalEdge h ..
  · exact inUse_testEnd h ..

@[simp] theorem inUse_encoderEdge (k : Nat) (a b home closedEnd : Bool) :
    InUse s (encoderEdge k a b home closedEnd t) := by
  unfold encoderEdge
  split
  · exact h
  · exact inUse_gateEvent (inUse_withDrives h _) k fun _ _ => inUse_edgeAt (inUse_withDrives h _) ..

@[simp] theorem inUse_safetyAt (active : Bool) (k : Nat) (g : GateRec) (row : GateRow) :
    InUse s (safetyAt active k g row t).1 := by
  unfold safetyAt
  split
  · exact inUse_putGate h ..
  · exact inUse_askLowering h ..

@[simp] theorem inUse_safetyEdge (k : Nat) (active : Bool) : InUse s (safetyEdge k active t) := by
  unfold safetyEdge
  split
  · exact h
  · dsimp only
    split
    · exact h
    · exact inUse_gateEvent (inUse_withDrives h _) k fun _ _ => inUse_safetyAt (inUse_withDrives h _) ..

@[simp] theorem inUse_loopAt (level : Bool) (k : Nat) (g : GateRec) (row : GateRow) :
    InUse s (loopAt level k g row t).1 := by
  unfold loopAt
  split
  · exact h
  · split
    · exact h
    · exact inUse_putGate h ..

@[simp] theorem inUse_loopEdge (k : Nat) (level : Bool) : InUse s (loopEdge k level t) := by
  unfold loopEdge
  split
  · exact h
  · exact inUse_gateEvent (inUse_withDrives h _) k fun _ _ => inUse_loopAt (inUse_withDrives h _) ..

@[simp] theorem inUse_buildGate (k : Nat) : InUse s (buildGate k t) := by
  unfold buildGate
  split
  · exact inUse_withDrawn (inUse_withDrives h _) _
  · exact h

@[simp] theorem inUse_useGates : InUse s (useGates t) :=
  inUse_forEach (inUse_withDrives h _ (usable_serviceRows _)) fun k _ hu => inUse_buildGate hu k

@[simp] theorem inUse_gatesEnter : InUse s (gatesEnter t) := by
  unfold gatesEnter
  split
  · exact inUse_hand (inUse_useGates h) _
  · exact h

@[simp] theorem inUse_gatesLeave : InUse s (gatesLeave t) := by
  refine inUse_withDrives (inUse_forEach h fun k u hu => ?_) _ (usable_nil _)
  unfold releaseGate
  split
  · exact hu
  · exact inUse_putGate (inUse_giveUp hu ..) ..

@[simp] theorem inUse_buildDrives : InUse s (buildDrives t) := by
  unfold buildDrives
  dsimp only
  split
  · exact inUse_gatesEnter (inUse_withDrives h _ (usable_nil _))
  · split
    · exact inUse_useGates (inUse_withDrives h _ (usable_nil _))
    · exact inUse_withDrives h _ (usable_nil _)

theorem inUse_resumeAt (k : Nat) (g : GateRec) (row : GateRow) {r : GateRun} (e : resumeAt k g row t = some r) :
    InUse s r.1 := by
  unfold resumeAt at e
  dsimp only at e
  split at e
  · cases e; exact inUse_putGate h ..
  · split at e
    · cases e; exact inUse_enterSettle h ..
    · split at e
      · cases e
      · split at e
        · cases e; exact inUse_enterHeld h ..
        · cases e; exact inUse_requestRaise h ..

@[simp] theorem inUse_gateStop (tag gate : Byte) : InUse s (gateStop tag gate t) := by
  unfold gateStop
  dsimp only
  split
  · exact inUse_deferred h _
  · split
    · exact inUse_reply h ..
    · split
      · exact inUse_reply h ..
      · have k : ∀ r x data,
          InUse s ((putGate gate.toNat r (giveUp gate.toNat x t)).reply 0x28 tag done data) :=
          fun _ _ _ => inUse_reply (inUse_putGate (inUse_giveUp h ..) ..) ..
        split
        · exact k ..
        · exact inUse_gateReport (k ..) ..

@[simp] theorem inUse_gateResume (tag gate : Byte) : InUse s (gateResume tag gate t) := by
  unfold gateResume
  dsimp only
  split
  · exact inUse_deferred h _
  · split
    · exact inUse_reply h ..
    · split
      · exact inUse_reply h ..
      · split
        · split
          · exact inUse_reply h ..
          · next e => exact inUse_gateReports (inUse_reply (inUse_resumeAt h _ _ _ e) ..) ..
        · exact inUse_reply h ..

theorem inUse_drivesStart : InUse s (drivesStart t) := by
  refine inUse_takeWaiting (inUse_buildDrives h) fun c f u e k => ?_
  unfold drivesRequest at e
  split at e <;> cases e
  · exact inUse_gateStop k ..
  · exact inUse_gateResume k ..

end

end Sys2Proof.Machine
end

section
/-!
SUPPORT. The operations of Sample Intake, the Grade Evaluator and the Path Monitor leave them with usable rows.
-/

namespace Sys2Proof.Machine

-- Many short proofs: elaborated one after another, as side by side they would hold a thread each.
set_option Elab.async false

section
variable {s t : State} (h : InUse s t)
include h

/-! ### Sample Intake -/

@[simp] theorem inUse_storeChannel (c : Nat) (kind : Byte) (old new : ChannelRec) (good : Bool) :
    InUse s (storeChannel c kind old new good t) := by
  have k := inUse_withIntake h { t.intake with channels := mapPut t.intake.channels c new }
  have k2 : ∀ (x : Prop) [Decidable x] (kind data), InUse s
      (if x then (t.withIntake { t.intake with channels := mapPut t.intake.channels c new }).report kind data
        else t.withIntake { t.intake with channels := mapPut t.intake.channels c new }) := by
    intro x _ _ _
    split
    · exact inUse_report k ..
    · exact k
  unfold storeChannel
  dsimp only
  split
  · refine inUse_hand ?_ _
    split
    · exact inUse_hand (k2 ..) _
    · exact k2 ..
  · split
    · exact inUse_hand (k2 ..) _
    · exact k2 ..

@[simp] theorem inUse_takeSample (a : Arrival) : InUse s (takeSample a t) := by
  unfold takeSample
  split
  · split
    · exact h
    · refine inUse_foldl h fun e u hu => ?_
      unfold takeEntry
      split
      · exact hu
      · split
        · split
          · exact hu
          · split <;> exact inUse_storeChannel hu ..
        · exact hu
  · exact h

@[simp] theorem inUse_useChannels : InUse s (useChannels t) :=
  inUse_withIntake h _ (usable_serviceRows _)

@[simp] theorem inUse_intakeEnters : InUse s (intakeEnters t) := by
  unfold intakeEnters
  split
  · exact inUse_useChannels h
  · exact h

@[simp] theorem inUse_intakeLeaves : InUse s (intakeLeaves t) :=
  inUse_handAll (inUse_withIntake h _ (usable_nil _)) _

@[simp] theorem inUse_intakeStarts : InUse s (intakeStarts t) := by
  unfold intakeStarts
  dsimp only
  split
  · exact inUse_useChannels (inUse_withIntake h _ (usable_nil _))
  · exact inUse_withIntake h _ (usable_nil _)

@[simp] theorem inUse_intakeRestarts : InUse s (intakeRestarts t) :=
  inUse_handAll (inUse_withIntake h _) _

/-! ### The Grade Evaluator -/

@[simp] theorem inUse_storeGrade (g : Nat) (cause : GradeCause) (old new : GradeRec) :
    InUse s (storeGrade g cause old new t) := by
  unfold storeGrade
  dsimp only
  split
  · exact inUse_withGrader h _
  · exact inUse_report (inUse_handAll (inUse_withGrader h _) _) ..

@[simp] theorem inUse_regrade (g : Nat) : InUse s (regrade g t) := by
  unfold regrade
  split
  · exact h
  · exact inUse_storeGrade h ..

@[simp] theorem inUse_regradeAll : InUse s (regradeAll t) :=
  inUse_forEach h fun g _ hu => inUse_regrade hu g

@[simp] theorem inUse_applyFlags (new : Map Bool) : InUse s (applyFlags new t) :=
  inUse_forEach (inUse_withGrader h _) fun g _ hu => inUse_regrade hu g

@[simp] theorem inUse_makeFlags : InUse s (makeFlags t) :=
  inUse_withGrader (inUse_withGrader h _ (rules := usable_serviceRows _)) _

@[simp] theorem inUse_rulesEnter : InUse s (rulesEnter t) := by
  unfold rulesEnter
  split
  · exact inUse_regradeAll (inUse_makeFlags h)
  · exact h

@[simp] theorem inUse_rulesLeave : InUse s (rulesLeave t) :=
  inUse_regradeAll (inUse_withGrader h _ (rules := usable_nil _))

@[simp] theorem inUse_buildGrades : InUse s (buildGrades t) :=
  inUse_handAll (inUse_withGrader (inUse_withGrader h _ (segments := usable_serviceRows _)) _) _

@[simp] theorem inUse_gradesEnter : InUse s (gradesEnter t) := by
  unfold gradesEnter
  split
  · exact inUse_buildGrades h
  · exact h

@[simp] theorem inUse_dropGrades : InUse s (dropGrades t) :=
  inUse_withGrader h _ (segments := usable_nil _)

@[simp] theorem inUse_graderRestarts : InUse s (graderRestarts t) := by
  refine inUse_forEach (inUse_withGrader h _) fun g u hu => ?_
  unfold restartGrade
  split
  · exact hu
  · exact inUse_storeGrade hu ..

@[simp] theorem inUse_buildGrader : InUse s (buildGrader t) := by
  unfold buildGrader
  dsimp only
  split
  · split
    · exact inUse_buildGrades (inUse_makeFlags (inUse_withGrader h _ (usable_nil _) (usable_nil _)))
    · exact inUse_makeFlags (inUse_withGrader h _ (usable_nil _) (usable_nil _))
  · split
    · exact inUse_buildGrades (inUse_withGrader h _ (usable_nil _) (usable_nil _))
    · exact inUse_withGrader h _ (usable_nil _) (usable_nil _)

@[simp] theorem inUse_holdGrade (tag segment floor : Byte) :
    InUse s (holdGrade tag segment floor t) := by
  unfold holdGrade
  dsimp only
  split
  · exact inUse_deferred h _
  · split
    · exact inUse_reply h ..
    · split
      · exact inUse_reply h ..
      · split
        · exact inUse_reply h ..
        · exact inUse_reply (inUse_storeGrade h ..) ..

theorem inUse_graderStarts : InUse s (graderStarts t) := by
  refine inUse_takeWaiting (inUse_buildGrader h) fun c f u e k => ?_
  unfold graderRequest at e
  split at e <;> cases e
  exact inUse_holdGrade k ..

/-! ### The Path Monitor -/

@[simp] theorem inUse_storePath (p : Nat) (mask : Byte) (cause : PathCause) (old new : PathRec) :
    InUse s (storePath p mask cause old new t) := by
  have k := inUse_handAll (inUse_withMonitor h { t.monitor with paths := mapPut t.monitor.paths p new })
    (warningEvents p mask old new ++ claimEvents p mask old new)
  unfold storePath
  dsimp only
  split
  · exact inUse_report k ..
  · exact k

@[simp] theorem inUse_changePath (p : Nat) (cause : PathCause) (f : PathRow → PathRec → PathRec) :
    InUse s (changePath p cause f t) := by
  unfold changePath
  split
  · exact inUse_storePath h ..
  · exact h

@[simp] theorem inUse_withInput (i : Nat) (r : InputRec) : InUse s (t.withInput i r) :=
  inUse_withMonitor h _

@[simp] theorem inUse_inputEdge (i : Nat) (level : Bool) : InUse s (inputEdge i level t) := by
  unfold inputEdge
  split
  · exact h
  · split
    · exact h
    · split
      · exact inUse_withInput h ..
      · split
        · exact inUse_withInput h ..
        · unfold countingEdge
          split
          · exact inUse_forEach (inUse_withInput h ..) fun p _ hu => inUse_changePath hu ..
          · exact inUse_withInput h ..
        · unfold tripwireEdge
          dsimp only
          split
          · exact inUse_forEach (inUse_withInput h ..) fun p _ hu => inUse_changePath hu ..
          · exact inUse_forEach (inUse_withInput h ..) fun p _ hu => inUse_changePath hu ..

@[simp] theorem inUse_takeDetect (a : Arrival) : InUse s (takeDetect a t) := by
  unfold takeDetect
  split
  · split
    · exact h
    · refine inUse_forEach h fun p u hu => ?_
      unfold detectAt
      split
      · exact inUse_changePath hu ..
      · exact hu
  · exact h

@[simp] theorem inUse_lineIsolated : InUse s (lineIsolated t) :=
  inUse_forEach h fun _ _ hu => inUse_changePath hu ..

@[simp] theorem inUse_pathsEnter : InUse s (pathsEnter t) := by
  unfold pathsEnter
  split
  · exact inUse_forEach (inUse_withMonitor h _ (usable_serviceRows _)) fun _ _ hu => inUse_changePath hu ..
  · exact h

@[simp] theorem inUse_pathsLeave : InUse s (pathsLeave t) :=
  inUse_handAll (inUse_withMonitor h _ (usable_nil _)) _

@[simp] theorem inUse_buildMonitor : InUse s (buildMonitor t) :=
  inUse_pathsEnter (inUse_withMonitor h _ (usable_nil _))

@[simp] theorem inUse_monitorRestarts : InUse s (monitorRestarts t) :=
  inUse_forEach h fun _ _ hu => inUse_changePath hu ..

@[simp] theorem inUse_answerPath (code : Byte) (request : Instr) (tag path : Byte) (decision : Decision) :
    InUse s (answerPath code request tag path decision t) := by
  unfold answerPath
  dsimp only
  split
  · exact inUse_deferred h _
  · split
    · exact inUse_reply h ..
    · split
      · exact inUse_reply h ..
      · split
        · exact inUse_reply h ..
        · exact inUse_reply (inUse_changePath h ..) ..

@[simp] theorem inUse_clearPathRequest (tag path : Byte) :
    InUse s (clearPathRequest tag path t) := by
  unfold clearPathRequest
  dsimp only
  split
  · exact inUse_deferred h _
  · split
    · exact inUse_reply h ..
    · split
      · exact inUse_reply h ..
      · exact inUse_reply (inUse_changePath h ..) ..

theorem inUse_monitorStarts : InUse s (monitorStarts t) := by
  refine inUse_takeWaiting (inUse_buildMonitor h) fun c f u e k => ?_
  unfold monitorRequest at e
  split at e <;> cases e
  · exact inUse_answerPath k ..
  · exact inUse_answerPath k ..
  · exact inUse_clearPathRequest k ..

end

end Sys2Proof.Machine
end

section
/-!
SUPPORT. The operations of the Budget Allocator and of the Sign Publisher leave them with usable rows.
-/

namespace Sys2Proof.Machine

-- Many short proofs: elaborated one after another, as side by side they would hold a thread each.
set_option Elab.async false

/-! ### The Budget Allocator -/

/-- The examination of the queue leaves the rows that the Allocator works with. -/
theorem examineEntries_rows (l : List MotionEntry) (a : Allocator) :
    (examineEntries a l).1.signRows = a.signRows ∧ (examineEntries a l).1.gateRows = a.gateRows := by
  induction l generalizing a with
  | nil => exact ⟨rfl, rfl⟩
  | cons x rest ih =>
    unfold examineEntries
    split
    · exact ih _
    · exact ⟨rfl, rfl⟩

section
variable {s t : State} (h : InUse s t)
include h

@[simp] theorem inUse_examineQueue : InUse s (examineQueue t) := by
  unfold examineQueue
  split
  · obtain ⟨signs, gates⟩ := examineEntries_rows t.allocator.queue t.allocator
    exact inUse_handAll (inUse_withAllocator h _ (by rw [signs]; exact usable_lit t)
      (by rw [gates]; exact usable_drawing t)) _
  · exact h

@[simp] theorem inUse_storeQueue (q : List MotionEntry) : InUse s (storeQueue q t) := by
  unfold storeQueue
  dsimp only
  split
  · exact inUse_withAllocator h _
  · exact inUse_examineQueue (inUse_withAllocator h _)

@[simp] theorem inUse_computeFigures : InUse s (computeFigures t) := inUse_withAllocator h _

@[simp] theorem inUse_recompute (cause : BudgetCause) : InUse s (recompute cause t) := by
  have k : ∀ (old new : Map Nat) (x : Prop) [Decidable x], InUse s
      (if x then examineQueue ((computeFigures t).handAll (grantNotices old new))
        else (computeFigures t).handAll (grantNotices old new)) := by
    intro old new x _
    split
    · exact inUse_examineQueue (inUse_handAll (inUse_computeFigures h) _)
    · exact inUse_handAll (inUse_computeFigures h) _
  unfold recompute
  dsimp only
  split
  · exact k ..
  · exact inUse_report (k ..) ..

theorem inUse_takeEarly {notice : Instr} {effect : State → State}
    (k : ∀ u, InUse s u → InUse s (effect u)) :
    InUse s (takeEarly notice effect t) := by
  unfold takeEarly
  split
  · exact k _ (inUse_withHanded h _)
  · exact h

@[simp] theorem inUse_allocatorSigns : InUse s (allocatorSigns t) := by
  unfold allocatorSigns
  split
  · exact h
  · exact inUse_recompute (inUse_withAllocator h _ (signs := usable_serviceRows _)) _

@[simp] theorem inUse_allocatorGates : InUse s (allocatorGates t) := by
  unfold allocatorGates
  split
  · exact h
  · exact inUse_recompute (inUse_withAllocator h _ (gates := usable_serviceRows _)) _

@[simp] theorem inUse_refreshRequested (n : Nat) : InUse s (refreshRequested n t) := by
  unfold refreshRequested
  split
  · exact h
  · exact inUse_recompute (inUse_withAllocator h _) _

@[simp] theorem inUse_allocatorSignsGone : InUse s (allocatorSignsGone t) :=
  inUse_recompute (inUse_withAllocator h _ (signs := usable_nil _)) _

@[simp] theorem inUse_allocatorGatesGone : InUse s (allocatorGatesGone t) :=
  inUse_recompute (inUse_withAllocator h _ (gates := usable_nil _)) _

@[simp] theorem inUse_allocatorSegmentsGone : InUse s (allocatorSegmentsGone t) :=
  inUse_storeQueue (inUse_withAllocator h _) _

@[simp] theorem inUse_ensureSigns : InUse s (ensureSigns t) := by
  unfold ensureSigns
  split
  · exact inUse_allocatorSigns (inUse_takeEarly h fun _ k => inUse_allocatorSignsGone k)
  · exact h

@[simp] theorem inUse_ensureGates : InUse s (ensureGates t) := by
  unfold ensureGates
  split
  · exact inUse_allocatorGates (inUse_takeEarly h fun _ k => inUse_allocatorGatesGone k)
  · exact h

@[simp] theorem inUse_ensureSegments : InUse s (ensureSegments t) := by
  unfold ensureSegments
  split
  · exact inUse_takeEarly h fun _ k => inUse_allocatorSegmentsGone k
  · exact h

@[simp] theorem inUse_budgetRegion (r : Region) (entered : Bool) :
    InUse s (budgetRegion r entered t) := by
  unfold budgetRegion
  split
  · exact inUse_ensureSigns h
  · exact inUse_allocatorSignsGone h
  · exact inUse_ensureGates h
  · exact inUse_allocatorGatesGone h
  · exact inUse_recompute (inUse_withAllocator h _) _
  · exact inUse_allocatorSegmentsGone h
  · exact inUse_ensureSegments h
  · exact h

@[simp] theorem inUse_requestAdmission (k : Nat) (dir : Direction) (draw : Nat) :
    InUse s (requestAdmission k dir draw t) := by
  unfold requestAdmission
  dsimp only
  split
  · exact inUse_examineQueue (inUse_withAllocator (inUse_ensureGates h) _)
  · exact inUse_ensureGates h

@[simp] theorem inUse_takeBack (k : Nat) : InUse s (takeBack k t) :=
  inUse_examineQueue (inUse_withAllocator h _)

@[simp] theorem inUse_segmentUrgency (g : Nat) (urgent : Bool) :
    InUse s (segmentUrgency g urgent t) := by
  unfold segmentUrgency
  split
  · exact inUse_storeQueue (inUse_withAllocator (inUse_ensureSegments h) _) _
  · exact h

@[simp] theorem inUse_signLit (g : Nat) (lit : Bool) : InUse s (signLit g lit t) := by
  have k := inUse_ensureSigns h
  unfold signLit
  dsimp only
  generalize (if lit then setInsert _ g else setRemove _ g) = l
  split
  · exact k
  · split
    · exact k
    · exact inUse_recompute (inUse_withAllocator k _) _

@[simp] theorem inUse_lightChange (c : Nat) (status : ChannelStatus) (filtered : Int) :
    InUse s (lightChange c status filtered t) := by
  unfold lightChange
  split
  · exact inUse_refreshRequested h _
  · exact h

@[simp] theorem inUse_siteChanged (f : SiteField) : InUse s (siteChanged f t) := by
  unfold siteChanged
  split
  · exact h
  · split
    · exact inUse_recompute h _
    · exact inUse_refreshRequested h _
    · exact inUse_refreshRequested h _
    all_goals exact h

@[simp] theorem inUse_firstFigures : InUse s (firstFigures t) :=
  inUse_withAllocator (inUse_recompute (inUse_withAllocator (inUse_withAllocator h _) _) _) _

@[simp] theorem inUse_setBudget (tag : Byte) (budget : BitVec 16) :
    InUse s (setBudget tag budget t) := by
  unfold setBudget
  split
  · exact inUse_deferred h _
  · exact inUse_reply (inUse_recompute (inUse_withAllocator h _) _) ..

theorem inUse_allocatorStarts : InUse s (allocatorStarts t) := by
  refine inUse_takeWaiting (inUse_handAll (inUse_firstFigures h) _) fun c f u e k => ?_
  unfold allocatorRequest at e
  split at e <;> cases e
  exact inUse_setBudget k ..

/-! ### The Sign Publisher -/

@[simp] theorem inUse_withSign (g : Nat) (r : SignRec) : InUse s (t.withSign g r) :=
  inUse_withPublisher h _

@[simp] theorem inUse_withHold (p : Port) (l : List Nat) : InUse s (t.withHold p l) :=
  inUse_withPublisher h _ (by cases p <;> exact usable_publisher t)

@[simp] theorem inUse_withSweep (w : Option Sweep) : InUse s (t.withSweep w) :=
  inUse_withPublisher h _

@[simp] theorem inUse_attempt (g : Nat) (front : Bool) :
    InUse s (attempt g front t).1 := by
  unfold attempt
  split
  · next r row _ _ =>
    have k := inUse_offer h row.port
      { frame := t.compose .faceSet (BitVec.ofNat 10 row.address) (faceSetPayload (r.token + 1) r.desired)
        restartReply := false }
    dsimp only
    split
    · next u e => rw [e] at k; exact inUse_withSign k ..
    · next u e => rw [e] at k; exact inUse_withHold (inUse_withSign k ..) ..
  · exact h

@[simp] theorem inUse_startCycle (g : Nat) : InUse s (startCycle g t) := by
  unfold startCycle
  split
  · exact h
  · exact inUse_attempt (inUse_withSign h ..) ..

theorem inUse_serveHeld (p : Port) (l : List Nat) : InUse s (serveHeld p l t) := by
  induction l generalizing t with
  | nil => exact h
  | cons g rest ih =>
    have k := inUse_attempt (inUse_withHold h p rest) g true
    unfold serveHeld
    split
    · next u e => rw [e] at k; exact ih k
    · next u e => rw [e] at k; exact k

@[simp] theorem inUse_refreshDesired (g : Nat) : InUse s (refreshDesired g t) := by
  unfold refreshDesired
  split
  · exact h
  · dsimp only
    split
    · exact h
    · split
      · split
        · exact inUse_withSign h ..
        · exact inUse_startCycle (inUse_withSign h ..) g
      · exact inUse_withSign h ..
      · exact inUse_withSign h ..

@[simp] theorem inUse_decideSign (g : Nat) : InUse s (decideSign g t) := by
  unfold decideSign
  split
  · dsimp only
    refine inUse_refreshDesired ?_ g
    split
    · exact inUse_withSign h ..
    · exact inUse_hand (inUse_withSign h ..) _
  · exact h

theorem inUse_decideSigns (l : List Nat) : InUse s (forEach l decideSign t) :=
  inUse_forEach h fun g _ hu => inUse_decideSign hu g

@[simp] theorem inUse_viewSegment (g : Nat) (f : SegmentView → SegmentView) :
    InUse s (viewSegment g f t) := by
  unfold viewSegment
  split
  · exact h
  · exact inUse_decideSigns (inUse_withPublisher h _) _

@[simp] theorem inUse_viewPath (p : Nat) (on : Bool) (mask : Byte) :
    InUse s (viewPath p on mask t) := inUse_decideSigns (inUse_withPublisher h _) _

@[simp] theorem inUse_takeGranted (g level : Nat) : InUse s (takeGranted g level t) := by
  unfold takeGranted
  split
  · exact h
  · exact inUse_refreshDesired (inUse_withSign h ..) g

@[simp] theorem inUse_sweepDone (w : Sweep) : InUse s (sweepDone w t) :=
  inUse_reply (inUse_withSweep h _) ..

@[simp] theorem inUse_sweepStop (w : Sweep) (reason : Byte) :
    InUse s (sweepStop w reason t) := inUse_reply (inUse_withSweep h _) ..

@[simp] theorem inUse_sweepTake (w : Sweep) : InUse s (sweepTake w t) := by
  unfold sweepTake
  split
  · exact inUse_sweepDone h w
  · split
    · exact inUse_sweepStop h ..
    · split
      · exact inUse_withSweep (inUse_startCycle h _) _
      · exact inUse_withSweep h _

@[simp] theorem inUse_sweepOwnEnd (w : Sweep) (status : SignStatus) :
    InUse s (sweepOwnEnd w status t) := by
  unfold sweepOwnEnd
  split
  · exact inUse_sweepTake h _
  · exact inUse_sweepStop h ..

@[simp] theorem inUse_cycleEnd (g : Nat) (status : SignStatus) :
    InUse s (cycleEnd g status t) := by
  have k : ∀ (x : Prop) [Decidable x] r, InUse s
      (if x then startCycle g (t.withSign g r) else t.withSign g r) := by
    intro x _ r
    split
    · exact inUse_startCycle (inUse_withSign h ..) g
    · exact inUse_withSign h ..
  unfold cycleEnd
  split
  · dsimp only
    split
    · exact k ..
    · split
      · split
        · exact inUse_sweepOwnEnd (k ..) ..
        · exact inUse_withSweep (inUse_startCycle (inUse_withSign h ..) g) _
      · exact k ..
  · exact h

@[simp] theorem inUse_signReport (g : Nat) (old : SignRec) (mismatch : Bool) :
    InUse s (signReport g old mismatch t) := by
  unfold signReport
  split
  · exact h
  · split
    · exact h
    · exact inUse_report h ..

@[simp] theorem inUse_failAttempt (g : Nat) (old r : SignRec) :
    InUse s (failAttempt g old r t) := by
  unfold failAttempt
  split
  · exact inUse_signReport (inUse_attempt (inUse_withSign h ..) ..) ..
  · exact inUse_signReport (inUse_cycleEnd (inUse_withSign h ..) ..) ..

@[simp] theorem inUse_takeReport (a : Arrival) : InUse s (takeReport a t) := by
  unfold takeReport
  split
  · split
    · unfold reportAt
      split
      · exact h
      · split
        · dsimp only
          split
          · exact inUse_signReport (inUse_cycleEnd (inUse_hand (inUse_withSign h ..) _) ..) ..
          · exact inUse_failAttempt h ..
        · exact h
    · exact h
  · exact h

@[simp] theorem inUse_setForced (g : Nat) (f : Option (Byte × Nat)) :
    InUse s (setForced g f t) := by
  unfold setForced
  split
  · exact h
  · exact inUse_decideSign (inUse_withSign h ..) g

@[simp] theorem inUse_forceFace (tag sign face : Byte) (duration : BitVec 16) :
    InUse s (forceFace tag sign face duration t) := by
  unfold forceFace
  dsimp only
  split
  · exact inUse_deferred h _
  · split
    · exact inUse_reply h ..
    · split
      · exact inUse_reply h ..
      · refine inUse_reply ?_ ..
        split
        · exact h
        · exact inUse_setForced h ..

@[simp] theorem inUse_signSweep (tag : Byte) (signs : List Byte) :
    InUse s (signSweep tag signs t) := by
  unfold signSweep
  split
  · exact inUse_deferred h _
  · split
    · exact inUse_reply h ..
    · split
      · exact inUse_reply h ..
      · split
        · exact inUse_reply h ..
        · split
          · exact inUse_reply h ..
          · exact inUse_sweepTake h _

@[simp] theorem inUse_publishSign (wasLit : Nat → Bool) (g : Nat) :
    InUse s (publishSign wasLit g t) := by
  unfold publishSign
  split
  · dsimp only
    refine inUse_startCycle ?_ g
    split
    · exact inUse_withSign h ..
    · exact inUse_hand (inUse_withSign h ..) _
  · exact h

@[simp] theorem inUse_buildSigns (wasLit : Nat → Bool) :
    InUse s (buildSigns wasLit t) := by
  refine inUse_forEach (inUse_withPublisher ?_ _) fun g _ hu => inUse_publishSign hu wasLit g
  exact inUse_ensureSigns (inUse_withPublisher h _ (usable_serviceRows _))

@[simp] theorem inUse_signsEnter : InUse s (signsEnter t) := by
  unfold signsEnter
  split
  · exact inUse_buildSigns h _
  · exact h

@[simp] theorem inUse_signsLeave : InUse s (signsLeave t) := by
  unfold signsLeave
  dsimp only
  split
  · exact inUse_withPublisher h _ (usable_nil _)
  · exact inUse_sweepStop (inUse_withPublisher h _ (usable_nil _)) ..

@[simp] theorem inUse_signerSegments (entered : Bool) :
    InUse s (signerSegments entered t) := inUse_decideSigns (inUse_withPublisher h _) _

@[simp] theorem inUse_rebuildSigns (started : Bool) (wasLit : Nat → Bool) :
    InUse s (rebuildSigns started wasLit t) := by
  unfold rebuildSigns
  dsimp only
  split
  · exact inUse_buildSigns (inUse_withPublisher (inUse_withPublisher h _ (usable_nil _)) _) _
  · exact inUse_withPublisher (inUse_withPublisher h _ (usable_nil _)) _

theorem inUse_publisherStarts : InUse s (publisherStarts t) := by
  refine inUse_takeWaiting (inUse_rebuildSigns h ..) fun c f u e k => ?_
  unfold publisherRequest at e
  split at e <;> cases e
  · exact inUse_forceFace k ..
  · exact inUse_signSweep k ..

end

end Sys2Proof.Machine
end

section
/-!
SUPPORT. Every command but those of the Table Store and of the supply leaves the jobs with usable rows: the operations
of the Line Switch and of the Responder, the expiries, and the commands one by one.
-/

namespace Sys2Proof.Machine

-- Many short proofs: elaborated one after another, as side by side they would hold a thread each.
set_option Elab.async false

section
variable {s t : State} (h : InUse s t)
include h

/-! ### The Line Switch and the Responder -/

@[simp] theorem inUse_withLine (l : LineSwitch) : InUse s (t.withLine l) := inUse_of_rows h rfl rfl rfl

@[simp] theorem inUse_withPort (p : Port) (q : PortState) : InUse s (t.withPort p q) := inUse_withLine h _

@[simp] theorem inUse_withResponder (r : Responder) : InUse s (t.withResponder r) := inUse_of_rows h rfl rfl rfl

@[simp] theorem inUse_give (gs : List Given) : InUse s (t.give gs) := inUse_of_line h (lineTouched_give t gs)

@[simp] theorem inUse_select (p : Port) : InUse s (select p t) := inUse_of_line h (lineTouched_select p t)

@[simp] theorem inUse_releaseRestart : InUse s (releaseRestart t) := inUse_of_line h (lineTouched_releaseRestart t)

theorem inUse_linkUp (p : Port) : InUse s (linkUp p t) := by
  unfold linkUp
  dsimp only
  split <;> simp [h]

theorem inUse_linkDown (p : Port) : InUse s (linkDown p t) := by
  unfold linkDown loseFrames
  dsimp only
  have k := fun gs q => inUse_give (inUse_withPort h p q) gs
  split
  · split
    · exact inUse_releaseRestart (k ..)
    · exact k ..
  · exact h

theorem inUse_setLineState (st : LineState) : InUse s (setLineState st t) := inUse_report (inUse_withLine h _) ..

@[simp] theorem inUse_centreHeard : InUse s (centreHeard t) := by
  unfold centreHeard
  dsimp only
  split
  · exact inUse_withLine h _
  · exact inUse_hand (inUse_setLineState (inUse_withLine h _) _) _

@[simp] theorem inUse_forwardFrame (p : Port) (f : Frame) : InUse s (forwardFrame p f t) := by
  unfold forwardFrame
  dsimp only
  split
  · exact h
  · split
    · exact h
    · split <;> simp [h]

theorem inUse_disposeFrame (p : Port) (f : Frame) : InUse s (disposeFrame p f t) := by
  unfold disposeFrame
  dsimp only
  split
  · exact h
  · split
    · split
      · exact inUse_hand h _
      · split <;> simp [h]
    · split
      · refine inUse_forwardFrame ?_ p f
        split
        · exact inUse_hand h _
        · split
          · exact inUse_hand h _
          · split <;> simp [h]
      · exact inUse_forwardFrame h p f

theorem inUse_receiveUnit (p : Port) (u : Bytes) : InUse s (receiveUnit p u t) := by
  unfold receiveUnit
  dsimp only
  split
  · exact h
  · split
    · exact inUse_withPort h ..
    · refine inUse_disposeFrame ?_ p _
      split <;> simp [h]

theorem inUse_completeTransmission (p : Port) : InUse s (completeTransmission p t) := by
  unfold completeTransmission
  dsimp only
  split
  · exact h
  · refine inUse_select ?_ p
    have k := fun gs q => inUse_give (inUse_withPort h p q) gs
    split
    · exact inUse_releaseRestart (k ..)
    · exact k ..
  · simp [h]

theorem inUse_silenceExpired : InUse s (silenceExpired t) := by
  unfold silenceExpired
  split
  · exact h
  · exact inUse_hand (inUse_setLineState (inUse_withLine (inUse_withTime h _) _) _) _

theorem inUse_restartEffect : InUse s (restartEffect t) := by
  unfold restartEffect
  split
  · exact inUse_handAll (inUse_handAll (inUse_give (inUse_withLine (inUse_withResponder h _) _) _) _) _
  · exact h

theorem inUse_requestRestart (tag : Byte) : InUse s (requestRestart tag t) := by
  unfold requestRestart State.restartReply
  split
  · exact inUse_reply h ..
  · exact inUse_offer (inUse_withResponder h _) ..

theorem inUse_takeManage (a : Arrival) : InUse s (takeManage a t) := by
  unfold takeManage
  split
  · exact h
  · split
    · split
      · unfold acceptBroadcast
        split <;> simp [h]
      · unfold acceptRequest
        split
        · exact inUse_reply h ..
        · split
          · split <;> simp [h]
          · exact inUse_reply h ..
    · exact h

/-- The commands that only read. -/
theorem inUse_answers {c : Instr} {u : State} (k : Answers c t u) : InUse s u := by
  cases k with
  | silent => exact h
  | deferred => exact inUse_deferred h _
  | replied _ _ _ _ => exact inUse_reply h ..

/-! ### The expiries -/

theorem inUse_ageExpired (c : Nat) : InUse s (ageExpired c t) := by
  unfold ageExpired
  split
  · exact h
  · split
    · exact h
    · exact inUse_storeChannel (inUse_withTime h _) ..

theorem inUse_holdExpired (g : Nat) : InUse s (holdExpired g t) := by
  unfold holdExpired
  split
  · exact h
  · split
    · exact h
    · exact inUse_storeGrade (inUse_withTime h _) ..

theorem inUse_deadExpired (i : Nat) : InUse s (deadExpired i t) := by
  unfold deadExpired
  split
  · exact h
  · split
    · exact h
    · exact inUse_withInput (inUse_withTime h _) ..

theorem inUse_pathAgeOut (p : Nat) : InUse s (pathAgeOut p t) := by
  unfold pathAgeOut
  split
  · split
    · exact h
    · exact inUse_changePath (inUse_withTime h _) ..
  · exact h

theorem inUse_clearExpired (p : Nat) : InUse s (clearExpired p t) := by
  unfold clearExpired
  split
  · exact h
  · exact inUse_changePath (inUse_withTime h _) ..

theorem inUse_confirmExpired (p : Nat) : InUse s (confirmExpired p t) := by
  unfold confirmExpired
  split
  · exact h
  · exact inUse_changePath (inUse_withTime h _) ..

theorem inUse_leadExpired (g : Nat) : InUse s (leadExpired g t) := by
  unfold leadExpired
  split
  · exact h
  · exact inUse_leadStep (inUse_withTime h _) g

theorem inUse_graceExpired (g : Nat) : InUse s (graceExpired g t) := by
  unfold graceExpired
  split
  · exact h
  · exact inUse_graceStep (inUse_withTime h _) g

theorem inUse_clockSecond : InUse s (clockSecond t) := by
  unfold clockSecond
  split
  · exact h
  · exact inUse_sequencerEvent (inUse_withClock (inUse_withTime h _) _) _ fun _ k => inUse_evaluateSchedule k

theorem inUse_gateExpiry {k : Nat} {timer : GateRec → Option Nat} {f : GateRec → GateRow → State → GateRun}
    (hf : ∀ u g row, InUse s u → InUse s (f g row u).1) : InUse s (gateExpiry k timer f t) := by
  unfold gateExpiry
  split
  · exact h
  · exact inUse_gateEvent (inUse_withTime h _) k fun g row => hf _ g row (inUse_withTime h _)

theorem inUse_setLoopFault (k : Nat) : InUse s (setLoopFault k t) := by
  unfold setLoopFault
  split
  · exact h
  · exact inUse_gateEvent (inUse_withTime h _) k fun _ _ => inUse_askLowering (inUse_withTime h _) ..

theorem inUse_clearanceHolds (k : Nat) : InUse s (clearanceHolds k t) := by
  unfold clearanceHolds
  split
  · exact h
  · exact inUse_gateEvent (inUse_withTime h _) k fun _ _ => inUse_askLowering (inUse_withTime h _) ..

theorem inUse_forcedExpired (g : Nat) : InUse s (forcedExpired g t) := by
  unfold forcedExpired
  split
  · exact h
  · exact inUse_setForced (inUse_withTime h _) ..

theorem inUse_replyExpired (g : Nat) : InUse s (replyExpired g t) := by
  unfold replyExpired
  split
  · exact h
  · split
    · exact h
    · exact inUse_failAttempt (inUse_withTime h _) ..

theorem inUse_republishExpired (g : Nat) : InUse s (republishExpired g t) := by
  unfold republishExpired
  split
  · exact h
  · exact inUse_startCycle (inUse_withTime h _) g

end

/-! ### Every command of a job -/

theorem taken_inUse {c : Instr} {effect : State → State} {s t : State} (h : taken c effect s = .next t)
    (k : ∀ {u}, InUse s u → InUse s (effect u)) : InUse s t := by
  rcases taken_next h with ⟨-, rfl⟩ | ⟨-, rfl⟩
  · exact .refl _
  · exact inUse_flushReports (k (inUse_withHanded (.refl s) _))

theorem exec_inUse {c : Instr} {s t : State} (h : exec c s = .next t)
    (job : touched c ∉ [.whole, .store, .storeAndSequencer, .storeAndAllocator]) : InUse s t := by
  have reads : readsOnly c = true → InUse s t := fun r => by
    obtain ⟨f, e, k⟩ := exec_reads h r
    exact taken_inUse e fun i => inUse_answers i (k _)
  cases c with
  | powerOn _ | supplyLost _ | lineConnectedNotice | openRegion _ _ _ | writeRows _ _ _ _ _ | activateRegion _ _ _
  | clearRegion _ _ | clearAll _ | siteWrite _ _ _ => exact absurd (by simp [touched]) job
  | readRows _ _ _ _ | blankCheck _ _ | siteRead _ | unknownRequest _ _ | sectionStatus _ | channelQuery _ _
  | segmentQuery _ _ _ | pathQuery _ _ | gateQuery _ _ | signQuery _ _ => exact reads rfl
  | carrierDetected p => exact taken_inUse h fun k => inUse_linkUp k p
  | carrierLost p => exact taken_inUse h fun k => inUse_linkDown k p
  | frameReceived p x => exact taken_inUse h fun k => inUse_receiveUnit k p x
  | silenceTimerExpiry => exact taken_inUse h fun k => inUse_silenceExpired k
  | frameOffered p kind dest payload =>
    exact taken_inUse (effect := frameOffer p kind dest payload) h fun k => inUse_offer k ..
  | transmissionComplete p => exact taken_inUse h fun k => inUse_completeTransmission k p
  | restartTakesEffect => exact taken_inUse h fun k => inUse_restartEffect k
  | manageFrame a => exact taken_inUse h fun k => inUse_takeManage k a
  | restart tag => exact taken_inUse h fun k => inUse_requestRestart k tag
  | sampleIntakeStart => exact taken_inUse h fun k => inUse_intakeStarts k
  | gradeEvaluatorStart => exact taken_inUse h fun k => inUse_graderStarts k
  | pathMonitorStart => exact taken_inUse h fun k => inUse_monitorStarts k
  | gateDriveStart => exact taken_inUse h fun k => inUse_drivesStart k
  | closureSequencerStart => exact taken_inUse h fun k => inUse_sequencerStarts k
  | budgetAllocatorStart => exact taken_inUse h fun k => inUse_allocatorStarts k
  | signPublisherStart => exact taken_inUse h fun k => inUse_publisherStarts k
  | spaceSignal p => exact taken_inUse h fun k => inUse_serveHeld k p _
  | sampleIntakeRestart => exact taken_inUse h fun k => inUse_intakeRestarts k
  | gradeEvaluatorRestart => exact taken_inUse h fun k => inUse_graderRestarts k
  | pathMonitorRestart => exact taken_inUse h fun k => inUse_monitorRestarts k
  | signPublisherRestart => exact taken_inUse h fun k => inUse_rebuildSigns k ..
  | lineIsolatedNotice => exact taken_inUse h fun k => inUse_lineIsolated k
  | channelsIntoService => exact taken_inUse h fun k => inUse_intakeEnters k
  | channelsOutOfService => exact taken_inUse h fun k => inUse_intakeLeaves k
  | sampleFrame a => exact taken_inUse h fun k => inUse_takeSample k a
  | ageTimerExpiry c => exact taken_inUse h fun k => inUse_ageExpired k c
  | channelUpdate _ => exact taken_inUse h fun k => inUse_applyFlags k _
  | gradeRulesIntoService => exact taken_inUse h fun k => inUse_rulesEnter k
  | gradeRulesOutOfService => exact taken_inUse h fun k => inUse_rulesLeave k
  | graderSegmentsIntoService => exact taken_inUse h fun k => inUse_gradesEnter k
  | graderSegmentsOutOfService => exact taken_inUse h fun k => inUse_dropGrades k
  | graderChannelsNotice _ => exact taken_inUse h fun k => inUse_applyFlags k _
  | descentHoldExpiry g => exact taken_inUse h fun k => inUse_holdExpired k g
  | holdGrade _ _ _ => exact taken_inUse h fun k => inUse_holdGrade k ..
  | gradeEvent _ _ _ =>
    exact taken_inUse h fun k => inUse_sequencerEvent k _ fun _ k => inUse_takeGrade k ..
  | gradeNotice g _ => exact taken_inUse h fun k => inUse_viewSegment k g _
  | countingInputEdge _ _ => exact taken_inUse h fun k => inUse_inputEdge k ..
  | tripwireInputEdge _ _ => exact taken_inUse h fun k => inUse_inputEdge k ..
  | unassignedInputEdge _ _ => exact taken_inUse h fun k => inUse_inputEdge k ..
  | deadTimerExpiry i => exact taken_inUse h fun k => inUse_deadExpired k i
  | detectFrame a => exact taken_inUse h fun k => inUse_takeDetect k a
  | ageOut p => exact taken_inUse h fun k => inUse_pathAgeOut k p
  | clearWaitExpiry p => exact taken_inUse h fun k => inUse_clearExpired k p
  | confirmWaitExpiry p => exact taken_inUse h fun k => inUse_confirmExpired k p
  | confirmPath _ _ => exact taken_inUse h fun k => inUse_answerPath k ..
  | declinePath _ _ => exact taken_inUse h fun k => inUse_answerPath k ..
  | clearPath _ _ => exact taken_inUse h fun k => inUse_clearPathRequest k ..
  | pathsIntoService => exact taken_inUse h fun k => inUse_pathsEnter k
  | pathsOutOfService => exact taken_inUse h fun k => inUse_pathsLeave k
  | warningNotice _ _ _ => exact taken_inUse h fun k => inUse_viewPath k ..
  | claimPlacement _ _ _ => exact taken_inUse h fun k => inUse_placement k ..
  | claimRemoval _ _ => exact taken_inUse h fun k => inUse_removal k ..
  | closeSegment _ _ _ => exact taken_inUse h fun k => inUse_closeSegment k ..
  | releaseSegment _ _ => exact taken_inUse h fun k => inUse_releaseSegment k ..
  | leadTimerExpiry g => exact taken_inUse h fun k => inUse_leadExpired k g
  | graceTimerExpiry g => exact taken_inUse h fun k => inUse_graceExpired k g
  | confirmationNotice _ _ => exact taken_inUse h fun k => inUse_confirmation k ..
  | gateStateNotice i => exact taken_inUse h fun k => inUse_gateNotice k i
  | clockSecond => exact taken_inUse h fun k => inUse_clockSecond k
  | setTime _ _ _ _ => exact taken_inUse h fun k => inUse_setTime k ..
  | segmentsIntoService => exact taken_inUse h fun k => inUse_segmentsEnter k
  | segmentsOutOfService => exact taken_inUse h fun k => inUse_dropSegments k
  | gatesBuiltNotice => exact taken_inUse h fun k => inUse_gatesBuilt k
  | sequencerGatesOutOfService => exact taken_inUse h fun k => inUse_gatesGone k
  | scheduleIntoService => exact taken_inUse h fun k => inUse_scheduleEnters k
  | segmentNotice g _ _ => exact taken_inUse h fun k => inUse_viewSegment k g _
  | urgencyNotice _ _ => exact taken_inUse h fun k => inUse_segmentUrgency k ..
  | orderEvent i _ =>
    exact taken_inUse h fun k => inUse_gateEvent k i fun _ _ => inUse_takeOrder k ..
  | gatesIntoService => exact taken_inUse h fun k => inUse_gatesEnter k
  | gatesOutOfService => exact taken_inUse h fun k => inUse_gatesLeave k
  | encoderEdge _ _ _ _ _ => exact taken_inUse h fun k => inUse_encoderEdge k ..
  | startDelayExpiry i => exact taken_inUse h fun k => inUse_gateExpiry k fun _ _ _ k => inUse_putGate k ..
  | settleExpiry i => exact taken_inUse h fun k => inUse_gateExpiry k fun _ _ _ k => inUse_settleEnd k ..
  | reversalDwellExpiry i =>
    exact taken_inUse h fun k => inUse_gateExpiry k fun _ _ _ k => inUse_dwellEnd k ..
  | stallTimerExpiry i => exact taken_inUse h fun k => inUse_gateExpiry k fun _ _ _ k => inUse_goFault k ..
  | travelTimerExpiry i =>
    exact taken_inUse h fun k => inUse_gateExpiry k fun _ _ _ k => inUse_goFault k ..
  | safetyEdgeChange _ _ => exact taken_inUse h fun k => inUse_safetyEdge k ..
  | loopEdge _ _ => exact taken_inUse h fun k => inUse_loopEdge k ..
  | loopFaultSet i => exact taken_inUse h fun k => inUse_setLoopFault k i
  | presenceClearance i => exact taken_inUse h fun k => inUse_clearanceHolds k i
  | vehicleWaitExpiry i =>
    exact taken_inUse h fun k => inUse_gateExpiry k fun _ _ _ k => inUse_putGate k ..
  | grant _ _ => exact taken_inUse h fun k => inUse_takeGrant k ..
  | gateStop _ _ => exact taken_inUse h fun k => inUse_gateStop k ..
  | gateResume _ _ => exact taken_inUse h fun k => inUse_gateResume k ..
  | admissionRequest _ _ _ => exact taken_inUse h fun k => inUse_requestAdmission k ..
  | handBack i => exact taken_inUse h fun k => inUse_takeBack k i
  | requestWithdrawn _ => exact taken_inUse h fun k => inUse_storeQueue k _
  | setBudget _ _ => exact taken_inUse h fun k => inUse_setBudget k ..
  | lightChannelChange _ _ _ => exact taken_inUse h fun k => inUse_lightChange k ..
  | litNotice _ _ => exact taken_inUse h fun k => inUse_signLit k ..
  | budgetRegionNotice _ _ => exact taken_inUse h fun k => inUse_budgetRegion k ..
  | grantNotice _ _ => exact taken_inUse h fun k => inUse_takeGranted k ..
  | forceFace _ _ _ _ => exact taken_inUse h fun k => inUse_forceFace k ..
  | forcedTimerExpiry g => exact taken_inUse h fun k => inUse_forcedExpired k g
  | faceReport a => exact taken_inUse h fun k => inUse_takeReport k a
  | replyTimerExpiry g => exact taken_inUse h fun k => inUse_replyExpired k g
  | republishTimerExpiry g => exact taken_inUse h fun k => inUse_republishExpired k g
  | signSweep _ _ => exact taken_inUse h fun k => inUse_signSweep k ..
  | signsIntoService => exact taken_inUse h fun k => inUse_signsEnter k
  | signsOutOfService => exact taken_inUse h fun k => inUse_signsLeave k
  | signerSegmentsNotice entered => exact taken_inUse h fun k => inUse_signerSegments k entered
  | segmentReferenceAbsent =>
    exact taken_inUse h fun k => inUse_forEach k fun i _ hu => inUse_loseSegment hu i


end Sys2Proof.Machine
end

section
/-!
OBLIGATION O7. The store's own part of the invariant, what each change of a region, of the site record and of the
start-up list keeps of it, and every command of the Table Store and of the supply; the other commands leave the store
alone and the jobs with usable rows.
-/

namespace Sys2Proof.Machine

/-! ### The invariant, taken apart -/

/-- Rows as activation passes them (R28, R29). -/
def SoundRows (r : Region) (rows : Map Bytes) : Prop :=
  rowsWf (Region.capacity r) rows = true ∧ firstInvalid r rows = none ∧ firstConflict r [] rows = none

/-- The part of the invariant that the Table Store alone decides, at a part with supply or without. -/
structure StoreFits (power : Bool) (x : TableStore) : Prop where
  wf : Memory.wf x.regions = true
  regions : ∀ r, (x.regions.get r).ok r
  site : ∀ f ∈ siteFields, clampSite f (x.site.get f) = x.site.get f
  clearing : ∀ run ∈ x.clearing, 1 ≤ run.cleared ∧ run.cleared < 7 ∧
    ∀ r ∈ regionOrder.take run.cleared, (x.regions.get r).header.state = .empty
  blank : power = true → ∀ r, (x.regions.get r).header.state = .empty → (x.regions.get r).rows = []
  listed : power = true → ∀ r ∈ x.startList, (x.regions.get r).header.state = .failed

theorem storeOk_iff (s : State) :
    StoreOk s ↔ StoreFits s.power s.store ∧ ∀ e ∈ s.jobRows, SoundRows e.1 e.2 := by
  constructor
  · rintro ⟨wf, regions, site, clearing, jobs, supplied⟩
    exact ⟨⟨wf, fun r => regions r (mem_regionOrder r), site, clearing,
      fun p r => (supplied p).1 r (mem_regionOrder r), fun p => (supplied p).2⟩, jobs⟩
  · rintro ⟨h, jobs⟩
    exact ⟨h.wf, fun r _ => h.regions r, h.site, h.clearing, jobs,
      fun p => ⟨fun r _ => h.blank p r, h.listed p⟩⟩

theorem mapSorted_append_singleton {α : Type} {m : Map α} {i : Nat} {v : α} (sorted : mapSorted m = true)
    (below : ∀ e ∈ m, e.1 < i) : mapSorted (m ++ [(i, v)]) = true := by
  induction m with
  | nil => rfl
  | cons e m ih =>
    obtain ⟨k, w⟩ := e
    obtain ⟨head, tail⟩ := (mapSorted_cons ..).mp sorted
    refine (mapSorted_cons ..).mpr ⟨fun e he => ?_, ih tail fun e he => below e (List.mem_cons_of_mem _ he)⟩
    rcases List.mem_append.mp he with he | he
    · exact head e he
    · rw [List.mem_singleton.mp he]; exact below _ List.mem_cons_self

theorem mem_presentRows {n : Nat} {rows : Map Bytes} {e : Nat × Bytes} :
    e ∈ presentRows n rows ↔ e.1 < n ∧ readRow rows e.1 ≠ blankRow ∧ e.2 = readRow rows e.1 := by
  obtain ⟨i, row⟩ := e
  simp only [presentRows, List.mem_filterMap, List.mem_range, Option.map_eq_some_iff, presentIn_eq_some, Prod.mk.injEq]
  constructor
  · rintro ⟨j, -, _, ⟨inside, present, rfl⟩, rfl, rfl⟩
    exact ⟨inside, present, rfl⟩
  · rintro ⟨inside, present, rfl⟩
    exact ⟨i, inside, _, ⟨inside, present, rfl⟩, rfl, rfl⟩

theorem mapSorted_presentRows (n : Nat) (rows : Map Bytes) : mapSorted (presentRows n rows) = true := by
  induction n with
  | zero => rfl
  | succ n ih =>
    rw [presentRows_succ, presentAt]
    split
    · rwa [List.append_nil]
    · exact mapSorted_append_singleton ih fun e he => (mem_presentRows.mp he).1

theorem rowsWf_presentRows {capacity n : Nat} {rows : Map Bytes} (h : rowsWf capacity rows = true)
    (le : n ≤ capacity) : rowsWf capacity (presentRows n rows) = true := by
  obtain ⟨-, wf⟩ := (rowsWf_iff ..).mp h
  refine (rowsWf_iff ..).mpr ⟨mapSorted_presentRows n rows, fun e he => ?_⟩
  obtain ⟨inside, present, row⟩ := mem_presentRows.mp he
  rw [row]
  refine ⟨by omega, ?_, present⟩
  unfold readRow at present ⊢
  cases found : mapGet rows e.1 with
  | none => rw [found] at present; exact absurd rfl present
  | some v => exact (wf _ (mem_of_mapGet found)).2.1

/-- The rows of a region in service pass activation; those of any other region are none. -/
theorem soundRows_serviceRows {s : State} (h : StoreFits s.power s.store) (r : Region) :
    SoundRows r (s.serviceRows r) := by
  obtain ⟨count, -, -, -, active⟩ := h.regions r
  unfold State.serviceRows
  split
  · next a =>
    obtain ⟨-, -, valid, consistent⟩ := active (eq_of_beq a)
    exact ⟨rowsWf_presentRows ((Memory.wf_iff _).mp h.wf r) count, valid, consistent⟩
  · exact ⟨rfl, rfl, rfl⟩

theorem storeOk_of_inUse {s t : State} (k : InUse s t) (ok : StoreOk s) : StoreOk t := by
  obtain ⟨fits, jobs⟩ := (storeOk_iff s).mp ok
  refine (storeOk_iff t).mpr ⟨by rw [k.power, k.store]; exact fits, fun e m => ?_⟩
  rcases k.rows e m with m | none | rows
  · exact jobs e m
  · rw [none]; exact ⟨rfl, rfl, rfl⟩
  · rw [rows]; exact soundRows_serviceRows fits e.1

theorem StoreOk.fits {s : State} (ok : StoreOk s) : StoreFits s.power s.store := ((storeOk_iff s).mp ok).1

theorem storeOk_withStore {s : State} {x : TableStore} (ok : StoreOk s) (fits : StoreFits s.power x) :
    StoreOk (s.withStore x) :=
  (storeOk_iff _).mpr ⟨fits, ((storeOk_iff s).mp ok).2⟩

/-! ### Changes of the store -/

section
variable {power : Bool} {x : TableStore}

/-- One region replaced, by a record that the invariant allows there. -/
theorem StoreFits.set (h : StoreFits power x) {r : Region} {y : RegionRecord}
    (wf : rowsWf (Region.capacity r) y.rows = true) (ok : y.ok r)
    (run : x.clearing = none ∨ y.header.state = .empty)
    (blank : power = true → y.header.state = .empty → y.rows = [])
    (listed : power = true → r ∈ x.startList → y.header.state = .failed) :
    StoreFits power { x with regions := x.regions.set r y } := by
  have get : ∀ q, (x.regions.set r y).get q = if q = r then y else x.regions.get q := fun q => by
    by_cases e : q = r
    · rw [if_pos e, e, Regions.get_set]
    · rw [if_neg e, Regions.get_set_of_ne _ _ e]
  refine ⟨Memory.wf_set h.wf wf, fun q => ?_, h.site, fun c mem => ?_, fun p q => ?_, fun p q mem => ?_⟩
  · dsimp only
    rw [get]
    split
    · next e => rw [e]; exact ok
    · exact h.regions q
  · obtain ⟨low, high, empty⟩ := h.clearing c mem
    refine ⟨low, high, fun q hq => ?_⟩
    dsimp only
    rw [get]
    split
    · exact run.resolve_left fun none => by rw [none] at mem; cases mem
    · exact empty q hq
  · dsimp only
    rw [get]
    split
    · exact blank p
    · exact h.blank p q
  · dsimp only at mem ⊢
    rw [get]
    split
    · next e => exact listed p (e ▸ mem)
    · exact h.listed p q mem

theorem StoreFits.startList (h : StoreFits power x) {l : List Region} (sub : ∀ r ∈ l, r ∈ x.startList) :
    StoreFits power { x with startList := l } :=
  ⟨h.wf, h.regions, h.site, h.clearing, h.blank, fun p r m => h.listed p r (sub r m)⟩

theorem StoreFits.idle (h : StoreFits power x) : StoreFits power { x with clearing := none } :=
  ⟨h.wf, h.regions, h.site, (fun _ m => nomatch m), h.blank, h.listed⟩

theorem cleared_ok (r : Region) : cleared.ok r := by simp [RegionRecord.ok, cleared, Header.empty]

/-- A region cleared and taken off the start-up list. -/
theorem StoreFits.clear (h : StoreFits power x) (r : Region) :
    StoreFits power { x with
      regions := x.regions.set r cleared, startList := x.startList.filter fun q => q != r } :=
  (h.startList fun _ m => (List.mem_filter.mp m).1).set (r := r) rfl (cleared_ok r) (.inr rfl) (fun _ _ => rfl)
    fun _ m => by simpa using (List.mem_filter.mp m).2

theorem clampSite_toNat {f : SiteField} (h : f ≠ .lightChannel) (v : BitVec 16) :
    (clampSite f v).toNat = max (SiteField.range f).1 (min v.toNat (SiteField.range f).2) := by
  have bounds : (SiteField.range f).2 < 65536 ∧ (SiteField.range f).1 ≤ (SiteField.range f).2 := by cases f <;> decide
  have clamp : clampSite f v = BitVec.ofNat 16 (max (SiteField.range f).1 (min (SiteField.range f).2 v.toNat)) := by
    cases f
    case lightChannel => exact absurd rfl h
    all_goals rfl
  rw [clamp, BitVec.toNat_ofNat, Nat.mod_eq_of_lt (by omega), Nat.min_comm]

theorem clampSite_clampSite (f : SiteField) (v : BitVec 16) : clampSite f (clampSite f v) = clampSite f v := by
  by_cases light : f = .lightChannel
  · subst light
    by_cases h : v.toNat ≤ 63 <;> simp [clampSite, h]
  · have bounds : (SiteField.range f).1 ≤ (SiteField.range f).2 := by cases f <;> decide
    rw [clampSite_eq_iff light, clampSite_toNat light]
    omega

theorem StoreFits.field (h : StoreFits power x) (f : SiteField) (v : BitVec 16) :
    StoreFits power { x with site := x.site.set f (clampSite f v) } := by
  refine ⟨h.wf, h.regions, fun g hg => ?_, h.clearing, h.blank, h.listed⟩
  by_cases e : g = f
  · subst e
    rw [SiteRecord.get_set, clampSite_clampSite]
  · rw [SiteRecord.get_set_of_ne _ _ e]
    exact h.site g hg

/-! ### Changes of one region -/

/-- An EMPTY region opened (R23). -/
theorem StoreFits.opened (h : StoreFits power x) {r : Region} {n : Nat} (free : x.clearing = none)
    (empty : (x.regions.get r).header.state = .empty) (low : 1 ≤ n) (high : n ≤ Region.capacity r) :
    StoreFits power { x with
      regions := x.regions.set r { x.regions.get r with header := { state := .opened, count := n, check := 0 } } } :=
  h.set ((Memory.wf_iff _).mp h.wf r) (by simp [RegionRecord.ok, low, high]) (.inl free) (fun _ e => nomatch e)
    fun p m => by rw [h.listed p r m] at empty; cases empty

/-- A row of an OPEN region written (R24). -/
theorem StoreFits.row (h : StoreFits power x) {r : Region} {i : Nat} (row : Bytes) (free : x.clearing = none)
    (opened : (x.regions.get r).header.state = .opened) (inside : i < (x.regions.get r).header.count) :
    StoreFits power { x with
      regions := x.regions.set r { x.regions.get r with rows := writeRow (x.regions.get r).rows i row } } := by
  obtain ⟨count, state, empty, open_, active⟩ := h.regions r
  refine h.set (rowsWf_writeRow row ((Memory.wf_iff _).mp h.wf r) (by omega))
    ⟨count, state, empty, open_, fun e => ?_⟩ (.inl free) (fun _ e => ?_) fun p m => ?_
  · rw [opened] at e; cases e
  · rw [opened] at e; cases e
  · exact h.listed p r m

/-- A region put into service (R27 to R30). -/
theorem StoreFits.activated (h : StoreFits power x) {r : Region} {check : BitVec 16} (free : x.clearing = none)
    (passes : activationRefusal r check (x.regions.get r) = none) :
    StoreFits power { x with regions := x.regions.set r (activated check (x.regions.get r)) } := by
  obtain ⟨opened, agrees, valid, consistent⟩ := activationRefusal_eq_none.mp passes
  obtain ⟨count, -, -, declared, -⟩ := h.regions r
  refine h.set ((Memory.wf_iff _).mp h.wf r) ?_ (.inl free) (fun _ e => nomatch e) fun p m => ?_
  · exact ⟨count, by simp [Machine.activated], (fun e => nomatch e), (fun e => nomatch e),
      fun _ => ⟨(declared opened).1, agrees.symm, valid, consistent⟩⟩
  · rw [h.listed p r m] at opened; cases opened

/-- A clear cut short at a part that has lost its supply (R43). -/
theorem StoreFits.cutClear (h : StoreFits false x) {r : Region} {blanked : Nat} (mask : BitVec 32)
    (inside : blanked < Region.capacity r) :
    StoreFits false { x with regions := x.regions.set r (cutClear blanked mask (x.regions.get r)) } :=
  h.set (rowsWf_writeRow _ (rowsWf_filter _ ((Memory.wf_iff _).mp h.wf r)) inside)
    (by simp [RegionRecord.ok, Machine.cutClear, Header.empty]) (.inr rfl) (fun p => nomatch p) fun p => nomatch p

end

/-- The rows of a request written to an OPEN region. -/
theorem storeOk_writeRows {r : Region} {i : Nat} {rows : List Bytes} {s : State} (ok : StoreOk s)
    (free : s.store.clearing = none) (opened : (s.region r).header.state = .opened) :
    StoreOk (writeRows r i rows s).1 := by
  induction rows generalizing i s with
  | nil => exact ok
  | cons row rest ih =>
    unfold writeRows
    split
    · exact ok
    · next passes =>
      refine ih (storeOk_withStore ok (ok.fits.row row free opened (rowRefusal_eq_none.mp passes).1)) free ?_
      simp [State.withRow, opened]

theorem inUse_convertRegion {s t : State} (h : InUse s t) (r : Region) : InUse s (convertRegion r t) := by
  unfold convertRegion
  split
  · exact inUse_convertPaths h
  · exact inUse_convertSchedule h
  · exact h

theorem clearOne_region (s : State) (r q : Region) :
    (clearOne r s).region q = (s.withRegion r cleared).region q := by
  unfold clearOne
  dsimp only
  split
  · rw [State.region, (inUse_handAll (inUse_flushReports (inUse_convertRegion (.refl _) r)) _).store]
    rfl
  · rfl

/-! ### The requests of the Table Store -/

section
variable {s : State} (ok : StoreOk s)
include ok

theorem storeOk_withRegion {r : Region} {y : RegionRecord}
    (fits : StoreFits s.power { s.store with regions := s.store.regions.set r y }) : StoreOk (s.withRegion r y) :=
  storeOk_withStore ok fits

theorem storeOk_reply (code tag result : Byte) (data : Bytes) : StoreOk (s.reply code tag result data) :=
  storeOk_of_inUse (inUse_reply (.refl s) ..) ok

theorem storeOk_flushReports : StoreOk (flushReports s) := storeOk_of_inUse (inUse_flushReports (.refl s)) ok

theorem storeOk_regionReport (cause : RegionCause) (r : Region) : StoreOk (regionReport cause s r) :=
  storeOk_of_inUse (inUse_report (.refl s) ..) ok

theorem storeOk_whenFree {c : Instr} {f : State → State} (k : s.store.clearing = none → StoreOk (f s)) :
    StoreOk (whenFree c f s) := by
  unfold whenFree
  split
  · exact storeOk_of_inUse (inUse_deferred (.refl s) c) ok
  · next free => exact k (by simpa using free)

theorem storeOk_onRegion {code tag region : Byte} {f : Region → State → State} (k : ∀ r, StoreOk (f r s)) :
    StoreOk (onRegion code tag region f s) := by
  unfold onRegion
  split
  · exact storeOk_reply ok ..
  · exact k _

theorem storeOk_takeOpen (tag region count : Byte) : StoreOk (takeOpen tag region count s) := by
  refine storeOk_whenFree ok fun free => storeOk_onRegion ok fun r => ?_
  unfold openRegion
  split
  · exact storeOk_reply ok ..
  · next empty =>
    split
    · exact storeOk_reply ok ..
    · next inside =>
      obtain ⟨low, high⟩ := (within_iff ..).mp (by simpa using inside)
      exact storeOk_reply (storeOk_withRegion ok (ok.fits.opened free (not_not.mp empty) low high)) ..

theorem storeOk_takeWrite (tag region first count : Byte) (rows : List Bytes) :
    StoreOk (takeWrite tag region first count rows s) := by
  refine storeOk_whenFree ok fun free => storeOk_onRegion ok fun r => ?_
  unfold writeRequest
  split
  · exact storeOk_reply ok ..
  · next opened =>
    split
    · exact storeOk_reply ok ..
    · have written : StoreOk (writeRows r first.toNat (rows.take count.toNat) s).1 :=
        storeOk_writeRows ok free (by simpa using opened)
      split
      · next t e => rw [e] at written; exact storeOk_reply written ..
      · next t _ _ _ e => rw [e] at written; exact storeOk_reply written ..

theorem storeOk_takeActivate (tag region : Byte) (check : BitVec 16) : StoreOk (takeActivate tag region check s) := by
  refine storeOk_whenFree ok fun free => storeOk_onRegion ok fun r => ?_
  unfold activateRequest
  split
  · exact storeOk_reply ok ..
  · next passes =>
    have active := storeOk_withRegion ok (ok.fits.activated free passes)
    exact storeOk_regionReport (storeOk_reply (storeOk_of_inUse (inUse_handAll (.refl _) _) active) ..) ..

theorem storeOk_clearOne (r : Region) : StoreOk (clearOne r s) := by
  have gone := storeOk_withStore ok (ok.fits.clear r)
  unfold clearOne
  dsimp only
  split
  · exact storeOk_of_inUse (inUse_handAll (inUse_flushReports (inUse_convertRegion (.refl _) r)) _) gone
  · exact gone

theorem storeOk_takeClear (tag region : Byte) : StoreOk (takeClear tag region s) := by
  refine storeOk_whenFree ok fun _ => storeOk_onRegion ok fun r => ?_
  unfold clearRequest
  split
  · exact storeOk_reply ok ..
  · exact storeOk_regionReport (storeOk_reply (storeOk_clearOne ok r) ..) ..

theorem storeOk_takeSiteWrite (tag field : Byte) (value : BitVec 16) :
    StoreOk (takeSiteWrite tag field value s) := by
  refine storeOk_whenFree ok fun _ => ?_
  unfold siteWrite
  split
  · exact storeOk_reply ok ..
  · next f _ =>
    have replied := storeOk_reply ok 0x08 tag done ([field] ++ be 2 (clampSite f value).toNat)
    exact storeOk_of_inUse (inUse_siteChanged (.refl _) f) (storeOk_withStore replied (replied.fits.field f value))

/-! ### CLEAR ALL (R33) -/

/-- A clear of a CLEAR ALL that goes on: the regions cleared so far are EMPTY, the one cleared now among them. -/
theorem storeOk_clearAndGoOn {run : ClearRun} {r : Region} (next : regionOrder[run.cleared]? = some r)
    (more : run.cleared + 1 < 7) (empty : ∀ q ∈ regionOrder.take run.cleared, (s.region q).header.state = .empty) :
    StoreOk (clearAndGoOn run r s) := by
  have gone := storeOk_clearOne ok r
  have regions : ∀ q, ((clearOne r s).region q).header.state = .empty ∨
      q ≠ r ∧ ((clearOne r s).region q).header.state = (s.region q).header.state := fun q => by
    by_cases e : q = r
    · subst e
      exact .inl (by rw [clearOne_region]; simp [cleared, Header.empty])
    · exact .inr ⟨e, by rw [clearOne_region, State.region_withRegion_of_ne _ _ e]⟩
  have fits := gone.fits
  refine storeOk_withStore gone ⟨fits.wf, fits.regions, fits.site, fun c mem => ?_, fits.blank, fits.listed⟩
  cases mem
  refine ⟨Nat.succ_pos _, more, fun q hq => ?_⟩
  rw [List.take_add_one, next] at hq
  rcases List.mem_append.mp hq with earlier | now
  · exact (regions q).elim id fun ⟨_, same⟩ => same.trans (empty q earlier)
  · exact (regions q).resolve_right fun ⟨other, _⟩ => other (by simpa using now)

theorem storeOk_takeClearAll (tag : Byte) : StoreOk (takeClearAll tag s) := by
  refine storeOk_whenFree ok fun _ => ?_
  unfold beginClearAll
  split
  · exact storeOk_reply ok ..
  · exact storeOk_clearAndGoOn ok (run := { tag := tag, cleared := 0 }) rfl (show 0 + 1 < 7 by decide) (by simp)

theorem storeOk_tableRequest {c : Instr} {f : State → State} (own : tableRequest c = some f) : StoreOk (f s) := by
  unfold tableRequest at own
  split at own <;> cases own
  · exact storeOk_takeOpen ok ..
  · exact storeOk_takeWrite ok ..
  · exact storeOk_of_inUse (inUse_answers (.refl s) (answers_takeRead _ _ _ _ s)) ok
  · exact storeOk_of_inUse (inUse_answers (.refl s) (answers_takeBlank _ _ s)) ok
  · exact storeOk_takeActivate ok ..
  · exact storeOk_takeClear ok ..
  · exact storeOk_takeClearAll ok _
  · exact storeOk_takeSiteWrite ok ..
  · exact storeOk_whenFree ok fun _ => storeOk_reply ok ..

theorem storeOk_foldl {α : Type} {l : List α} {f : State → α → State}
    (k : ∀ a u, StoreOk u → StoreOk (f u a)) : StoreOk (l.foldl f s) := by
  induction l generalizing s with
  | nil => exact ok
  | cons a l ih => exact ih (k a s ok)

theorem storeOk_endClearAll (tag result : Byte) (data : Bytes) (n : Nat) :
    StoreOk (endClearAll tag result data n s) := by
  have ended := storeOk_reply (storeOk_withStore ok ok.fits.idle) 0x07 tag result data
  have reported := storeOk_foldl ended (l := regionOrder.take n) fun r u k => storeOk_regionReport k .cleared r
  unfold endClearAll
  rw [takeWaiting_eq]
  refine storeOk_foldl (storeOk_of_inUse (inUse_withWaiting (inUse_flushReports (.refl _)) _) reported) fun c u k => ?_
  unfold takeRequest
  split
  · next f own => exact storeOk_flushReports (storeOk_tableRequest k own)
  · exact k

theorem storeOk_clearGoesOn : StoreOk (clearGoesOn s) := by
  unfold clearGoesOn
  split
  · exact ok
  · next run under =>
    obtain ⟨-, -, empty⟩ := ok.fits.clearing run under
    refine storeOk_flushReports ?_
    unfold clearNext
    split
    · exact storeOk_endClearAll ok ..
    · next r next =>
      split
      · exact storeOk_endClearAll ok ..
      · split
        · next more => exact storeOk_clearAndGoOn ok next more empty
        · exact storeOk_endClearAll (storeOk_clearOne ok r) ..

end

/-! ### The supply (R40, R43) -/

theorem failedBlank_ok (r : Region) (x : RegionRecord) : (failedBlank x).ok r := by
  simp [RegionRecord.ok, failedBlank]

/-- Verification leaves a region as R21 gives it, whatever it found. -/
theorem verified_ok {r : Region} {x : RegionRecord} (ok : x.ok r) : (verified r x).ok r := by
  unfold verified
  split
  · exact failedBlank_ok r x
  · split
    · exact failedBlank_ok r x
    · exact ok
  · split
    · exact failedBlank_ok r x
    · split
      · exact ⟨ok.1, by simp, by simp, by simp, by simp⟩
      · exact ok
  · split
    · exact failedBlank_ok r x
    · exact ok
  · split
    · exact failedBlank_ok r x
    · exact ok

/-- A region that verification leaves EMPTY is blank. -/
theorem verified_rows_of_empty {r : Region} {x : RegionRecord} (wf : rowsWf (Region.capacity r) x.rows = true)
    (empty : (verified r x).header.state = .empty) : (verified r x).rows = [] := by
  have was : x.header.state = .empty ∧ firstWritten r x.rows = none := by
    unfold verified at empty
    split at empty
    · cases empty
    · next e =>
      split at empty
      · cases empty
      · next blank => exact ⟨e, by simpa using (not_or.mp blank).1⟩
    · next e =>
      split at empty
      · cases empty
      · split at empty
        · cases empty
        · rw [e] at empty; cases empty
    · next e =>
      split at empty
      · cases empty
      · rw [e] at empty; cases empty
    · next e =>
      split at empty
      · cases empty
      · rw [e] at empty; cases empty
  rw [verified_rows]
  obtain ⟨sorted, listed⟩ := (rowsWf_iff ..).mp wf
  refine List.eq_nil_iff_forall_not_mem.mpr fun e mem => ?_
  obtain ⟨inside, -, present⟩ := listed e mem
  have blank := firstWritten_eq_none.mp was.2 e.1 inside
  rw [readRow, mapGet_of_mem sorted mem] at blank
  exact present blank

theorem storeFits_verified {x : TableStore} (h : StoreFits false x) (power : Bool) :
    StoreFits power (verifiedStore x) where
  wf := wf_verifiedRegions h.wf
  regions r := by
    show ((verifiedRegions x.regions).get r).ok r
    rw [get_verifiedRegions]
    exact verified_ok (h.regions r)
  site f _ := by
    show clampSite f ((repaired x.site).get f) = (repaired x.site).get f
    rw [get_repaired, repairSite]
    split
    · assumption
    · cases f <;> decide
  clearing _ m := nomatch m
  blank _ r e := by
    change ((verifiedRegions x.regions).get r).header.state = .empty at e
    show ((verifiedRegions x.regions).get r).rows = []
    rw [get_verifiedRegions] at e ⊢
    exact verified_rows_of_empty ((Memory.wf_iff _).mp h.wf r) e
  listed _ r m := by
    show ((verifiedRegions x.regions).get r).header.state = .failed
    rw [get_verifiedRegions]
    exact ((mem_newlyFailed ..).mp m).1

theorem StoreFits.unsupplied {power : Bool} {x : TableStore} (h : StoreFits power x) : StoreFits false x :=
  ⟨h.wf, h.regions, h.site, h.clearing, (fun p => nomatch p), fun p => nomatch p⟩

theorem storeOk_powerOn {s : State} (ok : StoreOk s) (p : Pins) : StoreOk (powerOn p s) := by
  refine (storeOk_iff _).mpr ⟨storeFits_verified ok.fits.unsupplied true, fun e m => ?_⟩
  have none : e.2 = [] := by
    revert e
    simp [State.jobRows, powerOn]
  rw [none]
  exact ⟨rfl, rfl, rfl⟩

theorem writeRows_leaves (r : Region) (i : Nat) (rows : List Bytes) (s : State) :
    (writeRows r i rows s).1.store.clearing = s.store.clearing ∧
      ((writeRows r i rows s).1.region r).header = (s.region r).header := by
  induction rows generalizing i s with
  | nil => exact ⟨rfl, rfl⟩
  | cons row rest ih =>
    unfold writeRows
    split
    · exact ⟨rfl, rfl⟩
    · obtain ⟨clearing, header⟩ := ih (i + 1) (s.withRow r i row)
      exact ⟨clearing, header.trans (by simp [State.withRow])⟩

theorem storeOk_cutWrite {s : State} (ok : StoreOk s) (free : s.store.clearing = none) {r : Region}
    (opened : (s.region r).header.state = .opened) (first : Nat) (rows : List Bytes) (n : Nat) (mask : BitVec 32) :
    StoreOk (cutWrite r first rows n mask s) := by
  have written := storeOk_writeRows ok free opened (i := first) (rows := rows.take n)
  have same := writeRows_leaves r first (rows.take n) s
  unfold cutWrite
  split
  · next t row e _ =>
    rw [e] at written same
    split
    · next passes =>
      exact storeOk_withStore written (written.fits.row _ (same.1.trans free)
        ((congrArg Header.state same.2).trans opened) (rowRefusal_eq_none.mp passes).1)
    · exact written
  · next e _ => rw [e] at written; exact written

/-- A request cut short that can be under way leaves the jobs alone, and a store that fits a part without supply. -/
theorem cutShort_fits {s : State} (ok : StoreOk s) {c : Cut} (possible : cutPossible c s = true) :
    StoreFits false (cutShort c s).store ∧ ∀ e ∈ (cutShort c s).jobRows, SoundRows e.1 e.2 := by
  have sound : ∀ {u : State}, StoreOk u → StoreFits false u.store ∧ ∀ e ∈ u.jobRows, SoundRows e.1 e.2 :=
    fun k => ⟨k.fits.unsupplied, ((storeOk_iff _).mp k).2⟩
  have free : (∀ r n mask, c ≠ .clear r n mask) → s.store.clearing = none := fun other => by
    unfold cutPossible at possible
    split at possible
    · assumption
    · split at possible
      · next r n mask => exact absurd rfl (other r n mask)
      · cases possible
  cases c with
  | quiet => exact sound ok
  | openRegion r n written =>
    unfold cutShort
    dsimp only
    split
    · next h =>
      obtain ⟨-, empty, inside⟩ := h
      obtain ⟨low, high⟩ := (within_iff ..).mp inside
      exact sound (storeOk_withRegion ok (ok.fits.opened (free (by simp)) empty low high))
    · exact sound ok
  | writeRows r first rows n mask =>
    unfold cutShort
    dsimp only
    split
    · next h => exact sound (storeOk_cutWrite ok (free (by simp)) h.1 ..)
    · exact sound ok
  | activate r check written =>
    unfold cutShort
    dsimp only
    split
    · next h => exact sound (storeOk_withRegion ok (ok.fits.activated (free (by simp)) h.2))
    · exact sound ok
  | clear r blanked mask =>
    unfold cutShort
    dsimp only
    split
    · next h => exact ⟨ok.fits.unsupplied.cutClear mask h.2, ((storeOk_iff s).mp ok).2⟩
    · exact sound ok
  | siteWrite f v written =>
    unfold cutShort
    dsimp only
    split
    · exact sound (storeOk_withStore ok (ok.fits.field f v))
    · exact sound ok

theorem storeOk_supplyLost {s : State} (ok : StoreOk s) (c : Cut) : StoreOk (supplyLost c s) := by
  have rows := ((storeOk_iff s).mp ok).2
  unfold supplyLost
  split
  · dsimp only
    split
    · next possible =>
      obtain ⟨fits, jobs⟩ := cutShort_fits ok possible
      exact (storeOk_iff _).mpr ⟨fits.idle, jobs⟩
    · exact (storeOk_iff _).mpr ⟨ok.fits.unsupplied.idle, rows⟩
  · exact ok

/-! ### Every step -/

theorem taken_storeOk {c : Instr} {effect : State → State} {s t : State} (ok : StoreOk s)
    (h : taken c effect s = .next t) (k : ∀ {u}, StoreOk u → StoreOk (effect u)) : StoreOk t := by
  rcases taken_next h with ⟨-, rfl⟩ | ⟨-, rfl⟩
  · exact ok
  · exact storeOk_flushReports (k (storeOk_of_inUse (inUse_withHanded (.refl _) _) ok))

theorem storeOk_lineConnected {s : State} (ok : StoreOk s) : StoreOk (lineConnected s) := by
  have reported : InUse s (s.store.startList.foldl (regionReport .failedAtStartup) s) :=
    inUse_foldl (.refl s) fun r u k => inUse_report k ..
  exact storeOk_withStore (storeOk_of_inUse reported ok)
    (by rw [reported.power]; exact ok.fits.startList (by simp))

theorem exec_storeOk {c : Instr} {s t : State} (ok : StoreOk s) (h : exec c s = .next t) : StoreOk t := by
  by_cases job : touched c ∉ [.whole, .store, .storeAndSequencer, .storeAndAllocator]
  · exact storeOk_of_inUse (exec_inUse h job) ok
  · cases c with
    | powerOn p => cases h; exact storeOk_powerOn ok p
    | supplyLost c => cases h; exact storeOk_supplyLost ok c
    | lineConnectedNotice => exact taken_storeOk ok h storeOk_lineConnected
    | openRegion _ _ _ => exact taken_storeOk ok h fun k => storeOk_takeOpen k ..
    | writeRows _ _ _ _ _ => exact taken_storeOk ok h fun k => storeOk_takeWrite k ..
    | activateRegion _ _ _ => exact taken_storeOk ok h fun k => storeOk_takeActivate k ..
    | clearRegion _ _ => exact taken_storeOk ok h fun k => storeOk_takeClear k ..
    | clearAll tag => exact taken_storeOk ok h fun k => storeOk_takeClearAll k tag
    | siteWrite _ _ _ => exact taken_storeOk ok h fun k => storeOk_takeSiteWrite k ..
    | _ => exact absurd (by simp [touched]) job

theorem storeOk_onItsOwn {s : State} (ok : StoreOk s) : StoreOk (onItsOwn s) := by
  unfold onItsOwn
  split
  · exact ok
  · split
    · exact storeOk_clearGoesOn ok
    · exact storeOk_of_inUse (inUse_withTime (.refl s) _) ok

/-- Settles O7: every command keeps the invariant, as does what the part does of itself. -/
theorem everyStepKeepsTheStore : Obligations.EveryStepKeepsTheStore := by
  intro s t ok h
  unfold step at h
  split at h
  · exact exec_storeOk (storeOk_of_inUse (inUse_withPending (.refl s) _) ok) h
  · unfold idle at h
    split at h
    · exact exec_storeOk ok h
    · cases h
      exact storeOk_onItsOwn ok

end Sys2Proof.Machine
end

section
/-!
SUPPORT. The Budget Allocator's operations as deeds: a new record, events handed on and reports asked for. What a deed
leaves of the state, what the examination of the motion queue and a recomputation are in the words of the statements,
and what the reports of an operation leave behind them.
-/

namespace Sys2Proof.Machine

/-! ### Deeds -/

/-- What an operation of the Allocator does. -/
structure Deed where
  record : Allocator
  events : List Instr
  asks : List ReportRequest

/-- The state after a deed. -/
def State.after (s : State) (d : Deed) : State :=
  ((s.withAllocator d.record).handAll d.events).withReports (s.reports ++ d.asks)

/-- The Allocator grants admissions, as a Bool. -/
def State.granting (s : State) : Bool := s.serves .gates (.budgetRegionNotice .gates false)

theorem granting_iff (s : State) : s.granting = true ↔ s.grants := State.serves_iff ..

/-- The examination of the queue of a record. -/
def examineDeed (granting : Bool) (a : Allocator) : Deed :=
  if granting then ⟨(examineEntries a a.queue).1, (examineEntries a a.queue).2, []⟩ else ⟨a, [], []⟩

/-- The record with its figures, granted levels and flag computed. -/
def State.computed (s : State) : Allocator :=
  { s.allocator with
    figures := s.freshFigures
    granted := s.presentSigns.map fun g => (g, min s.allocator.requested s.freshFigures.cap)
    belowFloor := decide (s.allocator.budget < s.freshFigures.floor) }

/-- The examination that a recomputation makes where the remaining current has grown. -/
def grownDeed (s : State) : Deed :=
  if s.allocator.figures.remaining < s.computed.figures.remaining then examineDeed s.granting s.computed
  else ⟨s.computed, [], []⟩

/-- A recomputation. -/
def recomputeDeed (cause : BudgetCause) (s : State) : Deed where
  record := (grownDeed s).record
  events := grantNotices s.allocator.granted s.computed.granted ++ (grownDeed s).events
  asks :=
    if s.allocator.started = false ∨ s.allocator.belowFloor = s.computed.belowFloor then []
    else [{ kind := reportBudget, data := budgetData (grownDeed s).record cause }]

@[simp] theorem examineDeed_asks (granting : Bool) (a : Allocator) : (examineDeed granting a).asks = [] := by
  unfold examineDeed
  split <;> rfl

section
variable (s : State)

theorem after_idle : s.after ⟨s.allocator, [], []⟩ = s := by
  simp only [State.after, State.handAll, List.append_nil]
  rfl

theorem after_withAllocator (a : Allocator) (d : Deed) : (s.withAllocator a).after d = s.after d := rfl

theorem examineQueue_eq : examineQueue s = s.after (examineDeed s.granting s.allocator) := by
  unfold examineQueue examineDeed State.granting
  split
  · simp only [State.after, List.append_nil]
    rfl
  · exact (after_idle s).symm

theorem grantNotices_spec {old new : Map Nat} {e : Instr} :
    e ∈ grantNotices old new ↔ ∃ g l, (g, l) ∈ new ∧ (∃ k ∈ mapGet old g, k ≠ l) ∧ e = .grantNotice g l := by
  simp only [grantNotices, List.mem_filterMap]
  constructor
  · rintro ⟨⟨g, l⟩, mem, h⟩
    split at h
    · cases h
    · next k found =>
      split at h
      · cases h
      · next differs =>
        cases h
        exact ⟨g, l, mem, ⟨k, found, differs⟩, rfl⟩
  · rintro ⟨g, l, mem, ⟨k, found, differs⟩, rfl⟩
    refine ⟨(g, l), mem, ?_⟩
    rw [Option.mem_def.mp found]
    exact if_neg differs

theorem granting_handAll {l : List Instr} (other : .budgetRegionNotice .gates false ∉ l) :
    (s.handAll l).granting = s.granting := by
  rw [Bool.eq_iff_iff, granting_iff, granting_iff]
  simp [State.grants, State.active, State.region, State.handAll, other]

theorem after_handAll (l : List Instr) (d : Deed) :
    (s.handAll l).after d = s.after { d with events := l ++ d.events } := by
  simp only [State.after, State.handAll, State.withHanded, State.withAllocator, State.withReports, List.append_assoc]

/-- A recomputation before its report. -/
def State.recomputed (s : State) : State :=
  if s.allocator.figures.remaining < s.computed.figures.remaining then
    examineQueue ((s.withAllocator s.computed).handAll (grantNotices s.allocator.granted s.computed.granted))
  else (s.withAllocator s.computed).handAll (grantNotices s.allocator.granted s.computed.granted)

theorem recomputed_eq :
    s.recomputed = s.after { grownDeed s with
      events := grantNotices s.allocator.granted s.computed.granted ++ (grownDeed s).events
      asks := [] } := by
  have noted : .budgetRegionNotice .gates false ∉ grantNotices s.allocator.granted s.computed.granted := fun h => by
    obtain ⟨_, _, _, _, e⟩ := grantNotices_spec.mp h
    cases e
  unfold State.recomputed grownDeed
  split
  · rw [examineQueue_eq, after_handAll, granting_handAll _ noted]
    change s.after { examineDeed s.granting s.computed with
      events := _ ++ (examineDeed s.granting s.computed).events } = _
    dsimp only
    rw [examineDeed_asks]
  · rw [List.append_nil, State.after, List.append_nil]
    rfl

theorem recompute_eq (cause : BudgetCause) : recompute cause s = s.after (recomputeDeed cause s) := by
  change (if s.allocator.started = false ∨ s.allocator.belowFloor = s.computed.belowFloor then s.recomputed
    else s.recomputed.report reportBudget (budgetData s.recomputed.allocator cause)) = _
  rw [recomputed_eq]
  unfold recomputeDeed
  split
  · rfl
  · simp only [State.after, List.append_nil]
    rfl

end

/-! ### The examination of the queue (R146, R148) -/

/-- An entry granted, as an admission and as an event. -/
def MotionEntry.admission (e : MotionEntry) : Nat × Nat := (e.gate, e.draw)

def MotionEntry.granted (e : MotionEntry) : Instr := .grant e.gate e.direction

theorem fits_iff (a : Allocator) (draw : Nat) :
    a.fits draw = true ↔ fitsIn a.figures.remaining (drawSum a.admitted) draw := by
  simp only [Allocator.fits, Bool.or_eq_true, beq_iff_eq, decide_eq_true_iff, fitsIn]
  exact Iff.rfl

/-- The entries in front that fit one after another are granted, up to the first that does not. -/
theorem examineEntries_spec (q : List MotionEntry) (a : Allocator) :
    ∃ n ≤ q.length,
      examineEntries a q = 
        ({ a with queue := q.drop n, admitted := a.admitted ++ (q.take n).map MotionEntry.admission },
        (q.take n).map MotionEntry.granted) ∧
      (∀ i, i < n → ∀ e ∈ q[i]?, fitsIn a.figures.remaining
        (drawSum (a.admitted ++ ((q.take n).map MotionEntry.admission).take i)) e.draw) ∧
      ∀ e ∈ (q.drop n).head?, ¬ fitsIn a.figures.remaining
        (drawSum (a.admitted ++ (q.take n).map MotionEntry.admission)) e.draw := by
  induction q generalizing a with
  | nil => exact ⟨0, Nat.le_refl 0, by simp [examineEntries], by simp, by simp⟩
  | cons x rest ih =>
    unfold examineEntries
    split
    · next fits =>
      obtain ⟨n, le, run, grants, stops⟩ := ih { a with admitted := a.admitted ++ [(x.gate, x.draw)] }
      refine ⟨n + 1, Nat.succ_le_succ le, ?_, fun i hi e he => ?_, fun e he => ?_⟩
      · simp [run, MotionEntry.admission, MotionEntry.granted]
      · cases i with
        | zero =>
          obtain rfl : x = e := by simpa using he
          simpa using (fits_iff a x.draw).mp fits
        | succ i =>
          have := grants i (by omega) e (by simpa using he)
          simpa [MotionEntry.admission, List.append_assoc] using this
      · have := stops e (by simpa using he)
        simpa [MotionEntry.admission, List.append_assoc] using this
    · next full =>
      refine ⟨0, Nat.zero_le _, by simp, by simp, fun e he => ?_⟩
      obtain rfl : x = e := by simpa using he
      simpa using fun h => full ((fits_iff a x.draw).mpr h)

theorem examineDeed_events {granting : Bool} {a : Allocator} {e : Instr} (h : e ∈ (examineDeed granting a).events) :
    ∃ k dir, e = .grant k dir := by
  unfold examineDeed at h
  split at h
  · obtain ⟨n, _, run, _⟩ := examineEntries_spec a.queue a
    rw [run] at h
    obtain ⟨x, _, rfl⟩ := List.mem_map.mp h
    exact ⟨_, _, rfl⟩
  · cases h

/-- An examination changes the queue and the admissions alone. -/
theorem examineDeed_record (granting : Bool) (a : Allocator) :
    ∃ q admitted, (examineDeed granting a).record = { a with queue := q, admitted := admitted } := by
  unfold examineDeed
  split
  · obtain ⟨n, _, run, _⟩ := examineEntries_spec a.queue a
    exact ⟨_, _, by rw [run]⟩
  · exact ⟨a.queue, a.admitted, rfl⟩

/-- An examination as the statements say it, of a state with its record and its events. -/
theorem examines_of_deed {granting : Bool} {a : Allocator} {t : State}
    (record : t.allocator = (examineDeed granting a).record) (grants : t.grants ↔ granting = true)
    (told : ∀ e ∈ (examineDeed granting a).events, e ∈ t.handed) : examines a.queue a.admitted t := by
  obtain ⟨n, le, run, fit, stops⟩ := examineEntries_spec a.queue a
  refine ⟨fun idle => ?_, fun serves => ?_⟩
  · rw [grants] at idle
    rw [record, examineDeed, if_neg idle]
    exact ⟨rfl, rfl⟩
  · rw [grants] at serves
    rw [examineDeed, if_pos serves, run] at record told
    rw [record]
    refine ⟨n, List.mem_range.mpr (by omega), rfl, rfl, fun i hi e he => ⟨fit i hi e he, told _ ?_⟩, stops⟩
    have mem : e ∈ a.queue.take n := by
      rw [List.mem_iff_getElem?]
      exact ⟨i, by rw [List.getElem?_take_of_lt hi]; exact he⟩
    exact List.mem_map.mpr ⟨e, mem, rfl⟩

/-! ### A recomputation (R143, R144, R149) -/

theorem grownDeed_record (s : State) :
    ∃ q admitted, (grownDeed s).record = { s.computed with queue := q, admitted := admitted } := by
  unfold grownDeed
  split
  · exact examineDeed_record ..
  · exact ⟨s.computed.queue, s.computed.admitted, rfl⟩

theorem presentSigns_congr {s t : State} (signsIn : t.allocator.signsIn = s.allocator.signsIn)
    (rows : t.allocator.signRows = s.allocator.signRows) : t.presentSigns = s.presentSigns := by
  simp only [State.presentSigns, State.allocatorSignRow, signsIn, rows]

theorem litRows_congr {s t : State} (signsIn : t.allocator.signsIn = s.allocator.signsIn)
    (rows : t.allocator.signRows = s.allocator.signRows) (lit : t.allocator.lit = s.allocator.lit) :
    t.litRows = s.litRows := by
  have row : t.allocatorSignRow = s.allocatorSignRow := by
    funext g
    simp only [State.allocatorSignRow, signsIn, rows]
  simp only [State.litRows, row, lit]

theorem motorDraws_congr {s t : State} (gatesIn : t.allocator.gatesIn = s.allocator.gatesIn)
    (rows : t.allocator.gateRows = s.allocator.gateRows) : t.motorDraws = s.motorDraws := by
  have row : t.allocatorGateRow = s.allocatorGateRow := by
    funext k
    simp only [State.allocatorGateRow, gatesIn, rows]
  simp only [State.motorDraws, row, rows]

theorem mapGet_granted {l : List Nat} {f : Nat → Nat} {g : Nat} (mem : g ∈ l) :
    mapGet (l.map fun g => (g, f g)) g = some (f g) := by
  induction l with
  | nil => cases mem
  | cons x l ih =>
    rw [List.map_cons, mapGet]
    by_cases e : x = g
    · subst e; simp
    · rw [if_neg (by simpa using Ne.symm e)]
      exact ih ((List.mem_cons.mp mem).resolve_left fun h => e h.symm)

/-- A recomputation as the statements say it: `u` is the state it is made in, whose figures and admissions are those of
`s`. -/
theorem recomputes_of_deed {cause : BudgetCause} {s u t : State}
    (figures : u.allocator.figures = s.allocator.figures) (admitted : u.allocator.admitted = s.allocator.admitted)
    (record : t.allocator = (recomputeDeed cause u).record) (store : t.store = u.store)
    (grants : t.grants ↔ u.granting = true) (told : ∀ e ∈ (recomputeDeed cause u).events, e ∈ t.handed) :
    recomputes s t u.allocator.granted u.allocator.queue := by
  obtain ⟨q, ad, shape⟩ := grownDeed_record u
  have record' : t.allocator = { u.computed with queue := q, admitted := ad } := record.trans shape
  have signs : t.presentSigns = u.presentSigns := presentSigns_congr (by rw [record']; rfl) (by rw [record']; rfl)
  have noted : ∀ e ∈ grantNotices u.allocator.granted u.computed.granted, e ∈ t.handed :=
    fun e m => told e (List.mem_append_left _ m)
  have granted : t.allocator.granted =
      u.presentSigns.map fun g => (g, min t.allocator.requested t.allocator.figures.cap) := by
    rw [record']
    rfl
  refine ⟨?_, ?_, ?_, fun g mem => ?_, fun grew => ?_, fun still => ?_⟩
  · rw [litRows_congr (s := u) (by rw [record']; rfl) (by rw [record']; rfl) (by rw [record']; rfl),
      motorDraws_congr (s := u) (by rw [record']; rfl) (by rw [record']; rfl), record', store]
    rfl
  · rw [record']
    exact decide_eq_true_iff
  · rw [granted, signs]
    simp [mapKeys, Function.comp_def]
  · rw [signs] at mem
    rw [granted, mapGet_granted (f := fun _ => _) mem]
    refine ⟨rfl, fun l found differs => noted _ (grantNotices_spec.mpr ⟨g, _, ?_, ⟨l, found, differs⟩, rfl⟩)⟩
    rw [record']
    exact List.mem_map.mpr ⟨g, mem, rfl⟩
  · rw [← admitted]
    have more : u.allocator.figures.remaining < u.computed.figures.remaining := by
      rw [figures]
      exact lt_of_lt_of_eq grew (by rw [record'])
    have examined : grownDeed u = examineDeed u.granting u.computed := if_pos more
    have made : (recomputeDeed cause u).record = (examineDeed u.granting u.computed).record := by
      rw [← examined]
      rfl
    refine examines_of_deed (a := u.computed) (record.trans made) grants fun e m => ?_
    exact told e (List.mem_append_right _ (by rw [examined]; exact m))
  · rw [← admitted]
    have less : ¬ u.allocator.figures.remaining < u.computed.figures.remaining := by
      rw [figures]
      exact not_lt.mpr (le_of_eq_of_le (by rw [record']) still)
    rw [record, show (recomputeDeed cause u).record = u.computed from congrArg Deed.record (if_neg less)]
    exact ⟨rfl, rfl⟩

theorem recomputeDeed_events {cause : BudgetCause} {s : State} {e : Instr} (h : e ∈ (recomputeDeed cause s).events) :
    (∃ g l, e = .grantNotice g l) ∨ ∃ k dir, e = .grant k dir := by
  rcases List.mem_append.mp h with h | h
  · obtain ⟨g, l, _, _, e⟩ := grantNotices_spec.mp h
    exact .inl ⟨g, l, e⟩
  · unfold grownDeed at h
    split at h
    · exact .inr (examineDeed_events h)
    · cases h

theorem entryItem_eq (e : MotionEntry) :
    entryItem e = byteOf e.gate ++ byteOf (directionNum e.direction) ++ [if e.urgent = true then 0 else 1] := by
  unfold entryItem
  cases e.urgent <;> rfl

theorem budgetData_eq (a : Allocator) (cause : BudgetCause) :
    budgetData a cause =
      figureItem a.budget ++ figureItem a.figures.floor ++ figureItem a.figures.ceiling ++
        figureItem a.figures.effective ++ byteOf a.figures.cap ++ byteOf a.requested ++
        figureItem a.figures.remaining ++ figureItem (drawSum a.admitted) ++ flagByte a.belowFloor ++
        byteOf a.queue.length ++
        (a.queue.flatMap fun e =>
          byteOf e.gate ++ byteOf (directionNum e.direction) ++ [if e.urgent = true then 0 else 1]) ++
        byteOf (BudgetCause.num cause) := by
  rw [budgetData, show entryItem = _ from funext entryItem_eq]
  rfl

/-- The report of a recomputation, told from any state with the same running time, clock and node address. -/
theorem recomputeDeed_asks (cause : BudgetCause) (s u : State) :
    (recomputeDeed cause u).asks.map (fun r => s.reportFrame r.kind r.data) =
      s.budgetReports u.allocator.belowFloor (recomputeDeed cause u).record (BudgetCause.num cause) := by
  obtain ⟨q, ad, shape⟩ := grownDeed_record u
  have record : (recomputeDeed cause u).record = _ := shape
  have started : (recomputeDeed cause u).record.started = u.allocator.started := by rw [record]; rfl
  have flag : (recomputeDeed cause u).record.belowFloor = u.computed.belowFloor := by rw [record]
  have asked : (recomputeDeed cause u).asks =
      if (recomputeDeed cause u).record.started = false ∨
        u.allocator.belowFloor = (recomputeDeed cause u).record.belowFloor then []
      else [{ kind := reportBudget, data := budgetData (recomputeDeed cause u).record cause }] := by
    rw [started, flag]
    rfl
  rw [asked, State.budgetReports, apply_ite (List.map _), budgetData_eq]
  rfl

/-! ### The reports of an operation, offered (R176) -/

section
variable (s : State)

theorem flushReports_allocator : (flushReports s).allocator = s.allocator := by
  rw [lineTouched_allocator (lineTouched_flushReports s)]
  rfl

theorem mem_flushReports {e : Instr} (other : e ≠ .spaceSignal .v) : e ∈ (flushReports s).handed ↔ e ∈ s.handed := by
  have same := congrArg (e ∈ ·) (besideSpace_flushReports s)
  simpa [State.besideSpace, other] using same

theorem grants_flushReports : (flushReports s).grants ↔ s.grants := by
  simp only [State.grants, State.active, State.region, flushReports_store,
    mem_flushReports s (e := .budgetRegionNotice .gates false) nofun]

theorem after_store (d : Deed) : (s.after d).store = s.store := rfl

theorem grants_after {d : Deed} (other : .budgetRegionNotice .gates false ∉ d.events) :
    (s.after d).grants ↔ s.granting = true := by
  rw [granting_iff]
  change s.active .gates = true ∧ _ ∉ s.handed ++ d.events ↔ _
  simp only [List.mem_append, other, or_false]
  exact Iff.rfl

theorem recomputeDeed_other {cause : BudgetCause} : .budgetRegionNotice .gates false ∉ (recomputeDeed cause s).events :=
  fun h => by rcases recomputeDeed_events h with ⟨_, _, e⟩ | ⟨_, _, e⟩ <;> cases e

theorem examineDeed_other {granting : Bool} {a : Allocator} :
    .budgetRegionNotice .gates false ∉ (examineDeed granting a).events :=
  fun h => by obtain ⟨_, _, e⟩ := examineDeed_events h; cases e

/-- A recomputation and its report, offered. -/
theorem recomputes_flushReports {cause : BudgetCause} {u : State}
    (figures : u.allocator.figures = s.allocator.figures) (admitted : u.allocator.admitted = s.allocator.admitted) :
    recomputes s (flushReports (recompute cause u)) u.allocator.granted u.allocator.queue := by
  rw [recompute_eq]
  refine recomputes_of_deed (cause := cause) figures admitted (flushReports_allocator _) (flushReports_store _)
    ((grants_flushReports _).trans (grants_after u (recomputeDeed_other u))) fun e m => ?_
  rw [mem_flushReports]
  · exact List.mem_append_right _ m
  · rintro rfl
    rcases recomputeDeed_events m with ⟨_, _, e⟩ | ⟨_, _, e⟩ <;> cases e

/-- What waits in port V's queue after a recomputation with room. -/
theorem addedV_recompute {cause : BudgetCause} {u : State} (room : s.room 1) (quiet : u.reports = [])
    (line : u.line = s.line) (time : u.time = s.time) (store : u.store = s.store)
    (sequencer : u.sequencer = s.sequencer) :
    addedV s (flushReports (recompute cause u))
      (s.budgetReports u.allocator.belowFloor (flushReports (recompute cause u)).allocator
        (BudgetCause.num cause)) := by
  rw [flushReports_allocator, recompute_eq]
  have reports : (u.after (recomputeDeed cause u)).reports = (recomputeDeed cause u).asks := by
    change u.reports ++ _ = _
    rw [quiet, List.nil_append]
  have few : (recomputeDeed cause u).asks.length ≤ 1 := by
    unfold recomputeDeed
    dsimp only
    split <;> simp
  have frames : (u.after (recomputeDeed cause u)).reportFrames =
      s.budgetReports u.allocator.belowFloor (recomputeDeed cause u).record (BudgetCause.num cause) := by
    rw [← recomputeDeed_asks, State.reportFrames, reports]
    exact List.map_congr_left fun r _ => reportFrame_congr time store sequencer ..
  have added := addedV_flushReports (u := u.after (recomputeDeed cause u)) room
    (congrArg (fun l => l.portV.localQ) line) (congrArg (fun l => l.portV.busy) line)
    (congrArg (fun l => l.portV.up) line) (by rw [reports]; exact few)
  rwa [frames] at added

end

end Sys2Proof.Machine
end

section
/-!
OBLIGATION O31. SITE WRITE: the value clamped and stored behind the REPLY, and what it asks of the Allocator.
-/

namespace Sys2Proof.Machine

/-! ### Recomputations and the requested level -/

/-- A recomputation leaves the inputs of the figures. -/
theorem recompute_allocator (cause : BudgetCause) (s : State) :
    ∃ q admitted, (recompute cause s).allocator = { s.computed with queue := q, admitted := admitted } := by
  rw [recompute_eq]
  exact grownDeed_record s

theorem recompute_store (cause : BudgetCause) (s : State) : (recompute cause s).store = s.store := by
  rw [recompute_eq, after_store]

theorem recompute_line (cause : BudgetCause) (s : State) : (recompute cause s).line = s.line := by
  rw [recompute_eq]
  rfl

theorem recompute_intake (cause : BudgetCause) (s : State) : (recompute cause s).intake = s.intake := by
  rw [recompute_eq]
  rfl

/-- A recomputation hands on no notice of a clear. -/
theorem mem_recompute {cause : BudgetCause} {s : State} {e : Instr} (grantNotice : ∀ g l, e ≠ .grantNotice g l)
    (grant : ∀ k dir, e ≠ .grant k dir) : e ∈ (recompute cause s).handed ↔ e ∈ s.handed := by
  rw [recompute_eq]
  change e ∈ s.handed ++ _ ↔ _
  rw [List.mem_append, or_iff_left]
  intro m
  rcases recomputeDeed_events m with ⟨g, l, rfl⟩ | ⟨k, dir, rfl⟩
  · exact grantNotice g l rfl
  · exact grant k dir rfl

theorem freshRequested_congr {s t : State} (store : t.store = s.store) (intake : t.intake = s.intake)
    (cleared : .channelsOutOfService ∈ t.handed ↔ .channelsOutOfService ∈ s.handed) :
    t.freshRequested = s.freshRequested := by
  have active : t.active .channels = s.active .channels := by rw [State.active, State.region, store]; rfl
  have row : t.reference .channels = s.reference .channels := by
    funext c
    rw [State.reference, active, State.region, store]
    rfl
  have serves : t.serves .channels .channelsOutOfService = s.serves .channels .channelsOutOfService := by
    rw [Bool.eq_iff_iff, State.serves_iff, State.serves_iff, active, cleared]
  simp only [State.freshRequested, State.found, store, intake, row, serves]

theorem freshRequested_recompute (cause : BudgetCause) (s : State) :
    (recompute cause s).freshRequested = s.freshRequested :=
  freshRequested_congr (recompute_store ..) (recompute_intake ..) (mem_recompute nofun nofun)

theorem freshRequested_flushReports (s : State) : (flushReports s).freshRequested = s.freshRequested :=
  freshRequested_congr (flushReports_store s)
    ((lineTouched_intake (lineTouched_flushReports s)).trans rfl) (mem_flushReports s nofun)

/-- The level refreshed is the level asked for. -/
theorem refreshRequested_requested (n : Nat) (s : State) : (refreshRequested n s).allocator.requested = n := by
  unfold refreshRequested
  split
  · next e => exact e.symm
  · obtain ⟨q, ad, e⟩ := recompute_allocator .light (s.withRequested n)
    rw [e]
    rfl

theorem refreshRequested_cases (n : Nat) (s : State) :
    refreshRequested n s = s ∨ refreshRequested n s = recompute .light (s.withRequested n) := by
  unfold refreshRequested
  split
  · exact .inl rfl
  · exact .inr rfl

theorem freshRequested_refreshRequested (n : Nat) (s : State) :
    (refreshRequested n s).freshRequested = s.freshRequested := by
  rcases refreshRequested_cases n s with e | e <;> rw [e]
  rw [freshRequested_recompute]
  rfl

/-- The effect at the Allocator is nothing, or a recomputation with the budget as it stands. -/
theorem siteChanged_cases (f : SiteField) (s : State) :
    siteChanged f s = s ∨
      ∃ cause a, a.budget = s.allocator.budget ∧ siteChanged f s = recompute cause (s.withAllocator a) := by
  have refresh : ∀ n, refreshRequested n s = s ∨
      ∃ cause a, a.budget = s.allocator.budget ∧ refreshRequested n s = recompute cause (s.withAllocator a) :=
    fun n => (refreshRequested_cases n s).imp id fun e => ⟨_, { s.allocator with requested := n }, rfl, e⟩
  unfold siteChanged
  split
  · exact .inl rfl
  · split
    · exact .inr ⟨.site, s.allocator, rfl, rfl⟩
    · exact refresh _
    · exact refresh _
    all_goals exact .inl rfl

theorem siteChanged_leaves (f : SiteField) (s : State) :
    (siteChanged f s).store = s.store ∧ (siteChanged f s).line = s.line ∧
      (siteChanged f s).allocator.budget = s.allocator.budget := by
  rcases siteChanged_cases f s with e | ⟨cause, a, budget, e⟩ <;> rw [e]
  · exact ⟨rfl, rfl, rfl⟩
  · obtain ⟨q, ad, record⟩ := recompute_allocator cause (s.withAllocator a)
    exact ⟨recompute_store .., recompute_line .., by rw [record]; exact budget⟩

/-! ### The field and its value -/

theorem siteFieldOf_of_code {n : Byte} {f : SiteField} (h : n.toNat = SiteField.code f) : siteFieldOf n = some f := by
  unfold siteFieldOf
  rw [h]
  cases f <;> rfl

theorem siteFieldOf_of_large {n : Byte} (h : 7 < n.toNat) : siteFieldOf n = none := List.getElem?_eq_none h

/-! ### The request -/

theorem lineGrows_reply (s : State) (code tag result : Byte) (data : Bytes) :
    LineGrows s (s.reply code tag result data) := lineGrows_offer rfl s

/-- A frame queued with room stays in front of what is offered behind it. -/
theorem leadsV_of_grows {s u t : State} {l : LocalFrame} (room : s.room 1)
    (queue : u.line.portV.localQ = s.line.portV.localQ ++ [l]) (sends : LineGrows s u) (grows : LineGrows u t) :
    leadsV s t l := by
  obtain ⟨up, busy, -⟩ := room
  obtain ⟨on, sending⟩ := sends .v
  obtain ⟨still, -⟩ := sending up busy
  obtain ⟨-, prefix_⟩ := (grows .v).2 (on.trans up) still
  rw [leadsV, List.isPrefixOf_iff_prefix, ← queue]
  exact prefix_

section
variable (tag field : Byte) (value : BitVec 16) (f : SiteField) (s : State)

/-- The state behind the REPLY, the value stored. -/
def siteWritten : State :=
  ((s.took (.siteWrite tag field value)).reply 0x08 tag done
    ([field] ++ be 2 (clampSite f value).toNat)).withField f (clampSite f value)

theorem siteWritten_allocator : (siteWritten tag field value f s).allocator = s.allocator :=
  (lineTouched_allocator (lineTouched_reply ..)).trans rfl

theorem siteWritten_store :
    (siteWritten tag field value f s).store = { s.store with site := s.store.site.set f (clampSite f value) } := by
  rw [siteWritten, State.withField, State.withStore_store, lineTouched_store (lineTouched_reply ..)]
  rfl

theorem siteWritten_reports (h : s.steady) : (siteWritten tag field value f s).reports = [] :=
  (reply_reports ..).trans h.2

/-- A field that the Allocator does not watch: nothing but the store changes beside the REPLY. -/
theorem siteChanged_of_unwatched (h : f ∉ [SiteField.baseDraw, .lightChannel, .lightStep]) : siteChanged f s = s := by
  unfold siteChanged
  split
  · rfl
  · cases f
    case baseDraw | lightChannel | lightStep => simp at h
    all_goals rfl

end

/-- Settles O31: the request answered, the field stored behind the REPLY, and then its effect at the Allocator. -/
theorem siteWriteClampsTheValue : Obligations.SiteWriteClampsTheValue := by
  intro tag field value s steady free
  refine ⟨fun large => taken_answers steady free (by rw [siteWrite, siteFieldOf_of_large large]),
    fun f _ number => ⟨flushReports (siteChanged f (siteWritten tag field value f s)), ?_, ?_⟩⟩
  · change taken _ _ s = _
    rw [taken_of_steady steady, takeSiteWrite, whenFree_of_free (show (s.took _).store.clearing = none from free),
      siteWrite, siteFieldOf_of_code number]
    rfl
  · obtain ⟨store, line, budget⟩ := siteChanged_leaves f (siteWritten tag field value f s)
    generalize hu : siteWritten tag field value f s = u at *
    have allocator : u.allocator = s.allocator := by rw [← hu, siteWritten_allocator]
    have site : (flushReports (siteChanged f u)).store =
        { s.store with site := s.store.site.set f (clampSite f value) } := by
      rw [flushReports_store, store, ← hu, siteWritten_store]
    have stored : (flushReports (siteChanged f u)).store.site.get f = clampSite f value := by
      rw [site]
      exact SiteRecord.get_set ..
    rw [stored]
    refine ⟨fun other => clampSite_toNat other value, fun light => by rw [light]; rfl,
      fun g _ other => by rw [site]; exact SiteRecord.get_set_of_ne _ _ other, by rw [site],
      by rw [flushReports_allocator, budget, allocator], fun room => ?_, fun unwatched => ?_, fun base started => ?_,
      fun light started => ?_⟩
    · have queue : u.line.portV.localQ = s.line.portV.localQ ++
          [s.replyFrame 0x08 tag done (field :: be 2 (clampSite f value).toNat)] := by
        rw [← hu, siteWritten, reply_of_room (n := 0) (s := s.took _) room]
        rfl
      have grows := lineGrows_flushReports (siteChanged f u)
      refine leadsV_of_grows room (by rw [line]; exact queue) ?_ grows
      exact LineGrows.trans (by rw [← hu]; exact lineGrows_reply (s.took _) 0x08 tag done _) (lineGrows_of_line line)
    · have same := siteChanged_of_unwatched f u unwatched
      have flushed : flushReports (siteChanged f u) = u := by
        rw [same, flushReports_of_nil (by rw [← hu]; exact siteWritten_reports tag field value f s steady)]
      rw [flushed, ← hu]
      refine ⟨siteWritten_allocator .., besideSpace_reply .., rfl, fun room => ?_⟩
      rw [siteWritten, reply_of_room (n := 0) (s := s.took _) room]
      rfl
    · rw [base]
      have : siteChanged .baseDraw u = recompute .site u := by
        rw [siteChanged, if_neg (by rw [allocator, started]; decide)]
      rw [this]
      exact (recomputes_flushReports (s := u) (u := u) rfl rfl).1
    · rw [flushReports_allocator, freshRequested_flushReports]
      have : siteChanged f u = refreshRequested u.freshRequested u := by
        rw [siteChanged.eq_def, if_neg (by rw [allocator, started]; decide)]
        rcases List.mem_cons.mp light with rfl | light
        · rfl
        · rw [List.mem_singleton.mp light]
      rw [this, refreshRequested_requested, freshRequested_refreshRequested]

end Sys2Proof.Machine
end

section
/-!
SUPPORT. The order of the motion queue, and operations of the Allocator at two states that differ in waiting events and
in reports already offered: what one does the other does.
-/

namespace Sys2Proof.Machine

/-! ### The order of the motion queue (R147) -/

theorem entryBefore_iff (a b : MotionEntry) :
    entryBefore a b = true ↔ (a.urgent = true ∧ b.urgent = false) ∨
      (a.urgent = b.urgent ∧ (a.time < b.time ∨ (a.time = b.time ∧ a.joined < b.joined))) := by
  simp [entryBefore]

theorem inOrder_iff (q : List MotionEntry) : inOrder q ↔ q.Pairwise fun a b => entryBefore a b = true := by
  simp only [inOrder, entryBefore_iff]

theorem entryBefore_trans {a b c : MotionEntry} (h : entryBefore a b = true) (k : entryBefore b c = true) :
    entryBefore a c = true := by
  rw [entryBefore_iff] at *
  rcases h with ⟨ha, hb⟩ | ⟨same, order⟩
  · rcases k with ⟨kb, _⟩ | ⟨same, _⟩
    · rw [hb] at kb; cases kb
    · exact .inl ⟨ha, same ▸ hb⟩
  · rcases k with ⟨kb, kc⟩ | ⟨same', order'⟩
    · exact .inl ⟨same.trans kb, kc⟩
    · exact .inr ⟨same.trans same', by omega⟩

/-- Of two entries that joined one after the other one stands before. -/
theorem entryBefore_total {a b : MotionEntry} (apart : a.joined ≠ b.joined) (h : ¬ entryBefore a b = true) :
    entryBefore b a = true := by
  rw [entryBefore_iff] at *
  by_cases class_ : a.urgent = b.urgent
  · have later : ¬ (a.time < b.time ∨ (a.time = b.time ∧ a.joined < b.joined)) := fun k => h (.inr ⟨class_, k⟩)
    exact .inr ⟨class_.symm, by omega⟩
  · have lower : ¬ (a.urgent = true ∧ b.urgent = false) := fun k => h (.inl k)
    left
    revert class_ lower
    cases a.urgent <;> cases b.urgent <;> simp

theorem placeEntry_perm (e : MotionEntry) (q : List MotionEntry) : (placeEntry e q).Perm (e :: q) := by
  induction q with
  | nil => exact .refl _
  | cons y q ih =>
    unfold placeEntry
    split
    · exact .refl _
    · exact (ih.cons y).trans (.swap e y q)

/-- An entry placed among others that joined at other times. -/
theorem inOrder_placeEntry {e : MotionEntry} {q : List MotionEntry} (sorted : inOrder q)
    (apart : ∀ x ∈ q, e.joined ≠ x.joined) : inOrder (placeEntry e q) := by
  rw [inOrder_iff] at *
  induction q with
  | nil => exact List.pairwise_singleton ..
  | cons y q ih =>
    obtain ⟨first, rest⟩ := List.pairwise_cons.mp sorted
    unfold placeEntry
    split
    · next before =>
      refine List.pairwise_cons.mpr ⟨fun x mem => ?_, sorted⟩
      rcases List.mem_cons.mp mem with rfl | mem
      · exact before
      · exact entryBefore_trans before (first x mem)
    · next after =>
      refine List.pairwise_cons.mpr ⟨fun x mem => ?_, ih rest fun x mem => apart x (List.mem_cons_of_mem _ mem)⟩
      rcases List.mem_cons.mp ((placeEntry_perm e q).mem_iff.mp mem) with rfl | mem
      · exact entryBefore_total (apart y List.mem_cons_self) after
      · exact first x mem

theorem placeAll_perm (l : List MotionEntry) : (placeAll l).Perm l := by
  have placed : ∀ (l acc : List MotionEntry), (l.foldl (fun acc e => placeEntry e acc) acc).Perm (l ++ acc) := by
    intro l
    induction l with
    | nil => exact fun acc => .refl acc
    | cons x l ih =>
      exact fun acc => (ih _).trans ((List.Perm.append_left l (placeEntry_perm x acc)).trans List.perm_middle)
  simpa [placeAll] using placed l []

/-- Entries placed one after another, each of which joined at a time of its own. -/
theorem inOrder_placeAll {l : List MotionEntry} (apart : (l.map MotionEntry.joined).Nodup) : inOrder (placeAll l) := by
  have placed : ∀ (l acc : List MotionEntry), inOrder acc → ((l ++ acc).map MotionEntry.joined).Nodup →
      inOrder (l.foldl (fun acc e => placeEntry e acc) acc) := by
    intro l
    induction l with
    | nil => exact fun acc sorted _ => sorted
    | cons x l ih =>
      intro acc sorted apart
      have moved : (l ++ placeEntry x acc).Perm (x :: l ++ acc) :=
        (List.Perm.append_left l (placeEntry_perm x acc)).trans List.perm_middle
      refine ih _ (inOrder_placeEntry sorted fun y mem e => ?_) ((moved.map _).nodup_iff.mpr apart)
      rw [List.cons_append, List.map_cons, List.nodup_cons] at apart
      exact apart.1 (List.mem_map.mpr ⟨y, List.mem_append_right _ mem, e.symm⟩)
  exact placed l [] List.Pairwise.nil (by simpa using apart)

/-! ### Reports offered at two states -/

theorem offer_line {u v : State} (p : Port) (l : LocalFrame) (line : v.line = u.line)
    (responder : v.responder = u.responder) : (offer p l v).1.line = (offer p l u).1.line := by
  have chosen : ∀ (m : LineSwitch) (x y : State), x.line = m → y.line = m → x.responder = y.responder →
      (select p x).line = (select p y).line := by
    intro m x y hx hy hr
    unfold select State.selects
    rw [hx, hy, hr]
    split
    · split <;> simp [State.withPort, hx, hy]
    · rw [hx, hy]
  unfold offer
  simp only [line]
  split
  · split <;> simp [releaseRestart, State.give]
  · split
    · exact chosen _ _ _ rfl (by simp [State.withPort, line]) responder
    · split <;> simp [releaseRestart, State.withPort, line]

theorem flushReports_responder (s : State) : (flushReports s).responder = s.responder :=
  (offers_flushReports (b := .lineOnly) (ports := fun p => p = .v) .refl rfl).offersOnly.2.2.1

theorem flushReports_sequencer (s : State) : (flushReports s).sequencer = s.sequencer :=
  (lineTouched_sequencer (lineTouched_flushReports s)).trans rfl

/-- What the reports of a step depend on beside the line. -/
structure SameVoice (u v : State) : Prop where
  responder : v.responder = u.responder
  store : v.store = u.store
  sequencer : v.sequencer = u.sequencer
  time : v.time = u.time

theorem sameVoice_sendReports (l : List ReportRequest) {u v : State} (h : SameVoice u v) :
    SameVoice (l.foldl sendReport u) (l.foldl sendReport v) := by
  induction l generalizing u v with
  | nil => exact h
  | cons r l ih =>
    have touchedU := lineTouched_sendReport u r
    have touchedV := lineTouched_sendReport v r
    exact ih ⟨(sendReport_leaves v r).responder.trans (h.responder.trans (sendReport_leaves u r).responder.symm),
      (lineTouched_store touchedV).trans (h.store.trans (lineTouched_store touchedU).symm),
      (lineTouched_sequencer touchedV).trans (h.sequencer.trans (lineTouched_sequencer touchedU).symm),
      (lineTouched_time touchedV).trans (h.time.trans (lineTouched_time touchedU).symm)⟩

theorem sameVoice_flushReports {u v : State} (h : SameVoice u v) : SameVoice (flushReports u) (flushReports v) :=
  ⟨by rw [flushReports_responder, flushReports_responder, h.responder],
    by rw [flushReports_store, flushReports_store, h.store],
    by rw [flushReports_sequencer, flushReports_sequencer, h.sequencer],
    by rw [flushReports_time, flushReports_time, h.time]⟩

/-- Reports offered with the same line, running time, clock and node address fare alike. -/
theorem sendReports_line {u v : State} (l : List ReportRequest) (line : v.line = u.line) (voice : SameVoice u v) :
    (l.foldl sendReport v).line = (l.foldl sendReport u).line := by
  induction l generalizing u v with
  | nil => exact line
  | cons r l ih =>
    have frame : v.compose .report 0 (v.reportPayload r) = u.compose .report 0 (u.reportPayload r) := by
      simp only [State.compose, State.ownAddress, State.reportPayload, State.now, voice.store, voice.sequencer,
        voice.time]
    have sent : (sendReport v r).line = (sendReport u r).line := by
      rw [sendReport, sendReport, frame]
      exact offer_line _ _ line voice.responder
    exact ih sent (sameVoice_sendReports [r] voice)

/-! ### Twins -/

/-- The events that wait, but for some. -/
def State.beyond (s : State) (hide : List Instr) : List Instr := s.handed.filter fun x => decide (x ∉ hide)

/-- Two states of one Allocator that differ in hidden events, and in reports that one of them has offered already. -/
structure Twin (hide : List Instr) (u v : State) : Prop extends SameVoice u v where
  allocator : v.allocator = u.allocator
  line : (flushReports v).line = (flushReports u).line
  beyond : v.beyond hide = u.beyond hide
  gone : ∀ r, Instr.budgetRegionNotice r false ∈ v.handed ↔ .budgetRegionNotice r false ∈ u.handed

/-- The reports of a deed follow those asked for before it. -/
theorem flushReports_after (s : State) (d : Deed) :
    (flushReports (s.after d)).line = (d.asks.foldl sendReport (flushReports s)).line := by
  have split : flushReports (s.after d) =
      d.asks.foldl sendReport (s.reports.foldl sendReport ((s.after d).withReports [])) := by
    rw [flushReports, ← List.foldl_append]
    rfl
  rw [split]
  have voice : SameVoice (s.withReports []) ((s.after d).withReports []) := ⟨rfl, rfl, rfl, rfl⟩
  exact sendReports_line d.asks (sendReports_line s.reports rfl voice) (sameVoice_sendReports s.reports voice)

section
variable {hide : List Instr} {u v : State}

theorem beyond_append (s : State) (l : List Instr) :
    (s.handAll l).beyond hide = s.beyond hide ++ l.filter fun x => decide (x ∉ hide) := by
  simp [State.beyond, State.handAll]

theorem Twin.active (h : Twin hide u v) (r : Region) : v.active r = u.active r := by
  rw [State.active, State.region, h.store]
  rfl

theorem Twin.serviceRows (h : Twin hide u v) (r : Region) : v.serviceRows r = u.serviceRows r :=
  serviceRows_of_store h.store r

theorem Twin.granting (h : Twin hide u v) : v.granting = u.granting := by
  rw [Bool.eq_iff_iff, granting_iff, granting_iff, State.grants, State.grants, h.active, h.gone]

/-- Twins do one deed. -/
theorem Twin.after (h : Twin hide u v) (d : Deed) : Twin hide (u.after d) (v.after d) where
  allocator := rfl
  store := h.store
  sequencer := h.sequencer
  time := h.time
  responder := h.responder
  line := by
    rw [flushReports_after, flushReports_after]
    exact sendReports_line d.asks h.line (sameVoice_flushReports h.toSameVoice)
  beyond := by
    change List.filter _ (v.handed ++ _) = List.filter _ (u.handed ++ _)
    rw [List.filter_append, List.filter_append]
    exact congrArg (· ++ _) h.beyond
  gone r := by
    change _ ∈ v.handed ++ _ ↔ _ ∈ u.handed ++ _
    rw [List.mem_append, List.mem_append, h.gone]

theorem Twin.withAllocator (h : Twin hide u v) (a : Allocator) :
    Twin hide (u.withAllocator a) (v.withAllocator a) := by
  have same : ∀ s : State, s.after ⟨a, [], []⟩ = s.withAllocator a := fun s => after_idle (s.withAllocator a)
  rw [← same u, ← same v]
  exact h.after _

theorem computed_congr (allocator : v.allocator = u.allocator) (store : v.store = u.store) :
    v.computed = u.computed := by
  have signs : v.presentSigns = u.presentSigns := presentSigns_congr (by rw [allocator]) (by rw [allocator])
  have lit : v.litRows = u.litRows := litRows_congr (by rw [allocator]) (by rw [allocator]) (by rw [allocator])
  have draws : v.motorDraws = u.motorDraws := motorDraws_congr (by rw [allocator]) (by rw [allocator])
  have fresh : v.freshFigures = u.freshFigures := by
    rw [State.freshFigures, State.freshFigures, allocator, store, lit, draws]
  rw [State.computed, State.computed, allocator, fresh, signs]

theorem Twin.recompute (h : Twin hide u v) (cause : BudgetCause) :
    Twin hide (recompute cause u) (Machine.recompute cause v) := by
  have same : recomputeDeed cause v = recomputeDeed cause u := by
    simp only [recomputeDeed, grownDeed, computed_congr h.allocator h.store, h.allocator, h.granting]
  rw [recompute_eq, recompute_eq, same]
  exact h.after _

theorem Twin.examineQueue (h : Twin hide u v) : Twin hide (examineQueue u) (Machine.examineQueue v) := by
  rw [examineQueue_eq, examineQueue_eq, h.granting, h.allocator]
  exact h.after _

theorem Twin.storeQueue (h : Twin hide u v) (q : List MotionEntry) :
    Twin hide (storeQueue q u) (Machine.storeQueue q v) := by
  unfold Machine.storeQueue
  dsimp only
  rw [h.allocator]
  split
  · exact h.withAllocator _
  · exact (h.withAllocator _).examineQueue

theorem flushReports_withHanded_line (s : State) (l : List Instr) :
    (flushReports (s.withHanded l)).line = (flushReports s).line :=
  sendReports_line s.reports rfl ⟨rfl, rfl, rfl, rfl⟩

/-- A notice taken early at both. -/
theorem Twin.takeEarly (h : Twin hide u v) (r : Region) {effect : State → State}
    (k : ∀ {x y}, Twin hide x y → Twin hide (effect x) (effect y)) :
    Twin hide (takeEarly (.budgetRegionNotice r false) effect u)
      (Machine.takeEarly (.budgetRegionNotice r false) effect v) := by
  by_cases waits : Instr.budgetRegionNotice r false ∈ u.handed
  · rw [takeEarly_of_mem waits, takeEarly_of_mem ((h.gone r).mpr waits)]
    refine k ⟨⟨h.responder, h.store, h.sequencer, h.time⟩, h.allocator, ?_, ?_, fun q => ?_⟩
    · rw [flushReports_withHanded_line, flushReports_withHanded_line, h.line]
    · change List.filter _ (List.filter _ _) = List.filter _ (List.filter _ _)
      rw [List.filter_comm, List.filter_comm _ _ u.handed]
      exact congrArg _ h.beyond
    · change _ ∈ List.filter _ _ ↔ _ ∈ List.filter _ _
      rw [List.mem_filter, List.mem_filter, h.gone]
  · rw [takeEarly_of_not_mem waits, takeEarly_of_not_mem fun m => waits ((h.gone r).mp m)]
    exact h

end

end Sys2Proof.Machine
end

section
/-!
SUPPORT. The Allocator's regions (R150): an entry taken ahead of its notice, after a clear whose notice still waits, is
the notice taken and then the request.
-/

namespace Sys2Proof.Machine

theorem filter_erase_of_neg {l : List Instr} {p : Instr → Bool} {a : Instr} (h : p a = false) :
    (l.erase a).filter p = l.filter p := by
  induction l with
  | nil => rfl
  | cons x l ih =>
    rw [List.erase_cons]
    split
    · next e => rw [eq_of_beq e, List.filter_cons_of_neg (by simp [h])]
    · rw [List.filter_cons, List.filter_cons, ih]

theorem beyond_took {hide : List Instr} {c : Instr} (s : State) (hidden : c ∈ hide) :
    (s.took c).beyond hide = s.beyond hide := filter_erase_of_neg (by simp [hidden])

section
variable {hide : List Instr} {u v : State} (h : Twin hide u v)
include h

theorem Twin.allocatorSigns : Twin hide (allocatorSigns u) (Machine.allocatorSigns v) := by
  unfold Machine.allocatorSigns
  rw [h.allocator, h.serviceRows]
  split
  · exact h
  · exact (h.withAllocator _).recompute _

theorem Twin.allocatorGates : Twin hide (allocatorGates u) (Machine.allocatorGates v) := by
  unfold Machine.allocatorGates
  rw [h.allocator, h.serviceRows]
  split
  · exact h
  · exact (h.withAllocator _).recompute _

theorem Twin.allocatorSignsGone : Twin hide (allocatorSignsGone u) (Machine.allocatorSignsGone v) := by
  unfold Machine.allocatorSignsGone
  rw [h.allocator]
  exact (h.withAllocator _).recompute _

theorem Twin.allocatorGatesGone : Twin hide (allocatorGatesGone u) (Machine.allocatorGatesGone v) := by
  unfold Machine.allocatorGatesGone
  rw [h.allocator]
  exact (h.withAllocator _).recompute _

theorem Twin.reclassed : v.reclassed = u.reclassed := by
  have rows : v.allocatorGateRow = u.allocatorGateRow := by
    funext k
    rw [State.allocatorGateRow, State.allocatorGateRow, h.allocator]
  have class_ : v.requestUrgent = u.requestUrgent := by
    funext k dir
    cases dir <;> simp only [State.requestUrgent, State.gateUrgent, rows, h.allocator]
  rw [State.reclassed, State.reclassed, class_, h.allocator]

theorem Twin.allocatorSegmentsGone : Twin hide (allocatorSegmentsGone u) (Machine.allocatorSegmentsGone v) := by
  have k := h.withAllocator { u.allocator with urgent := [] }
  unfold Machine.allocatorSegmentsGone
  dsimp only
  rw [h.allocator, k.reclassed]
  exact k.storeQueue _

theorem Twin.ensureSigns : Twin hide (ensureSigns u) (Machine.ensureSigns v) := by
  unfold Machine.ensureSigns
  rw [h.active]
  split
  · exact (h.takeEarly .signs fun k => k.allocatorSignsGone).allocatorSigns
  · exact h

theorem Twin.ensureGates : Twin hide (ensureGates u) (Machine.ensureGates v) := by
  unfold Machine.ensureGates
  rw [h.active]
  split
  · exact (h.takeEarly .gates fun k => k.allocatorGatesGone).allocatorGates
  · exact h

theorem Twin.ensureSegments : Twin hide (ensureSegments u) (Machine.ensureSegments v) := by
  unfold Machine.ensureSegments
  rw [h.active]
  split
  · exact h.takeEarly .segments fun k => k.allocatorSegmentsGone
  · exact h

/-! ### Reports offered and a hidden event taken, at one of two twins -/

theorem Twin.flushed (signal : .spaceSignal .v ∈ hide ∨ v.reports = []) : Twin hide u (flushReports v) := by
  rcases signal with signal | quiet
  · refine ⟨⟨(flushReports_responder v).trans h.responder, (flushReports_store v).trans h.store,
      (flushReports_sequencer v).trans h.sequencer, (flushReports_time v).trans h.time⟩,
      (flushReports_allocator v).trans h.allocator, ?_, ?_, fun r => ?_⟩
    · rw [flushReports_again, h.line]
    · have hidden : ∀ w : State, w.besideSpace.filter (fun x => decide (x ∉ hide)) = w.beyond hide := fun w => by
        rw [State.besideSpace, List.filter_filter]
        refine List.filter_congr fun x _ => ?_
        by_cases e : x = .spaceSignal .v <;> simp [e, signal]
      rw [← h.beyond, ← hidden v, ← hidden (flushReports v), besideSpace_flushReports]
    · rw [mem_flushReports v (e := .budgetRegionNotice r false) nofun, h.gone]
  · rwa [flushReports_of_nil quiet]

theorem Twin.took {c : Instr} (hidden : c ∈ hide) (other : ∀ r, c ≠ .budgetRegionNotice r false) :
    Twin hide u (v.took c) :=
  ⟨⟨h.responder, h.store, h.sequencer, h.time⟩, h.allocator,
    (flushReports_withHanded_line v _).trans h.line, (beyond_took v hidden).trans h.beyond,
    fun r => (List.mem_erase_of_ne (other r).symm).trans (h.gone r)⟩

end

theorem Twin.refl (hide : List Instr) (s : State) : Twin hide s s :=
  ⟨⟨rfl, rfl, rfl, rfl⟩, rfl, rfl, rfl, fun _ => .rfl⟩

/-- What is seen of two twins whose reports go out. -/
theorem Twin.outcome {hide : List Instr} {u v : State} (h : Twin hide u v) (signal : .spaceSignal .v ∈ hide) :
    (flushReports u).allocator = (flushReports v).allocator ∧ (flushReports u).line = (flushReports v).line ∧
      (flushReports u).beyond hide = (flushReports v).beyond hide := by
  have k := h.flushed (.inl signal)
  have k' := (Twin.refl hide u).flushed (.inl signal)
  exact ⟨by rw [flushReports_allocator, flushReports_allocator, h.allocator], h.line.symm,
    k'.beyond.trans k.beyond.symm⟩

/-- A request that comes ahead of a notice has the notice's effect first. -/
theorem ahead {hide : List Instr} {c note : Instr} {effect ensure : State → State} {s : State} (steady : s.steady)
    (hidden : c ∈ hide ∧ note ∈ hide ∧ .spaceSignal .v ∈ hide)
    (other : ∀ r, c ≠ .budgetRegionNotice r false ∧ note ≠ .budgetRegionNotice r false)
    (request : ∀ x, exec c x = taken c effect x) (notice : ∀ x, exec note x = taken note ensure x)
    (power : ∀ x, (ensure x).power = x.power) (twinE : ∀ {x y}, Twin hide x y → Twin hide (ensure x) (ensure y))
    (twin : ∀ {x y}, Twin hide x y → Twin hide (effect x) (effect y)) (absorbs : ∀ x, effect (ensure x) = effect x) :
    completes c s fun t => completes note s fun u => completes c u fun v =>
      t.allocator = v.allocator ∧ t.line = v.line ∧ t.beyond hide = v.beyond hide := by
  obtain ⟨hc, hn, signal⟩ := hidden
  have both : Twin hide (s.took c) (s.took note) :=
    ⟨⟨rfl, rfl, rfl, rfl⟩, rfl,
      by rw [State.took, State.took, flushReports_withHanded_line, flushReports_withHanded_line],
      by rw [beyond_took s hn, beyond_took s hc],
      fun r => (List.mem_erase_of_ne (other r).2.symm).trans (List.mem_erase_of_ne (other r).1.symm).symm⟩
  have later : Twin hide (effect (s.took c)) (effect ((flushReports (ensure (s.took note))).took c)) := by
    rw [← absorbs (s.took c)]
    exact twin (((twinE both).flushed (.inl signal)).took hc fun r => (other r).1)
  have again : (flushReports (ensure (s.took note))).steady :=
    ⟨((inUse_flushReports (.refl _)).power.trans (power _)).trans steady.1, flushReports_reports _⟩
  refine ⟨_, (request s).trans (taken_of_steady steady), _, (notice s).trans (taken_of_steady steady), _,
    (request _).trans (taken_of_steady again), later.outcome signal⟩

/-! ### An entry that has had its effect -/

theorem allocatorSigns_eq_self {s : State} (h : s.allocator.signsIn = true) : allocatorSigns s = s := if_pos h

theorem ensureSigns_eq_self {s : State}
    (h : s.active .signs = false ∨ (s.allocator.signsIn = true ∧ .budgetRegionNotice .signs false ∉ s.handed)) :
    ensureSigns s = s := by
  rcases h with out | ⟨entered, none⟩
  · rw [ensureSigns, out]
    rfl
  · unfold ensureSigns
    split
    · rw [takeEarly_of_not_mem none, allocatorSigns_eq_self entered]
    · rfl

theorem allocatorSigns_enters (s : State) :
    (allocatorSigns s).allocator.signsIn = true ∧ (allocatorSigns s).store = s.store ∧
      (.budgetRegionNotice .signs false ∈ (allocatorSigns s).handed ↔ .budgetRegionNotice .signs false ∈ s.handed) := by
  unfold allocatorSigns
  split
  · next entered => exact ⟨entered, rfl, .rfl⟩
  · refine ⟨?_, recompute_store .., mem_recompute nofun nofun⟩
    obtain ⟨q, ad, record⟩ := recompute_allocator .signs (s.withAllocator _)
    rw [record]
    rfl

theorem takeEarly_signs (s : State) :
    (takeEarly (.budgetRegionNotice .signs false) allocatorSignsGone s).store = s.store ∧
      .budgetRegionNotice .signs false ∉
        (takeEarly (.budgetRegionNotice .signs false) allocatorSignsGone s).handed := by
  unfold takeEarly
  split
  · refine ⟨recompute_store .., fun m => ?_⟩
    have waits := (mem_recompute (e := .budgetRegionNotice .signs false) nofun nofun).mp m
    exact absurd (List.mem_filter.mp waits).2 (by simp)
  · next none => exact ⟨rfl, by simpa using none⟩

/-- Once the entry has had its effect it has no further one. -/
theorem ensureSigns_again (s : State) : ensureSigns (ensureSigns s) = ensureSigns s := by
  refine ensureSigns_eq_self ?_
  unfold ensureSigns
  split
  · obtain ⟨-, none⟩ := takeEarly_signs s
    obtain ⟨entered, -, same⟩ :=
      allocatorSigns_enters (takeEarly (.budgetRegionNotice .signs false) allocatorSignsGone s)
    exact .inr ⟨entered, fun m => none (same.mp m)⟩
  · next out => exact .inl (by simpa using out)

theorem ensureSigns_power (s : State) : (ensureSigns s).power = s.power := (inUse_ensureSigns (.refl s)).power

theorem allocatorGates_eq_self {s : State} (h : s.allocator.gatesIn = true) : allocatorGates s = s := if_pos h

theorem ensureGates_eq_self {s : State}
    (h : s.active .gates = false ∨ (s.allocator.gatesIn = true ∧ .budgetRegionNotice .gates false ∉ s.handed)) :
    ensureGates s = s := by
  rcases h with out | ⟨entered, none⟩
  · rw [ensureGates, out]
    rfl
  · unfold ensureGates
    split
    · rw [takeEarly_of_not_mem none, allocatorGates_eq_self entered]
    · rfl

theorem allocatorGates_enters (s : State) :
    (allocatorGates s).allocator.gatesIn = true ∧ (allocatorGates s).store = s.store ∧
      (.budgetRegionNotice .gates false ∈ (allocatorGates s).handed ↔ .budgetRegionNotice .gates false ∈ s.handed) := by
  unfold allocatorGates
  split
  · next entered => exact ⟨entered, rfl, .rfl⟩
  · refine ⟨?_, recompute_store .., mem_recompute nofun nofun⟩
    obtain ⟨q, ad, record⟩ := recompute_allocator .gates (s.withAllocator _)
    rw [record]
    rfl

theorem takeEarly_gates (s : State) :
    (takeEarly (.budgetRegionNotice .gates false) allocatorGatesGone s).store = s.store ∧
      .budgetRegionNotice .gates false ∉
        (takeEarly (.budgetRegionNotice .gates false) allocatorGatesGone s).handed := by
  unfold takeEarly
  split
  · refine ⟨recompute_store .., fun m => ?_⟩
    have waits := (mem_recompute (e := .budgetRegionNotice .gates false) nofun nofun).mp m
    exact absurd (List.mem_filter.mp waits).2 (by simp)
  · next none => exact ⟨rfl, by simpa using none⟩

/-- Once the entry has had its effect it has no further one. -/
theorem ensureGates_again (s : State) : ensureGates (ensureGates s) = ensureGates s := by
  refine ensureGates_eq_self ?_
  unfold ensureGates
  split
  · obtain ⟨-, none⟩ := takeEarly_gates s
    obtain ⟨entered, -, same⟩ :=
      allocatorGates_enters (takeEarly (.budgetRegionNotice .gates false) allocatorGatesGone s)
    exact .inr ⟨entered, fun m => none (same.mp m)⟩
  · next out => exact .inl (by simpa using out)

theorem ensureGates_power (s : State) : (ensureGates s).power = s.power := (inUse_ensureGates (.refl s)).power

end Sys2Proof.Machine
end

section
/-!
OBLIGATION O53. The motion queue: requests, hand-backs, withdrawals and urgency.
-/

namespace Sys2Proof.Machine

/-! ### Deeds on the queue -/

/-- The examination of a state whose queue and admissions are given. -/
theorem examines_examineQueue (s : State) :
    examines s.allocator.queue s.allocator.admitted (examineQueue s) ∧
      (examineQueue s).allocator.figures = s.allocator.figures ∧ (examineQueue s).line = s.line ∧
      (examineQueue s).reports = s.reports := by
  obtain ⟨q, ad, record⟩ := examineDeed_record s.granting s.allocator
  rw [examineQueue_eq]
  refine ⟨examines_of_deed rfl (grants_after s examineDeed_other) fun e m => List.mem_append_right _ m, ?_, rfl, ?_⟩
  · change (examineDeed _ _).record.figures = _
    rw [record]
  · simp [State.after]

/-- A queue stored. -/
def storeDeed (granting : Bool) (a : Allocator) (q : List MotionEntry) : Deed :=
  if q.head? = a.queue.head? then ⟨{ a with queue := q }, [], []⟩ else examineDeed granting { a with queue := q }

theorem storeDeed_events {granting : Bool} {a : Allocator} {q : List MotionEntry} {e : Instr}
    (h : e ∈ (storeDeed granting a q).events) : ∃ k dir, e = .grant k dir := by
  unfold storeDeed at h
  split at h
  · cases h
  · exact examineDeed_events h

theorem storeDeed_record (granting : Bool) (a : Allocator) (q : List MotionEntry) :
    ∃ q' admitted, (storeDeed granting a q).record = { a with queue := q', admitted := admitted } := by
  unfold storeDeed
  split
  · exact ⟨q, a.admitted, rfl⟩
  · exact examineDeed_record granting { a with queue := q }

theorem storeDeed_asks (granting : Bool) (a : Allocator) (q : List MotionEntry) :
    (storeDeed granting a q).asks = [] := by
  unfold storeDeed
  split
  · rfl
  · exact examineDeed_asks ..

theorem storeQueue_eq (q : List MotionEntry) (s : State) :
    storeQueue q s = s.after (storeDeed s.granting s.allocator q) := by
  unfold storeQueue storeDeed
  dsimp only
  split
  · exact (after_idle (s.withAllocator { s.allocator with queue := q })).symm
  · exact examineQueue_eq _

/-- A queue stored: examined where its head has changed. -/
theorem storeQueue_spec (q : List MotionEntry) (s : State) :
    (∃ q' admitted, (storeQueue q s).allocator = { s.allocator with queue := q', admitted := admitted }) ∧
      (storeQueue q s).line = s.line ∧ (storeQueue q s).reports = s.reports ∧
      (q.head? ≠ s.allocator.queue.head? → examines q s.allocator.admitted (storeQueue q s)) ∧
      (q.head? = s.allocator.queue.head? →
        (storeQueue q s).allocator.queue = q ∧ (storeQueue q s).allocator.admitted = s.allocator.admitted) := by
  refine ⟨?_, ?_, ?_, fun differs => ?_, fun same => ?_⟩
  · rw [storeQueue_eq]
    exact storeDeed_record ..
  · rw [storeQueue_eq]
    rfl
  · rw [storeQueue_eq]
    simp [State.after, storeDeed_asks]
  · rw [storeQueue, if_neg differs]
    exact (examines_examineQueue (s.withAllocator { s.allocator with queue := q })).1
  · rw [storeQueue, if_pos same]
    exact ⟨rfl, rfl⟩

theorem allocatorSegmentsGone_eq (s : State) :
    allocatorSegmentsGone s = s.after (storeDeed s.granting { s.allocator with urgent := [] }
      (s.withAllocator { s.allocator with urgent := [] }).reclassed) := storeQueue_eq _ _

/-- A deed while an event waits that is none of its own. -/
theorem after_took {c : Instr} (s : State) {d : Deed} (other : c ∉ d.events) :
    (s.took c).after d = (s.after d).took c := by
  have erased : (s.handed ++ d.events).erase c = s.handed.erase c ++ d.events := by
    rw [List.erase_append, List.erase_of_not_mem other]
    split
    · rfl
    · next none => rw [List.erase_of_not_mem none]
  change (s.after d).withHanded (s.handed.erase c ++ d.events) = (s.after d).withHanded ((s.handed ++ d.events).erase c)
  rw [erased]

theorem dropAdmission_eq (k : Nat) (l : List (Nat × Nat)) : dropAdmission k l = l.eraseP fun e => e.1 == k := by
  induction l with
  | nil => rfl
  | cons e l ih =>
    rw [dropAdmission, List.eraseP_cons]
    by_cases same : e.1 = k
    · simp [same]
    · rw [if_neg same, ih, beq_eq_false_iff_ne.mpr same]
      rfl

/-- The class of a request, by the segments that are urgent (R147). -/
theorem requestUrgent_eq (s : State) (k : Nat) (dir : Direction) :
    s.requestUrgent k dir =
      (dir == .lowering && (s.allocatorGateRow k).any fun row => s.allocator.urgent.contains row.segment) := by
  cases dir <;> rfl

theorem reclassed_eq (s : State) :
    s.reclassed = placeAll (s.allocator.queue.map (classedAs s s.allocator.urgent)) := by
  unfold State.reclassed
  congr 2
  funext e
  rw [requestUrgent_eq]
  rfl

theorem le_foldl_max (l : List Nat) (n : Nat) : n ≤ l.foldl max n ∧ ∀ m ∈ l, m ≤ l.foldl max n := by
  induction l generalizing n with
  | nil => exact ⟨Nat.le_refl n, fun _ h => nomatch h⟩
  | cons x l ih =>
    obtain ⟨start, each⟩ := ih (max n x)
    refine ⟨le_trans (le_max_left n x) start, fun m mem => ?_⟩
    rcases List.mem_cons.mp mem with rfl | mem
    · exact le_trans (le_max_right n m) start
    · exact each m mem

theorem joined_lt_nextJoined {q : List MotionEntry} {x : MotionEntry} (h : x ∈ q) : x.joined < nextJoined q :=
  (le_foldl_max (q.map fun e => e.joined + 1) 0).2 _ (List.mem_map.mpr ⟨x, h, rfl⟩)

/-- The entry of a request joined at a time of its own, among those of the other gates. -/
theorem entryFor_apart {s : State} (ok : QueueOk s) (k : Nat) (dir : Direction) (draw : Nat) {x : MotionEntry}
    (other : x ∈ withoutGate k s.allocator.queue) : (s.entryFor k dir draw).joined ≠ x.joined := by
  obtain ⟨-, joined, -⟩ := ok
  obtain ⟨mem, gate⟩ := List.mem_filter.mp other
  unfold State.entryFor
  dsimp only
  split
  · next e found =>
    intro same
    have e_eq : e = x := List.inj_on_of_nodup_map joined (List.mem_of_find?_eq_some found) mem same
    subst e_eq
    have at_k : (e.gate == k) = true := List.find?_some (p := fun e : MotionEntry => e.gate == k) found
    simp [eq_of_beq at_k] at gate
  · exact (joined_lt_nextJoined mem).ne'

theorem inOrder_request {s : State} (ok : QueueOk s) (k : Nat) (dir : Direction) (draw : Nat) :
    inOrder (placeEntry (s.entryFor k dir draw) (withoutGate k s.allocator.queue)) := by
  obtain ⟨-, -, sorted, -⟩ := id ok
  exact inOrder_placeEntry ((inOrder_iff _).mpr (sorted.filter _)) fun x => entryFor_apart ok k dir draw

theorem entryFor_eq (s : State) (k : Nat) (dir : Direction) (draw : Nat) :
    s.entryFor k dir draw =
      let urgent := dir == .lowering && (s.allocatorGateRow k).any fun row => s.allocator.urgent.contains row.segment
      match s.allocator.queue.find? fun e => e.gate == k with
      | some e => { e with direction := dir, urgent := urgent }
      | none =>
        { gate := k, direction := dir, draw := draw, urgent := urgent, time := s.now
          joined := nextJoined s.allocator.queue } := by
  unfold State.entryFor
  rw [requestUrgent_eq] <;> rfl

/-! ### Requests, hand-backs and withdrawals -/

theorem requestAdmission_again (k : Nat) (dir : Direction) (draw : Nat) (s : State) :
    requestAdmission k dir draw (ensureGates s) = requestAdmission k dir draw s := by
  unfold requestAdmission
  rw [ensureGates_again]

theorem Twin.requestAdmission {hide : List Instr} {u v : State} (h : Twin hide u v) (k : Nat) (dir : Direction)
    (draw : Nat) : Twin hide (requestAdmission k dir draw u) (Machine.requestAdmission k dir draw v) := by
  have t := h.ensureGates
  have row : (Machine.ensureGates v).allocatorGateRow = (Machine.ensureGates u).allocatorGateRow := by
    funext i
    rw [State.allocatorGateRow, State.allocatorGateRow, t.allocator]
  have now : (Machine.ensureGates v).now = (Machine.ensureGates u).now := by rw [State.now, State.now, t.time]
  have entry : (Machine.ensureGates v).entryFor k dir draw = (Machine.ensureGates u).entryFor k dir draw := by
    rw [entryFor_eq, entryFor_eq, row, now, t.allocator]
  unfold Machine.requestAdmission
  dsimp only
  rw [t.active, entry, t.allocator]
  split
  · exact (t.withAllocator _).examineQueue
  · exact t

theorem completes_of_quiet {c : Instr} {effect : State → State} {s : State} {holds : State → Prop}
    (steady : s.steady) (request : exec c s = taken c effect s) (quiet : (effect (s.took c)).reports = [])
    (k : holds (effect (s.took c))) : completes c s holds := ⟨_, request.trans (taken_of_quiet steady quiet), k⟩

/-- A request for a gate in service. -/
theorem requestAdmission_of_in {s : State} (k : Nat) (dir : Direction) (draw : Nat) (active : s.active .gates = true)
    (entered : s.allocator.gatesIn = true) (none : .budgetRegionNotice .gates false ∉ s.handed) :
    requestAdmission k dir draw s = examineQueue (s.withAllocator { s.allocator with
      queue := placeEntry (s.entryFor k dir draw) (withoutGate k s.allocator.queue) }) := by
  unfold requestAdmission
  dsimp only
  rw [ensureGates_eq_self (.inr ⟨entered, none⟩), active, entered]
  rfl

/-- Where GATES is not in service a request changes nothing. -/
theorem requestAdmission_of_out {s : State} (k : Nat) (dir : Direction) (draw : Nat) (out : s.active .gates = false) :
    requestAdmission k dir draw s = s := by
  unfold requestAdmission
  dsimp only
  rw [ensureGates_eq_self (.inl out), out]
  rfl

/-! ### Urgency -/

theorem ensureSegments_eq_self {s : State}
    (h : s.active .segments = false ∨ .budgetRegionNotice .segments false ∉ s.handed) : ensureSegments s = s := by
  unfold ensureSegments
  rcases h with out | none
  · rw [out]
    rfl
  · rw [takeEarly_of_not_mem none, ite_self]

/-- A list of indices with one switched in or out: the urgent segments, the lit signs. -/
def switched (i : Nat) (on : Bool) (l : List Nat) : List Nat := if on then setInsert l i else setRemove l i

theorem mem_switched (g : Nat) (urgent : Bool) (l : List Nat) (n : Nat) :
    n ∈ switched g urgent l ↔ (n = g ∧ urgent = true) ∨ (n ≠ g ∧ n ∈ l) := by
  unfold switched
  cases urgent
  · simp [mem_setRemove, and_comm]
  · by_cases same : n = g <;> simp [mem_setInsert, same]

/-- What an urgency notice does once the notice of a clear has had its effect. -/
def urgencyNoted (g : Nat) (urgent : Bool) (s : State) : State :=
  let u := s.withAllocator { s.allocator with urgent := switched g urgent s.allocator.urgent }
  storeQueue u.reclassed u

theorem segmentUrgency_of_in {s : State} (g : Nat) (urgent : Bool) (active : s.active .segments = true) :
    segmentUrgency g urgent s = urgencyNoted g urgent (ensureSegments s) := by
  unfold segmentUrgency
  rw [active]
  rfl

theorem urgencyNoted_spec (g : Nat) (urgent : Bool) (s : State) :
    let l := switched g urgent s.allocator.urgent
    let q := placeAll (s.allocator.queue.map (classedAs s l))
    let t := urgencyNoted g urgent s
    (∃ q' admitted, t.allocator = { s.allocator with urgent := l, queue := q', admitted := admitted }) ∧
      t.line = s.line ∧ t.reports = s.reports ∧
      (q.head? ≠ s.allocator.queue.head? → examines q s.allocator.admitted t) ∧
      (q.head? = s.allocator.queue.head? →
        t.allocator.queue = q ∧ t.allocator.admitted = s.allocator.admitted) := by
  have spec := storeQueue_spec (s.withAllocator
    { s.allocator with urgent := switched g urgent s.allocator.urgent }).reclassed (s.withAllocator
    { s.allocator with urgent := switched g urgent s.allocator.urgent })
  rw [reclassed_eq] at spec
  unfold urgencyNoted
  dsimp only
  rw [reclassed_eq]
  exact spec

/-- A queue classed afresh holds its entries, and is in order where each joined at a time of its own. -/
theorem placeAll_classed {s : State} {q : List MotionEntry} (joined : (q.map MotionEntry.joined).Nodup)
    (l : List Nat) :
    inOrder (placeAll (q.map (classedAs s l))) ∧ (placeAll (q.map (classedAs s l))).length = q.length ∧
      ∀ e ∈ q, classedAs s l e ∈ placeAll (q.map (classedAs s l)) := by
  refine ⟨inOrder_placeAll ?_, by rw [(placeAll_perm _).length_eq, List.length_map],
    fun e mem => (placeAll_perm _).mem_iff.mpr (List.mem_map_of_mem mem)⟩
  rw [List.map_map]
  exact joined

theorem took_granting {c : Instr} (s : State) (other : c ≠ .budgetRegionNotice .gates false) :
    (s.took c).granting = s.granting := by
  rw [Bool.eq_iff_iff, granting_iff, granting_iff]
  exact and_congr_right fun _ => not_congr (List.mem_erase_of_ne other.symm)

/-- The deed of SEGMENTS leaving service at the Allocator does not ask whether another event waits. -/
theorem allocatorSegmentsGone_took {c : Instr} (s : State) (other : c ≠ .budgetRegionNotice .gates false)
    (ungranted : ∀ k dir, c ≠ .grant k dir) :
    allocatorSegmentsGone (s.took c) = (allocatorSegmentsGone s).took c := by
  rw [allocatorSegmentsGone_eq, allocatorSegmentsGone_eq, took_granting s other]
  exact after_took _ fun m => by
    obtain ⟨k, dir, e⟩ := storeDeed_events m
    exact ungranted k dir e

/-- An urgency notice behind a clear of SEGMENTS whose notice still waits has that one's effect first. -/
theorem urgency_behind_clear (g : Nat) (urgent : Bool) {s : State} (steady : s.steady)
    (active : s.active .segments = true) (waits : .budgetRegionNotice .segments false ∈ s.handed) :
    let c := Instr.urgencyNotice g urgent
    let gone := Instr.budgetRegionNotice .segments false
    completes c s fun t => completes gone (s.withHanded (s.handed.filter fun x => x != gone)) fun u =>
      completes c u fun v => t.allocator = v.allocator ∧ t.line = v.line ∧ t.handed = v.handed := by
  intro c gone
  let s' := s.withHanded (s.handed.filter fun x => x != gone)
  let u := allocatorSegmentsGone s'
  have none : gone ∉ s'.handed := fun m => absurd (List.mem_filter.mp m).2 (by simp)
  have fresh : gone ∉ u.handed := fun m => by
    rw [show u = _ from allocatorSegmentsGone_eq s'] at m
    rcases List.mem_append.mp m with m | m
    · exact none m
    · obtain ⟨_, _, e⟩ := storeDeed_events m
      exact nomatch e
  have record : ∀ x : State, (allocatorSegmentsGone x).reports = x.reports ∧
      (allocatorSegmentsGone x).store = x.store ∧ (allocatorSegmentsGone x).power = x.power := fun x => by
    rw [allocatorSegmentsGone_eq]
    exact ⟨by simp [State.after, storeDeed_asks], rfl, rfl⟩
  obtain ⟨quiet, store, power⟩ := record s'
  have noted : ∀ x : State, (urgencyNoted g urgent x).reports = x.reports := fun x => by
    obtain ⟨-, -, quiet, -⟩ := urgencyNoted_spec g urgent x
    exact quiet
  have ahead : segmentUrgency g urgent (s.took c) = urgencyNoted g urgent (u.took c) := by
    have behind : ensureSegments (s.took c) = u.took c := by
      have waits' : gone ∈ (s.took c).handed := (List.mem_erase_of_ne (by simp [c, gone])).mpr waits
      rw [ensureSegments, show (s.took c).active .segments = true from active, if_pos rfl, takeEarly_of_mem waits']
      have same : (s.took c).withHanded ((s.took c).handed.filter fun x => x != gone) = s'.took c :=
        congrArg s.withHanded (List.erase_filter ..).symm
      rw [same]
      exact allocatorSegmentsGone_took s' (by simp [c]) (by simp [c])
    rw [segmentUrgency_of_in (s := s.took c) g urgent active, behind]
  have later : segmentUrgency g urgent (u.took c) = urgencyNoted g urgent (u.took c) := by
    have active' : (u.took c).active .segments = true := by
      rw [State.active, State.region, show (u.took c).store = s.store from store]
      exact active
    rw [segmentUrgency_of_in g urgent active', ensureSegments_eq_self (.inr fun m => fresh (List.mem_of_mem_erase m))]
  have steady' : u.steady := ⟨power.trans steady.1, quiet.trans steady.2⟩
  refine ⟨_, taken_eq steady ahead ((noted _).trans steady'.2), u, ?_, _,
    taken_eq steady' later ((noted _).trans steady'.2), rfl, rfl, rfl⟩
  have untaken : s'.took gone = s' := congrArg s'.withHanded (List.erase_of_not_mem none)
  exact taken_eq (effect := allocatorSegmentsGone) (s := s') steady (congrArg _ untaken) steady'.2

/-- Settles O53: requests, hand-backs, withdrawals and urgency at the motion queue. -/
theorem motorCurrentIsGrantedInOrder : Obligations.MotorCurrentIsGrantedInOrder := by
  refine ⟨fun k dir draw s steady ok => ?_, fun g urgent s steady ok => ?_⟩
  · intro c a others urgent e q
    refine ⟨fun out => ?_, ?_, fun active entered none => ?_, ?_, ?_⟩
    · have idle : requestAdmission k dir draw (s.took c) = s.took c := requestAdmission_of_out k dir draw out
      exact taken_eq steady idle steady.2
    · intro active _
      exact ahead (hide := [c, .budgetRegionNotice .gates true, .budgetRegionNotice .gates false, .spaceSignal .v])
        (ensure := ensureGates) steady (by simp) (fun r => ⟨nofun, by simp⟩) (fun x => rfl) (fun x => rfl)
        ensureGates_power Twin.ensureGates (fun h => h.requestAdmission k dir draw) (requestAdmission_again k dir draw)
    · have entry : s.entryFor k dir draw = e := entryFor_eq s k dir draw
      have placed : inOrder q := by
        have sorted := inOrder_request ok k dir draw
        rwa [entry] at sorted
      have perm : q.Perm (e :: others) := placeEntry_perm e others
      refine ⟨placed, fun x mem => perm.mem_iff.mpr (List.mem_cons_of_mem _ mem),
        perm.mem_iff.mpr List.mem_cons_self, perm.length_eq, ?_⟩
      have run : requestAdmission k dir draw (s.took c) =
          examineQueue ((s.took c).withAllocator { a with queue := q }) := by
        rw [requestAdmission_of_in (s := s.took c) k dir draw active entered fun m => none (List.mem_of_mem_erase m)]
        change examineQueue ((s.took c).withAllocator
          { a with queue := placeEntry (s.entryFor k dir draw) others }) = _
        rw [entry]
      obtain ⟨examined, figures, line, quiet⟩ :=
        examines_examineQueue ((s.took c).withAllocator { a with queue := q })
      exact completes_of_quiet (effect := requestAdmission k dir draw) steady rfl
        (by rw [run, quiet]; exact steady.2) (by rw [run]; exact ⟨figures, line, examined⟩)
    · obtain ⟨examined, figures, line, quiet⟩ := examines_examineQueue
        ((s.took (.handBack k)).withAllocator { a with admitted := dropAdmission k a.admitted })
      refine completes_of_quiet (effect := takeBack k) steady rfl (quiet.trans steady.2) ⟨figures, line, ?_⟩
      rw [← dropAdmission_eq]
      exact examined
    · obtain ⟨⟨_, _, record⟩, line, quiet, changed, same⟩ :=
        storeQueue_spec others (s.took (.requestWithdrawn k))
      exact completes_of_quiet (effect := withdrawRequest k) steady rfl (quiet.trans steady.2)
        ⟨(congrArg Allocator.figures record).trans rfl, line, changed, same⟩
  · intro c a
    have joined : (a.queue.map MotionEntry.joined).Nodup := ok.2.1
    refine ⟨fun out => ?_, fun active waits => ?_, fun active none => ?_⟩
    · have idle : segmentUrgency g urgent (s.took c) = s.took c := by
        rw [segmentUrgency, show (s.took c).active .segments = false from out]
        rfl
      exact taken_eq steady idle steady.2
    · exact urgency_behind_clear g urgent steady active waits
    · have early : ensureSegments (s.took c) = s.took c :=
        ensureSegments_eq_self (.inr fun m => none (List.mem_of_mem_erase m))
      have run := segmentUrgency_of_in (s := s.took c) g urgent active
      rw [early] at run
      obtain ⟨⟨_, _, record⟩, line, quiet, changed, same⟩ := urgencyNoted_spec g urgent (s.took c)
      have l := congrArg Allocator.urgent record
      refine completes_of_quiet (effect := segmentUrgency g urgent) steady rfl (by rw [run, quiet]; exact steady.2) ?_
      rw [run, l]
      obtain ⟨sorted, length, held⟩ := placeAll_classed joined (s := s) (switched g urgent a.urgent)
      exact ⟨mem_switched g urgent a.urgent, sorted, length, held,
        (congrArg Allocator.figures record).trans rfl, line, changed, same⟩

end Sys2Proof.Machine
end

section
/-!
OBLIGATION O54. Lit signs, the light channel and the Allocator's regions: each recomputes the figures.
-/

namespace Sys2Proof.Machine

theorem completes_mono {c : Instr} {s : State} {p q : State → Prop} (h : completes c s p) (k : ∀ t, p t → q t) :
    completes c s q := by
  obtain ⟨t, run, holds⟩ := h
  exact ⟨t, run, k t holds⟩

theorem mapGet_presentRows (n : Nat) (rows : Map Bytes) (i : Nat) :
    mapGet (presentRows n rows) i = presentIn n rows i := by
  have held : ∀ row, presentIn n rows i = some row → mapGet (presentRows n rows) i = some row := fun row h => by
    obtain ⟨lt, present, rfl⟩ := presentIn_eq_some.mp h
    exact mapGet_of_mem (e := (i, _)) (mapSorted_presentRows n rows) (mem_presentRows.mpr ⟨lt, present, rfl⟩)
  cases h : presentIn n rows i with
  | some row => exact held row h
  | none =>
    cases found : mapGet (presentRows n rows) i with
    | none => rfl
    | some row =>
      obtain ⟨lt, present, e⟩ := mem_presentRows.mp (mem_of_mapGet found)
      rw [presentIn_eq_some.mpr ⟨lt, present, e⟩] at h
      cases h

/-- The rows a job finds in service are those that a reference finds. -/
theorem mapGet_serviceRows (s : State) (r : Region) (i : Nat) : mapGet (s.serviceRows r) i = s.reference r i := by
  unfold State.serviceRows State.reference
  split
  · exact mapGet_presentRows ..
  · rfl

/-! ### A meaning that recomputes -/

/-- What is said of a meaning whose effect is a recomputation over a new record. -/
theorem completes_recompute {c : Instr} {cause : BudgetCause} {effect : State → State} {s : State} (steady : s.steady)
    (a : Allocator) (request : exec c s = taken c effect s)
    (run : effect (s.took c) = recompute cause ((s.took c).withAllocator a))
    (figures : a.figures = s.allocator.figures) (admitted : a.admitted = s.allocator.admitted)
    (flag : a.belowFloor = s.allocator.belowFloor) :
    completes c s fun t =>
      (∃ f gr b q ad, t.allocator =
        { a with figures := f, granted := gr, belowFloor := b, queue := q, admitted := ad }) ∧
      t.freshRequested = (s.took c).freshRequested ∧ recomputes s t a.granted a.queue ∧
      (s.room 1 → addedV s t (s.budgetReports s.allocator.belowFloor t.allocator (BudgetCause.num cause))) := by
  refine ⟨_, request.trans (taken_of_steady steady), ?_⟩
  rw [run]
  refine ⟨?_, ?_, recomputes_flushReports s figures admitted, fun room => ?_⟩
  · obtain ⟨q, ad, record⟩ := recompute_allocator cause ((s.took c).withAllocator a)
    exact ⟨_, _, _, q, ad, (flushReports_allocator _).trans record⟩
  · rw [freshRequested_flushReports, freshRequested_recompute]
    rfl
  · rw [← flag]
    exact addedV_recompute s (u := (s.took c).withAllocator a) room steady.2 rfl rfl rfl rfl

/-! ### Lit signs and the light channel -/

/-- What a lit notice does once SIGNS' notice has had its effect. -/
def litNoted (g : Nat) (lit : Bool) (s : State) : State :=
  if (s.allocatorSignRow g).isNone then s
  else if switched g lit s.allocator.lit = s.allocator.lit then s
  else recompute .signs (s.withAllocator { s.allocator with lit := switched g lit s.allocator.lit })

theorem signLit_eq (g : Nat) (lit : Bool) (s : State) : signLit g lit s = litNoted g lit (ensureSigns s) := rfl

theorem signLit_again (g : Nat) (lit : Bool) (s : State) : signLit g lit (ensureSigns s) = signLit g lit s := by
  rw [signLit_eq, signLit_eq, ensureSigns_again]

theorem Twin.litNoted {hide : List Instr} {u v : State} (h : Twin hide u v) (g : Nat) (lit : Bool) :
    Twin hide (litNoted g lit u) (Machine.litNoted g lit v) := by
  unfold Machine.litNoted
  have row : v.allocatorSignRow g = u.allocatorSignRow g := by
    rw [State.allocatorSignRow, State.allocatorSignRow, h.allocator]
  rw [row, h.allocator]
  split
  · exact h
  · split
    · exact h
    · exact (h.withAllocator _).recompute _

/-- The requested level as R141 states it. -/
theorem requestedFor_eq (present : Bool) (m : ChannelStatus) (filtered : Int) (step : Nat) :
    requestedFor present m filtered step =
      if present = true ∧ m = .live then (min 7 (1 + max filtered 0 / (step : Int))).toNat else 7 := by
  unfold requestedFor requestedLevel
  refine if_congr Iff.rfl ?_ rfl
  rw [show max filtered 0 = (filtered.toNat : Int) by omega]
  have : (1 + (filtered.toNat : Int) / step) = ((1 + filtered.toNat / step : Nat) : Int) := by push_cast; rfl
  rw [this]
  generalize 1 + filtered.toNat / step = n
  omega

/-! ### A clear whose notice still waits -/

theorem erase_filter (l : List Instr) (p : Instr → Bool) (a : Instr) : (l.erase a).filter p = (l.filter p).erase a :=
  (List.erase_filter ..).symm

theorem Twin.tookBoth {hide : List Instr} {u v : State} (h : Twin hide u v) {c : Instr}
    (other : ∀ r, c ≠ .budgetRegionNotice r false) : Twin hide (u.took c) (v.took c) where
  responder := h.responder
  store := h.store
  sequencer := h.sequencer
  time := h.time
  allocator := h.allocator
  line := by rw [State.took, State.took, flushReports_withHanded_line, flushReports_withHanded_line, h.line]
  beyond := by
    change (v.handed.erase c).filter _ = (u.handed.erase c).filter _
    rw [erase_filter, erase_filter]
    exact congrArg (List.erase · c) h.beyond
  gone r := by
    change _ ∈ v.handed.erase c ↔ _ ∈ u.handed.erase c
    rw [List.mem_erase_of_ne (other r).symm, List.mem_erase_of_ne (other r).symm, h.gone]

/-- A recomputation does not ask whether an event waits that is none of its own. -/
theorem recompute_took {c : Instr} (cause : BudgetCause) (s : State) (other : ∀ r, c ≠ .budgetRegionNotice r false)
    (ungranted : ∀ k dir, c ≠ .grant k dir) (unnoted : ∀ g l, c ≠ .grantNotice g l) :
    recompute cause (s.took c) = (recompute cause s).took c := by
  have same : recomputeDeed cause (s.took c) = recomputeDeed cause s := by
    simp only [recomputeDeed, grownDeed, computed_congr (u := s) (v := s.took c) rfl rfl,
      took_granting s (other .gates)]
    rfl
  rw [recompute_eq, recompute_eq, same]
  refine after_took s fun m => ?_
  rcases recomputeDeed_events m with ⟨g, l, e⟩ | ⟨k, dir, e⟩
  · exact unnoted g l e
  · exact ungranted k dir e

/-- An entry notice that finds the region ACTIVE again, while the notice of a clear still waits. -/
theorem entry_behind_clear {r : Region} {gone enter : State → State} {s : State} (steady : s.steady)
    (entry : ∀ x, exec (.budgetRegionNotice r true) x = taken (.budgetRegionNotice r true) (budgetRegion r true) x)
    (clear : ∀ x, exec (.budgetRegionNotice r false) x = taken (.budgetRegionNotice r false) gone x)
    (ensures : ∀ x, x.active r = true →
      budgetRegion r true x = enter (takeEarly (.budgetRegionNotice r false) gone x))
    (goneTook : ∀ x, gone (x.took (.budgetRegionNotice r true)) = (gone x).took (.budgetRegionNotice r true))
    (goneLeaves : ∀ x, (gone x).store = x.store ∧ (gone x).power = x.power ∧
      (.budgetRegionNotice r false ∈ (gone x).handed ↔ .budgetRegionNotice r false ∈ x.handed))
    (twin : ∀ {x y}, Twin [.spaceSignal .v] x y → Twin [.spaceSignal .v] (enter x) (enter y))
    (active : s.active r = true) (waits : .budgetRegionNotice r false ∈ s.handed) :
    let note := Instr.budgetRegionNotice r
    completes (note true) s fun t =>
      completes (note false) (s.withHanded (s.handed.filter fun x => x != note false)) fun u =>
        completes (note true) u fun v => t.allocator = v.allocator ∧ t.line = v.line ∧
          t.beyond [.spaceSignal .v] = v.beyond [.spaceSignal .v] := by
  intro note
  let early := s.withHanded (s.handed.filter fun x => x != note false)
  have none : note false ∉ early.handed := fun m => absurd (List.mem_filter.mp m).2 (by simp)
  have untaken : early.took (note false) = early := congrArg early.withHanded (List.erase_of_not_mem none)
  obtain ⟨store, power, waiting⟩ := goneLeaves early
  have ahead : budgetRegion r true (s.took (note true)) = enter ((gone early).took (note true)) := by
    have waits' : note false ∈ (s.took (note true)).handed := (List.mem_erase_of_ne (by simp [note])).mpr waits
    rw [ensures (s.took (note true)) active, takeEarly_of_mem waits', ← goneTook]
    exact congrArg (fun l => enter (gone (s.withHanded l))) (erase_filter ..)
  have later : budgetRegion r true ((flushReports (gone early)).took (note true)) =
      enter ((flushReports (gone early)).took (note true)) := by
    have still : ((flushReports (gone early)).took (note true)).active r = true := by
      rw [State.active, State.region,
        show ((flushReports (gone early)).took (note true)).store = s.store from (flushReports_store _).trans store]
      exact active
    have none' : note false ∉ ((flushReports (gone early)).took (note true)).handed := fun m =>
      none (waiting.mp ((mem_flushReports _ (by simp)).mp (List.mem_of_mem_erase m)))
    rw [ensures _ still, takeEarly_of_not_mem none']
  have both : Twin [.spaceSignal .v] (enter ((gone early).took (note true)))
      (enter ((flushReports (gone early)).took (note true))) :=
    twin (((Twin.refl _ _).flushed (.inl (by simp))).tookBoth (by simp [note]))
  have again : (flushReports (gone early)).steady :=
    ⟨((inUse_flushReports (.refl _)).power.trans power).trans steady.1, flushReports_reports _⟩
  refine ⟨_, (entry s).trans (taken_of_steady steady), _, (clear early).trans (taken_of_steady steady), _,
    (entry _).trans (taken_of_steady (by rw [untaken]; exact again)), ?_⟩
  rw [ahead, untaken, later]
  exact both.outcome (by simp)

/-- What a recomputation over a new record leaves, as the clear of a region whose notice waits needs it. -/
theorem recompute_leaves (cause : BudgetCause) (s : State) (r : Region) :
    (recompute cause s).store = s.store ∧ (recompute cause s).power = s.power ∧
      (.budgetRegionNotice r false ∈ (recompute cause s).handed ↔ .budgetRegionNotice r false ∈ s.handed) :=
  ⟨recompute_store .., (inUse_recompute (.refl s) cause).power, mem_recompute nofun nofun⟩

theorem allocatorSegmentsGone_leaves (s : State) (r : Region) :
    (allocatorSegmentsGone s).store = s.store ∧ (allocatorSegmentsGone s).power = s.power ∧
      (.budgetRegionNotice r false ∈ (allocatorSegmentsGone s).handed ↔ .budgetRegionNotice r false ∈ s.handed) := by
  rw [allocatorSegmentsGone_eq]
  refine ⟨rfl, rfl, ?_⟩
  change _ ∈ s.handed ++ _ ↔ _
  rw [List.mem_append, or_iff_left]
  intro m
  obtain ⟨_, _, e⟩ := storeDeed_events m
  exact nomatch e

/-- The Allocator's regions, ACTIVE again while the notice of a clear still waits. -/
theorem regions_behind_clear {r : Region} {s : State} (steady : s.steady) (own : r ∈ [Region.signs, .gates, .segments])
    (active : s.active r = true) (waits : .budgetRegionNotice r false ∈ s.handed) :
    let note := Instr.budgetRegionNotice r
    completes (note true) s fun t =>
      completes (note false) (s.withHanded (s.handed.filter fun x => x != note false)) fun u =>
        completes (note true) u fun v => t.allocator = v.allocator ∧ t.line = v.line ∧
          t.beyond [.spaceSignal .v] = v.beyond [.spaceSignal .v] := by
  simp only [List.mem_cons, List.not_mem_nil, or_false] at own
  rcases own with rfl | rfl | rfl
  · exact entry_behind_clear steady (gone := allocatorSignsGone) (enter := allocatorSigns) (fun x => rfl) (fun x => rfl)
      (fun x on => if_pos on) (fun x => recompute_took .signs (x.withAllocator _) nofun nofun nofun)
      (fun x => recompute_leaves ..) (fun h => h.allocatorSigns) active waits
  · exact entry_behind_clear steady (gone := allocatorGatesGone) (enter := allocatorGates) (fun x => rfl) (fun x => rfl)
      (fun x on => if_pos on) (fun x => recompute_took .gates (x.withAllocator _) nofun nofun nofun)
      (fun x => recompute_leaves ..) (fun h => h.allocatorGates) active waits
  · exact entry_behind_clear steady (gone := allocatorSegmentsGone) (enter := id) (fun x => rfl) (fun x => rfl)
      (fun x on => if_pos on) (fun x => allocatorSegmentsGone_took x nofun nofun)
      (fun x => allocatorSegmentsGone_leaves ..) (fun h => h) active waits

theorem others_eq_beyond (s : State) :
    (s.handed.filter fun x => x != .spaceSignal .v) = s.beyond [.spaceSignal .v] := by
  refine List.filter_congr fun x _ => ?_
  by_cases e : x = .spaceSignal .v <;> simp [e]

/-! ### The regions -/

theorem granted_eq_nil {s t : State} {q : List MotionEntry} {granted : Map Nat} (h : recomputes s t granted q)
    (none : t.allocator.signRows = []) : t.allocator.granted = [] := by
  obtain ⟨-, -, keys, -⟩ := h
  have empty : t.presentSigns = [] := by rw [State.presentSigns, none]; rfl
  rw [empty] at keys
  exact List.map_eq_nil_iff.mp keys

theorem queue_eq_nil {s t : State} {granted : Map Nat} (h : recomputes s t granted []) : t.allocator.queue = [] := by
  obtain ⟨-, -, -, -, grown, kept⟩ := h
  by_cases more : s.allocator.figures.remaining < t.allocator.figures.remaining
  · obtain ⟨idle, serves⟩ := grown more
    by_cases grants : t.grants
    · obtain ⟨n, -, queue, -⟩ := serves grants
      rw [queue, List.drop_nil]
    · exact (idle grants).1
  · exact (kept (by omega)).1

theorem urgent_of_mem_placeAll {s : State} {q : List MotionEntry} {e : MotionEntry}
    (mem : e ∈ placeAll (q.map (classedAs s []))) : e.urgent = false := by
  obtain ⟨x, -, rfl⟩ := List.mem_map.mp ((placeAll_perm _).mem_iff.mp mem)
  cases h : s.allocatorGateRow x.gate <;> simp [classedAs, h]

theorem not_waiting_took {s : State} {n c : Instr} (h : n ∉ s.handed) : n ∉ (s.took c).handed :=
  fun m => h (List.mem_of_mem_erase m)

/-- Settles O54: lit signs, the light channel and the Allocator's regions. -/
theorem lightLitSignsAndRegionsRecompute : Obligations.LightLitSignsAndRegionsRecompute := by
  refine ⟨fun g lit status filtered s steady => ?_, fun s steady ok => ?_⟩
  · intro a c d level
    have requested : requestedFor (s.reference .channels g).isSome status filtered s.store.site.lightStep.toNat =
        level := requestedFor_eq ..
    refine ⟨?_, fun settled => ?_, fun unconcerned => ?_, fun light differs => ?_⟩
    · intro active _
      exact ahead (hide := [c, .budgetRegionNotice .signs true, .budgetRegionNotice .signs false, .spaceSignal .v])
        (ensure := ensureSigns) steady (by simp) (fun r => ⟨nofun, by simp⟩) (fun x => rfl) (fun x => rfl)
        ensureSigns_power Twin.ensureSigns (fun h => by rw [signLit_eq, signLit_eq]; exact h.ensureSigns.litNoted g lit)
        (signLit_again g lit)
    · have ensured : ensureSigns (s.took c) = s.took c :=
        ensureSigns_eq_self (settled.imp_right (And.imp_right not_waiting_took))
      have run := signLit_eq g lit (s.took c)
      rw [ensured] at run
      refine ⟨fun absent => ?_, fun row present => ?_⟩
      · refine taken_eq steady (run.trans (if_pos ?_)) steady.2
        rw [show (s.took c).allocatorSignRow g = none from absent]
        rfl
      · have found : ¬ ((s.took c).allocatorSignRow g).isNone = true := by
          rw [show (s.took c).allocatorSignRow g = some row from present]
          nofun
        rw [litNoted, if_neg found] at run
        by_cases same : switched g lit a.lit = a.lit
        · refine ⟨s.took c, taken_eq steady (run.trans (if_pos same)) steady.2, fun n => ?_, rfl, rfl, fun _ => rfl,
            fun differs => absurd rfl differs⟩
          rw [← mem_switched, same]
          rfl
        · refine completes_mono (completes_recompute steady { a with lit := switched g lit a.lit } rfl
            (run.trans (if_neg same)) rfl rfl rfl) fun t ⟨⟨_, _, _, _, _, record⟩, _, figures, added⟩ => ?_
          rw [record] at *
          exact ⟨mem_switched g lit a.lit, rfl, rfl, fun e => absurd e same, fun _ => ⟨figures, added⟩⟩
    · refine taken_eq (effect := lightChange g status filtered) steady ?_ steady.2
      unfold lightChange
      split
      · next light =>
        have still := unconcerned.resolve_left (not_not.mpr light)
        exact if_pos (requested.trans still)
      · rfl
    · have run : lightChange g status filtered (s.took d) =
          recompute .light ((s.took d).withAllocator { a with requested := level }) := by
        refine (if_pos light).trans ?_
        change refreshRequested (requestedFor (s.reference .channels g).isSome _ _ s.store.site.lightStep.toNat) _ = _
        rw [requested]
        exact if_neg differs
      refine completes_mono (completes_recompute steady { a with requested := level } rfl run rfl rfl rfl)
        fun t ⟨⟨_, _, _, _, _, record⟩, _, figures, added⟩ => ?_
      rw [record] at *
      exact ⟨rfl, rfl, rfl, figures, added⟩
  · intro a note others early
    refine ⟨fun r own active waits => ?_, fun settled => ?_, fun out active none => ?_, ?_, fun settled => ?_,
      fun out active none => ?_, ?_, fun entered _ => ?_, ?_, fun settled => ?_, ?_⟩
    · have taken := regions_behind_clear steady own active waits
      refine completes_mono taken fun t h => completes_mono h fun u h => completes_mono h fun v h => ?_
      obtain ⟨allocator, line, rest⟩ := h
      exact ⟨allocator, line, by simp only [others, others_eq_beyond, rest]⟩
    · exact taken_eq (effect := ensureSigns) steady
        (ensureSigns_eq_self (settled.imp_right (And.imp_right not_waiting_took))) steady.2
    · have run : ensureSigns (s.took (note .signs true)) = recompute .signs ((s.took (note .signs true)).withAllocator
          { a with signsIn := true, signRows := s.serviceRows .signs, lit := [], granted := [] }) := by
        refine (if_pos active).trans ?_
        rw [takeEarly_of_not_mem (not_waiting_took none)]
        exact if_neg (by rw [show (s.took _).allocator.signsIn = false from out]; nofun)
      refine completes_mono (completes_recompute steady { a with
        signsIn := true, signRows := s.serviceRows .signs, lit := [], granted := [] } rfl run rfl rfl rfl)
        fun t ⟨⟨_, _, _, _, _, record⟩, _, figures, added⟩ => ?_
      rw [record] at *
      exact ⟨rfl, rfl, fun g _ => mapGet_serviceRows s .signs g, figures, added⟩
    · refine completes_mono (completes_recompute steady { a with
        signsIn := false, signRows := [], lit := [], granted := [] } rfl rfl rfl rfl rfl)
        fun t ⟨⟨_, _, _, _, _, record⟩, _, figures, added⟩ => ?_
      have empty := granted_eq_nil figures (by rw [record])
      refine ⟨?_, ?_, ?_, empty, figures, added⟩ <;> rw [record]
    · exact taken_eq (effect := ensureGates) steady
        (ensureGates_eq_self (settled.imp_right (And.imp_right not_waiting_took))) steady.2
    · have run : ensureGates (s.took (note .gates true)) = recompute .gates ((s.took (note .gates true)).withAllocator
          { a with gatesIn := true, gateRows := s.serviceRows .gates }) := by
        refine (if_pos active).trans ?_
        rw [takeEarly_of_not_mem (not_waiting_took none)]
        exact if_neg (by rw [show (s.took _).allocator.gatesIn = false from out]; nofun)
      refine completes_mono (completes_recompute steady { a with gatesIn := true, gateRows := s.serviceRows .gates }
        rfl run rfl rfl rfl) fun t ⟨⟨_, _, _, _, _, record⟩, _, figures, added⟩ => ?_
      rw [record] at *
      exact ⟨rfl, fun k _ => mapGet_serviceRows s .gates k, figures, added⟩
    · refine completes_mono (completes_recompute steady { a with gatesIn := false, gateRows := [], queue := [] }
        rfl rfl rfl rfl rfl) fun t ⟨⟨_, _, _, _, _, record⟩, _, figures, added⟩ => ?_
      have empty := queue_eq_nil figures
      refine ⟨?_, ?_, empty, figures, added⟩ <;> rw [record]
    · refine completes_mono (completes_recompute steady
        { a with requested := (s.took (note .channels entered)).freshRequested } rfl rfl rfl rfl rfl)
        fun t ⟨⟨_, _, _, _, _, record⟩, fresh, figures, added⟩ => ?_
      exact ⟨by rw [record, fresh], figures, added⟩
    · obtain ⟨sorted, -, -⟩ := placeAll_classed (s := s) (q := a.queue) ok.2.1 []
      obtain ⟨⟨_, _, record⟩, line, quiet, changed, same⟩ := storeQueue_spec
        (placeAll (a.queue.map (classedAs s [])))
        ((s.took (note .segments false)).withAllocator { a with urgent := [] })
      have run : allocatorSegmentsGone (s.took (note .segments false)) = storeQueue
        (placeAll (a.queue.map (classedAs s [])))
          ((s.took (note .segments false)).withAllocator { a with urgent := [] }) := by
        rw [allocatorSegmentsGone, reclassed_eq]
        rfl
      refine completes_of_quiet (effect := allocatorSegmentsGone) steady rfl (by rw [run, quiet]; exact steady.2) ?_
      rw [run]
      exact ⟨congrArg Allocator.urgent record, (congrArg Allocator.figures record).trans rfl, sorted,
        fun e => urgent_of_mem_placeAll, changed, same⟩
    · refine taken_eq (effect := ensureSegments) steady (ensureSegments_eq_self ?_) steady.2
      exact settled.imp_right not_waiting_took
    · intro x own
      simp only [List.mem_cons, List.not_mem_nil, or_false] at own
      rcases own with rfl | rfl | rfl | rfl | rfl | rfl <;> exact taken_eq (effect := id) steady rfl steady.2

end Sys2Proof.Machine
end

section
/-!
OBLIGATION O33. Channels that age, come and go.
-/

namespace Sys2Proof.Machine

section
variable (s : State)

theorem flushReports_power : (flushReports s).power = s.power := (inUse_flushReports (.refl s)).power

theorem flushReports_intake : (flushReports s).intake = s.intake :=
  (lineTouched_intake (lineTouched_flushReports s)).trans rfl

theorem flushReports_grader : (flushReports s).grader = s.grader :=
  (lineTouched_grader (lineTouched_flushReports s)).trans rfl

theorem flushReports_monitor : (flushReports s).monitor = s.monitor :=
  (lineTouched_monitor (lineTouched_flushReports s)).trans rfl

theorem flushReports_drives : (flushReports s).drives = s.drives :=
  (lineTouched_drives (lineTouched_flushReports s)).trans rfl

theorem flushReports_publisher : (flushReports s).publisher = s.publisher :=
  (lineTouched_publisher (lineTouched_flushReports s)).trans rfl

theorem flushReports_waiting : (flushReports s).waiting = s.waiting :=
  (lineTouched_waiting (lineTouched_flushReports s)).trans rfl

end

theorem mapGet_map_values {α β : Type} (m : Map α) (f : Nat × α → β) (i : Nat) :
    mapGet (m.map fun e => (e.1, f e)) i = (mapGet m i).map fun v => f (i, v) := by
  induction m with
  | nil => rfl
  | cons e m ih =>
    obtain ⟨k, v⟩ := e
    rw [List.map_cons, mapGet_cons, mapGet_cons, ih]
    split
    · next same => rw [same]; rfl
    · rfl

/-- The reports of a step that asks for the given ones. -/
theorem addedV_asked {s u : State} {l : List ReportRequest} (room : s.room l.length) (line : u.line = s.line)
    (asked : u.reports = l) : addedV s (flushReports u) (l.map fun r => u.reportFrame r.kind r.data) := by
  have added := addedV_flushReports (u := u) room (by rw [line]) (by rw [line]) (by rw [line]) (by rw [asked])
  rwa [State.reportFrames, asked] at added

theorem hand_if (p : Prop) [Decidable p] (s : State) (c : Instr) :
    (if p then s.hand c else s) = s.handAll (if p then [c] else []) := by
  split
  · rfl
  · rw [State.handAll, List.append_nil]
    rfl

theorem report_if (p : Prop) [Decidable p] (s : State) (kind : Byte) (data : Bytes) :
    (if p then s.report kind data else s) =
      s.withReports (s.reports ++ if p then [{ kind := kind, data := data }] else []) := by
  split
  · rfl
  · rw [List.append_nil]
    rfl

/-- A record stored: the report, and the events handed on, in one piece. -/
theorem storeChannel_eq (c : Nat) (kind : Byte) (old new : ChannelRec) (good : Bool) (s : State) :
    storeChannel c kind old new good s =
      (((s.withIntake { s.intake with channels := mapPut s.intake.channels c new }).withReports
        (s.reports ++ if old.status ≠ new.status then
          [{ kind := reportChannelState, data := channelStateData c kind old.status new }] else [])).handAll
        (if good = true ∨ old.status ≠ new.status then [.channelUpdate (updateOf c new)] else [])).handAll
        (if s.isLight c = true ∧ (old.status ≠ new.status ∨ old.filtered ≠ new.filtered) then
          [.lightChannelChange c new.status new.filtered] else []) := by
  unfold storeChannel
  dsimp only
  rw [hand_if, hand_if, report_if]
  rfl

/-- A record stored: what it leaves, and what it hands on. -/
theorem storeChannel_spec (c : Nat) (kind : Byte) (old new : ChannelRec) (good : Bool) (s : State) :
    let t := storeChannel c kind old new good s
    t.intake = { s.intake with channels := mapPut s.intake.channels c new } ∧ t.time = s.time ∧ t.line = s.line ∧
      t.store = s.store ∧ t.sequencer = s.sequencer ∧
      (old.status ≠ new.status → .channelUpdate (updateOf c new) ∈ t.handed ∧
        t.reports = s.reports ++
          [{ kind := reportChannelState, data := channelStateData c kind old.status new }]) := by
  rw [storeChannel_eq]
  refine ⟨rfl, rfl, rfl, rfl, rfl, fun changed => ⟨?_, ?_⟩⟩
  · simp [changed]
  · simp [changed]

theorem neverEvents_eq (light : Option Nat) (m : Map ChannelRec) :
    neverEvents light m = (m.filter fun e => e.2.status != .never).flatMap fun e => Instr.channelUpdate
      { channel := e.1, status := .never, value := 0, filtered := 0, rise := none } ::
        (if light = some e.1 then [.lightChannelChange e.1 .never 0] else []) := by
  induction m with
  | nil => rfl
  | cons e m ih =>
    rw [neverEvents, List.flatMap_cons, ← neverEvents, ih]
    by_cases never : e.2.status = .never
    · rw [List.filter_cons_of_neg (by simp [never]), if_pos never, List.nil_append]
    · rw [List.filter_cons_of_pos (by simp [never]), List.flatMap_cons, if_neg never]
      rfl

theorem mapGet_builtChannels (rows : Map Bytes) (i : Nat) :
    mapGet (builtChannels rows) i = (mapGet rows i).map fun _ => .built :=
  mapGet_map_values rows (fun _ => ChannelRec.built) i

/-- Settles O33: the expiry of an age timer by what the record stored hands on, and the records built and discarded. -/
theorem channelsComeGoAndGoStale : Obligations.ChannelsComeGoAndGoStale := by
  refine ⟨fun ch s steady => ?_, fun s steady => ?_⟩
  · intro c
    refine ⟨fun idle => ?_, fun r held e age => ?_⟩
    · refine taken_eq (effect := ageExpired ch) steady ?_ steady.2
      unfold ageExpired
      cases held : mapGet s.intake.channels ch with
      | none => rw [show mapGet (s.took c).intake.channels ch = none from held]
      | some r =>
        rw [held] at idle
        rw [show mapGet (s.took c).intake.channels ch = some r from held]
        dsimp only
        rw [show r.age = none from idle]
    · have run : ageExpired ch (s.took c) =
          storeChannel ch (((s.channelRow ch).map ChannelRow.kind).getD 0) r (aged r) false ((s.took c).reach e) := by
        unfold ageExpired
        rw [show mapGet (s.took c).intake.channels ch = some r from held]
        dsimp only
        rw [age]
        rfl
      obtain ⟨intake, time, line, store, sequencer, change⟩ :=
        storeChannel_spec ch (((s.channelRow ch).map ChannelRow.kind).getD 0) r (aged r) false ((s.took c).reach e)
      refine ⟨_, taken_of_steady (effect := ageExpired ch) steady, ?_⟩
      rw [run]
      have stored := (flushReports_intake (storeChannel ch _ r (aged r) false ((s.took c).reach e))).trans intake
      refine ⟨(flushReports_time _).trans time, ?_, fun d _ other => ?_, fun live => ?_⟩
      · rw [stored]
        exact mapGet_mapPut_self ..
      · rw [stored]
        exact mapGet_mapPut_of_ne _ _ other
      · have changed : r.status ≠ (aged r).status := by rw [live]; nofun
        obtain ⟨update, asked⟩ := change changed
        refine ⟨(mem_flushReports _ (by simp)).mpr update, fun room => ?_⟩
        have quiet : ((s.took c).reach e).reports = [] := steady.2
        rw [quiet, List.nil_append] at asked
        have added := addedV_asked room line asked
        rw [List.map_singleton, reportFrame_congr (s := s.reach e) time store sequencer] at added
        rw [channelStateData, live] at added
        exact added
  · intro fresh gone handedOn
    refine ⟨fun out => ?_, fun active => ?_, ?_, ?_⟩
    · refine taken_eq (effect := intakeEnters) steady ?_ steady.2
      rw [intakeEnters, show (s.took .channelsIntoService).active .channels = false from out]
      rfl
    · refine completes_of_quiet (effect := intakeEnters) steady rfl ?_ ?_
      all_goals rw [intakeEnters, if_pos (show (s.took .channelsIntoService).active .channels = true from active)]
      · exact steady.2
      · refine ⟨rfl, rfl, rfl, fun ch _ => ?_⟩
        change mapGet (builtChannels (s.serviceRows .channels)) ch = _
        rw [mapGet_builtChannels, mapGet_serviceRows]
        cases s.reference .channels ch <;> rfl
    · refine completes_of_quiet (effect := intakeLeaves) steady rfl steady.2 ⟨rfl, ?_, rfl⟩
      exact congrArg (_ ++ ·) (neverEvents_eq ..)
    · refine completes_of_quiet (effect := intakeRestarts) steady rfl steady.2 ⟨rfl, ?_, rfl⟩
      exact congrArg (_ ++ ·) (neverEvents_eq ..)

end Sys2Proof.Machine
end

section
/-!
SUPPORT. The Gate Drive Units: a gate's record stored with the events around it, what each operation at rest makes of
the record, and an operation done at each of several indices seen from one of them.
-/

namespace Sys2Proof.Machine

/-! ### An operation at each index -/

theorem forEach_cons (i : Nat) (l : List Nat) (f : Nat → State → State) (s : State) :
    forEach (i :: l) f s = forEach l f (f i s) := rfl

/-- An operation at each of several indices, seen from one of them: what the others keep of it holds before its own and
after. -/
theorem forEach_at {K : State → State → Prop} (refl : ∀ s, K s s) (trans : ∀ {s t u}, K s t → K t u → K s u)
    {f : Nat → State → State} {i : Nat} {l : List Nat} (nodup : l.Nodup) (mem : i ∈ l)
    (others : ∀ j ∈ l, j ≠ i → ∀ t, K t (f j t)) (s : State) : ∃ u, K s u ∧ K (f i u) (forEach l f s) := by
  induction l generalizing s with
  | nil => cases mem
  | cons k l ih =>
    obtain ⟨fresh, nodup⟩ := List.nodup_cons.mp nodup
    rw [forEach_cons]
    by_cases same : k = i
    · subst same
      refine ⟨s, refl s, forEach_keeps (P := K (f k s)) (refl _) fun j hj t kept => ?_⟩
      exact trans kept (others j (List.mem_cons_of_mem _ hj) (fun e => fresh (e ▸ hj)) t)
    · obtain ⟨u, before, after⟩ := ih nodup ((List.mem_cons.mp mem).resolve_left fun e => same e.symm)
        (fun j hj => others j (List.mem_cons_of_mem _ hj)) (f k s)
      exact ⟨u, trans (others k List.mem_cons_self same s) before, after⟩

/-! ### Readings and the way beneath a gate -/

section
variable (now : Nat) (row : GateRow) (g : GateRec)

theorem clearanceNow_iff : clearanceNow now row g ↔ clearanceOf row g.presence now = true := by
  unfold clearanceNow clearanceOf
  cases g.presence with
  | none => simp
  | some p =>
    have interval : seconds row.clearInterval = 10 * row.clearInterval := rfl
    simp only [Option.mem_some_iff, forall_eq', Bool.or_eq_true, Bool.and_eq_true, Bool.not_eq_true',
      decide_eq_true_iff, ← interval]
    exact or_comm

theorem wayIsClear_iff (s : State) (k : Nat) : wayIsClear s k row g ↔ s.clearWay k row g = true := by
  simp [wayIsClear, State.clearWay, wayClear, clearanceNow_iff]

/-- The rest reading changes the state, the count and the homed flag only. -/
theorem restReading_spec (p : GatePins) : restsAs row p g (restReading row p g) ∧
    ∃ state count homed, restReading row p g = { g with state := state, count := count, homed := homed } := by
  unfold restReading restsAs
  cases home : p.home <;> cases closed : p.closedEnd
  · have zero : (g.homed && nearEnd g.count 0 row.tolerance) = true ↔
        g.homed = true ∧ g.count.natAbs ≤ row.tolerance := by
      simp [nearEnd]
    have far : (g.homed && nearEnd g.count row.travelCount row.tolerance) = true ↔
        g.homed = true ∧ (g.count - row.travelCount).natAbs ≤ row.tolerance := by
      simp [nearEnd]
    simp only [Bool.false_and, Bool.false_eq_true, ↓reduceIte, zero, far]
    refine ⟨⟨nofun, nofun, nofun, fun _ _ => ?_⟩, ?_⟩
    · split_ifs <;> simp
    · split_ifs <;> exact ⟨_, g.count, g.homed, rfl⟩
  · exact ⟨by simp, .lowered, row.travelCount, true, by simp⟩
  · exact ⟨by simp, .raised, 0, true, by simp⟩
  · exact ⟨by simp, .unhomed, g.count, false, by simp⟩

end

/-! ### A record stored -/

/-- The events by which a gate gives up what it holds. -/
def givingUp (k : Nat) (a : Admission) : List Instr :=
  match a with
  | .noAdmission => []
  | .requested => [.requestWithdrawn k]
  | .held => [.handBack k]

theorem handAll_nil (s : State) : s.handAll [] = s := by rw [State.handAll, List.append_nil]; rfl

theorem giveUp_eq (k : Nat) (g : GateRec) (s : State) : giveUp k g s = s.handAll (givingUp k g.admission) := by
  unfold giveUp givingUp
  cases g.admission
  · exact (handAll_nil s).symm
  · rfl
  · rfl

/-- A gate's record stored, with events handed on before and after it. -/
def gateDone (k : Nat) (g : GateRec) (before after : List Instr) (s : State) : State :=
  (putGate k g (s.handAll before)).handAll after

/-- What a stored record leaves of the state. -/
structure DrivesKept (s t : State) : Prop where
  pins : t.drives.pins = s.drives.pins
  rows : t.drives.rows = s.drives.rows
  store : t.store = s.store
  time : t.time = s.time
  line : t.line = s.line
  reports : t.reports = s.reports
  handed : ∀ e ∈ s.handed, e ∈ t.handed
  cleared : .gatesOutOfService ∈ t.handed → .gatesOutOfService ∈ s.handed

theorem DrivesKept.refl (s : State) : DrivesKept s s := ⟨rfl, rfl, rfl, rfl, rfl, rfl, fun _ h => h, fun h => h⟩

theorem DrivesKept.trans {s t u : State} (h : DrivesKept s t) (n : DrivesKept t u) : DrivesKept s u :=
  ⟨n.pins.trans h.pins, n.rows.trans h.rows, n.store.trans h.store, n.time.trans h.time, n.line.trans h.line,
    n.reports.trans h.reports, fun e m => n.handed e (h.handed e m), fun m => h.cleared (n.cleared m)⟩

theorem drivesKept_handAll (s : State) {l : List Instr} (uncleared : .gatesOutOfService ∉ l) :
    DrivesKept s (s.handAll l) :=
  ⟨rfl, rfl, rfl, rfl, rfl, rfl, fun _ m => List.mem_append_left _ m,
    fun m => (List.mem_append.mp m).resolve_right uncleared⟩

/-- What the events of other gates leave of a gate. -/
structure GateKept (k : Nat) (s t : State) : Prop extends DrivesKept s t where
  record : mapGet t.drives.gates k = mapGet s.drives.gates k

theorem GateKept.refl (k : Nat) (s : State) : GateKept k s s := ⟨.refl s, rfl⟩

theorem GateKept.trans {k : Nat} {s t u : State} (h : GateKept k s t) (n : GateKept k t u) : GateKept k s u :=
  ⟨h.toDrivesKept.trans n.toDrivesKept, n.record.trans h.record⟩

/-- A gate's record stored: the other gates stay, and a changed state is handed on. -/
structure GateStored (k : Nat) (g : GateRec) (s t : State) : Prop extends DrivesKept s t where
  record : mapGet t.drives.gates k = some g
  others : ∀ j, j ≠ k → mapGet t.drives.gates j = mapGet s.drives.gates j
  told : s.gateState k ≠ g.state → .gateStateNotice k ∈ t.handed

theorem GateStored.kept {k j : Nat} {g : GateRec} {s t : State} (h : GateStored k g s t) (other : j ≠ k) :
    GateKept j s t := ⟨h.toDrivesKept, h.others j other⟩

section
variable (k : Nat) (g : GateRec) (s : State)

theorem gateStored_putGate : GateStored k g s (putGate k g s) := by
  obtain ⟨record, others, pins, line, handed⟩ := putGate_spec k g s
  have rest : (putGate k g s).store = s.store ∧ (putGate k g s).time = s.time ∧
      (putGate k g s).reports = s.reports ∧ (putGate k g s).drives.rows = s.drives.rows := by
    unfold putGate
    dsimp only
    split <;> exact ⟨rfl, rfl, rfl, rfl⟩
  obtain ⟨store, time, reports, rows⟩ := rest
  refine ⟨⟨pins, rows, store, time, line, reports, fun e m => ?_, fun m => ?_⟩, record, others, fun differs => ?_⟩
  · rw [handed]
    split
    · exact m
    · exact List.mem_append_left _ m
  · rw [handed] at m
    split at m
    · exact m
    · exact (List.mem_append.mp m).resolve_right (by simp)
  · rw [handed, if_neg differs]
    exact List.mem_append_right _ List.mem_cons_self

end

section
variable {k : Nat} {g : GateRec} {s t : State} {l : List Instr}

/-- A record stored with events handed on before it. -/
theorem GateStored.behind (h : GateStored k g (s.handAll l) t) (uncleared : .gatesOutOfService ∉ l) :
    GateStored k g s t := ⟨(drivesKept_handAll s uncleared).trans h.toDrivesKept, h.record, h.others, h.told⟩

/-- A record stored with events handed on after it. -/
theorem GateStored.ahead (h : GateStored k g s t) (uncleared : .gatesOutOfService ∉ l) :
    GateStored k g s (t.handAll l) :=
  ⟨h.toDrivesKept.trans (drivesKept_handAll t uncleared), h.record, h.others,
    fun differs => List.mem_append_left _ (h.told differs)⟩

theorem uncleared_givingUp (k : Nat) (a : Admission) : .gatesOutOfService ∉ givingUp k a := by
  cases a <;> simp [givingUp]

/-- A record stored by a gate that gives up what it holds. -/
theorem GateStored.givingUp {x : GateRec} (h : GateStored k g (giveUp k x s) t) :
    GateStored k g s t ∧ givenUp t k x := by
  rw [giveUp_eq] at h
  refine ⟨h.behind (uncleared_givingUp k _), fun requested => h.handed _ ?_, fun held => h.handed _ ?_⟩
  · simp [requested, Machine.givingUp]
  · simp [held, Machine.givingUp]

theorem DrivesKept.now (h : DrivesKept s t) : t.now = s.now := by rw [State.now, State.now, h.time]

theorem DrivesKept.gatePins (h : DrivesKept s t) (k : Nat) : t.gatePins k = s.gatePins k := by
  rw [State.gatePins, State.gatePins, h.pins]

theorem DrivesKept.wayIsClear (h : DrivesKept s t) (k : Nat) (row : GateRow) {g x : GateRec}
    (presence : x.presence = g.presence) : Machine.wayIsClear t k row x ↔ Machine.wayIsClear s k row g := by
  rw [wayIsClear_iff, wayIsClear_iff, State.clearWay, State.clearWay, presence, h.gatePins, h.now]

end

/-! ### Asking for admission -/

section
variable (k : Nat) (row : GateRow) (g : GateRec) (s : State)

theorem requestRaise_spec : ∃ g', GateStored k g' s (requestRaise k row g s) ∧
    g' = { g with admission := if g.admission = .noAdmission then .requested else g.admission } ∧
    (g.admission = .noAdmission → .admissionRequest k .raising row.draw ∈ (requestRaise k row g s).handed) := by
  unfold requestRaise
  split
  · next idle =>
    refine ⟨_, (gateStored_putGate k { g with admission := .requested } s).ahead
      (l := [.admissionRequest k .raising row.draw]) (by simp), rfl, fun _ => ?_⟩
    exact List.mem_append_right _ List.mem_cons_self
  · next busy => exact ⟨g, gateStored_putGate k g s, rfl, fun idle => absurd idle busy⟩

/-- Whether a HELD gate asks for a lowering (R123). -/
def asksLowering : Prop :=
  g.state = .held ∧ g.order = .lower ∧ g.admission = .noAdmission ∧ wayIsClear s k row g

theorem askLowering_spec : ∃ g', GateStored k g' s (askLowering k row g s) ∧
    (asksLowering k row g s → g' = { g with admission := .requested, vehicleTimer := none } ∧
      .admissionRequest k .lowering row.draw ∈ (askLowering k row g s).handed) ∧
    (¬ asksLowering k row g s → g' = g) := by
  unfold askLowering asksLowering
  rw [wayIsClear_iff]
  split
  · next asks =>
    refine ⟨_, (gateStored_putGate k { g with admission := .requested, vehicleTimer := none } s).ahead
      (l := [.admissionRequest k .lowering row.draw]) (by simp), fun _ => ⟨rfl, ?_⟩, fun not => absurd asks not⟩
    exact List.mem_append_right _ List.mem_cons_self
  · next not => exact ⟨g, gateStored_putGate k g s, fun asks => absurd asks not, fun _ => rfl⟩

/-- A gate without a request enters HELD. -/
theorem enterHeld_spec (idle : g.admission = .noAdmission) : ∃ a v,
    GateStored k { g with state := .held, phase := .noPhase, admission := a, vehicleTimer := v } s
      (enterHeld k row g s) ∧
    entersHeld (enterHeld k row g s) k row
      { g with state := .held, phase := .noPhase, admission := a, vehicleTimer := v } := by
  let h : GateRec := { g with
    state := .held, phase := .noPhase
    vehicleTimer := if s.clearance row g then none else some (s.now + seconds row.vehicleLimit) }
  obtain ⟨g', stored, asks, not⟩ := askLowering_spec k row h s
  have way : ∀ x : GateRec, x.presence = g.presence →
      (wayIsClear (enterHeld k row g s) k row x ↔ wayIsClear s k row h) :=
    fun x presence => stored.toDrivesKept.wayIsClear k row presence
  by_cases asking : asksLowering k row h s
  · obtain ⟨rfl, request⟩ := asks asking
    obtain ⟨-, -, -, clear⟩ := asking
    refine ⟨.requested, none, stored, rfl, rfl, fun _ _ => ⟨rfl, rfl, request⟩, fun unclear => ?_⟩
    exact absurd ((way _ rfl).mpr clear) unclear
  · obtain rfl := not asking
    refine ⟨g.admission, h.vehicleTimer, stored, rfl, rfl, fun order clear => ?_, fun unclear => ⟨idle, ?_⟩⟩
    · exact absurd ⟨rfl, order, idle, (way _ rfl).mp clear⟩ asking
    · rw [clearanceNow_iff, show (enterHeld k row g s).now = s.now from stored.now]
      change (s.clearance row g = true → _) ∧ (¬ s.clearance row g = true → _)
      exact ⟨fun clear => if_pos clear, fun unclear => if_neg unclear⟩

end

end Sys2Proof.Machine
end

section
/-!
OBLIGATION O45. Orders at a gate, by its state, and the absent segment reference.
-/

namespace Sys2Proof.Machine

/-! ### A configured gate -/

theorem State.gateOf_eq_some {s : State} {k : Nat} {x : GateRec × GateRow} : s.gateOf k = some x ↔
    s.serves .gates .gatesOutOfService = true ∧ mapGet s.drives.gates k = some x.1 ∧ s.gateRow k = some x.2 ∧
      x.1.state ≠ .unconfigured := by
  obtain ⟨g, row⟩ := x
  unfold State.gateOf
  split
  · next serves =>
    rw [and_iff_right serves]
    cases gate : mapGet s.drives.gates k <;> cases present : s.gateRow k
    all_goals simp only [reduceCtorEq, false_and, and_false]
    next g' row' =>
      rw [Option.some_inj, Option.some_inj]
      constructor
      · intro found
        split at found
        · cases found
        · next on => cases found; exact ⟨rfl, rfl, on⟩
      · rintro ⟨rfl, rfl, on⟩
        exact if_neg on
  · next idle => simp [idle]

theorem DrivesKept.serves {s t : State} (h : DrivesKept s t) :
    t.serves .gates .gatesOutOfService = s.serves .gates .gatesOutOfService := by
  have active : t.active .gates = s.active .gates := by rw [State.active, State.region, h.store]; rfl
  rw [Bool.eq_iff_iff, State.serves_iff, State.serves_iff, active]
  exact and_congr_right fun _ => not_congr ⟨h.cleared, h.handed _⟩

theorem GateKept.gateOf {k : Nat} {s t : State} (h : GateKept k s t) : t.gateOf k = s.gateOf k := by
  have row : t.gateRow k = s.gateRow k := by rw [State.gateRow, State.gateRow, h.rows]
  rw [State.gateOf, State.gateOf, h.serves, h.record, row]

theorem took_gateOf {s : State} {c : Instr} (other : c ≠ .gatesOutOfService) (k : Nat) :
    (s.took c).gateOf k = s.gateOf k := by
  have serves : (s.took c).serves .gates .gatesOutOfService = s.serves .gates .gatesOutOfService := by
    rw [Bool.eq_iff_iff, State.serves_iff, State.serves_iff]
    exact and_congr_right fun _ => not_congr (List.mem_erase_of_ne other.symm)
  rw [State.gateOf, State.gateOf, serves]
  rfl

theorem GatesOk.record {s : State} (ok : GatesOk s) {k : Nat} {g : GateRec} (h : mapGet s.drives.gates k = some g) :
    g.ok := by
  obtain ⟨-, -, each⟩ := ok
  exact each _ (mem_of_mapGet h)

/-! ### Orders -/

/-- An order that changes nothing, and one that the gate acts on. -/
theorem gateEvent_takeOrder (o : GateOrder) (k : Nat) (s : State) :
    (s.gateOf k = none → gateEvent k (takeOrder o k) s = s) ∧
    (∀ x ∈ s.gateOf k, gateEvent k (takeOrder o k) s =
      if x.1.order = o then s else actOnOrder k { x.1 with order := o } x.2 s) := by
  unfold gateEvent
  refine ⟨fun none => by rw [none], fun x found => ?_⟩
  rw [Option.mem_def.mp found]
  obtain ⟨g, row⟩ := x
  unfold takeOrder
  dsimp only
  split <;> rfl

/-- A gate that settles is within a travel. -/
theorem settling_of_ok {g : GateRec} (ok : g.ok) (settle : g.phase = .settle) :
    g.state = .lowering ∨ g.state = .raising := by
  obtain ⟨phase, -⟩ := ok
  exact phase.mp (by rw [settle]; nofun)

/-- A gate that does not settle within a travel moves. -/
theorem moving_of_ok {g : GateRec} (ok : g.ok) (travels : g.state = .lowering ∨ g.state = .raising)
    (unsettled : g.phase ≠ .settle) : g.moving = true := by
  obtain ⟨phase, -⟩ := ok
  have phased := phase.mpr travels
  unfold GateRec.moving GateRec.inTravel
  cases h : g.phase <;> simp_all

/-- A gate that neither moves nor stops nor waits for a grant holds no admission. -/
theorem idle_of_ok {g : GateRec} (ok : g.ok) (unasked : ¬ (g.state = .unhomed ∨ g.state = .lowered ∨ g.state = .held))
    (still : ¬ (g.state = .stopping ∨ g.moving = true)) : g.admission = .noAdmission := by
  obtain ⟨-, held, requested, -⟩ := ok
  cases admission : g.admission
  · rfl
  · exact absurd (requested admission) unasked
  · exact absurd (held.mp admission) still

section
variable (k : Nat) (g : GateRec) (row : GateRow) (s : State)

/-- NONE withdraws a request and leaves all else. -/
theorem actOnOrder_none : let t := actOnOrder k { g with order := .noOrder } row s
    ∃ g', GateStored k g' s t ∧
    g' = { g with order := .noOrder, admission := if g.admission = .requested then .noAdmission else g.admission } ∧
    (g.admission = .requested → givenUp t k g) := by
  unfold actOnOrder
  dsimp only
  by_cases requested : g.admission = .requested
  · rw [if_pos requested, if_pos requested]
    obtain ⟨stored, given⟩ := (gateStored_putGate k { g with order := .noOrder, admission := .noAdmission }
      (giveUp k { g with order := .noOrder } s)).givingUp
    exact ⟨_, stored, rfl, fun _ => given⟩
  · rw [if_neg requested, if_neg requested]
    exact ⟨_, gateStored_putGate k { g with order := .noOrder } s, rfl, fun h => absurd h requested⟩

/-- LOWER by the gate's state. -/
theorem actOnOrder_lower (ok : g.ok) : let t := actOnOrder k { g with order := .lower } row s
    ∃ g', GateStored k g' s t ∧ g'.order = .lower ∧ g'.travels = g.travels ∧
    (g.state = .raised ∨ g.state = .unhomed → entersHeld t k row g' ∧ givenUp t k g) ∧
    (g.state = .lowered → g'.state = .lowered ∧ g'.admission = .noAdmission ∧ givenUp t k g) ∧
    (g.state = .held → g'.state = .held ∧ (g.admission = .noAdmission → wayIsClear s k row g →
      g'.admission = .requested ∧ Instr.admissionRequest k .lowering row.draw ∈ t.handed)) ∧
    (g.state = .raising → g.phase ≠ .settle → reverses s.now row g g') ∧
    (g.state ∈ [.lowering, .stopping, .stopped, .fault] ∨ g.phase = .settle → g' = { g with order := .lower }) := by
  intro t
  have stays : ∀ x, g.state = x → x ∈ [GateState.lowering, .stopping, .stopped, .fault] ∨
      (x = .raising ∧ g.phase = .settle) → GateStored k { g with order := .lower } s t := by
    intro x state which
    have run : t = putGate k { g with order := .lower } s := by
      rcases which with which | ⟨rfl, settle⟩
      · simp only [List.mem_cons, List.not_mem_nil, or_false] at which
        rcases which with rfl | rfl | rfl | rfl <;> simp [t, actOnOrder, lowerAtRest, state]
      · simp [t, actOnOrder, lowerAtRest, state, GateRec.moving, settle]
    rw [run]
    exact gateStored_putGate ..
  cases state : g.state
  case unhomed =>
    have run : t = enterHeld k row { g with order := .lower, admission := .noAdmission }
        (giveUp k { g with order := .lower } s) := by simp [t, actOnOrder, lowerAtRest, state]
    obtain ⟨a, v, stored, held⟩ := enterHeld_spec k row { g with order := .lower, admission := .noAdmission }
      (giveUp k { g with order := .lower } s) rfl
    rw [← run] at stored held
    obtain ⟨stored, given⟩ := stored.givingUp
    exact ⟨_, stored, rfl, rfl, fun _ => ⟨held, given⟩, nofun, nofun, nofun,
      fun h => h.elim (by simp) fun settle => absurd (settling_of_ok ok settle) (by simp [state])⟩
  case raised =>
    have idle := idle_of_ok ok (by simp [state]) (by simp [state, GateRec.moving, GateRec.inTravel])
    have run : t = enterHeld k row { g with order := .lower } s := by simp [t, actOnOrder, lowerAtRest, state]
    obtain ⟨a, v, stored, held⟩ := enterHeld_spec k row { g with order := .lower } s idle
    rw [← run] at stored held
    exact ⟨_, stored, rfl, rfl, fun _ => ⟨held, by simp [givenUp, idle]⟩, nofun, nofun, nofun,
      fun h => h.elim (by simp) fun settle => absurd (settling_of_ok ok settle) (by simp [state])⟩
  case lowered =>
    have run : t = putGate k { g with order := .lower, admission := .noAdmission }
        (giveUp k { g with order := .lower } s) := by simp [t, actOnOrder, lowerAtRest, state]
    obtain ⟨stored, given⟩ := (gateStored_putGate k { g with order := .lower, admission := .noAdmission }
      (giveUp k { g with order := .lower } s)).givingUp
    rw [← run] at stored given
    exact ⟨_, stored, rfl, rfl, nofun, fun _ => ⟨state, rfl, given⟩, nofun, nofun,
      fun h => h.elim (by simp) fun settle => absurd (settling_of_ok ok settle) (by simp [state])⟩
  case held =>
    have run : t = askLowering k row { g with order := .lower } s := by simp [t, actOnOrder, lowerAtRest, state]
    obtain ⟨g', stored, asks, not⟩ := askLowering_spec k row { g with order := .lower } s
    rw [← run] at stored asks
    have shape : g'.state = .held ∧ g'.order = .lower ∧ g'.travels = g.travels := by
      by_cases asking : asksLowering k row { g with order := .lower } s
      · obtain ⟨rfl, -⟩ := asks asking
        exact ⟨state, rfl, rfl⟩
      · obtain rfl := not asking
        exact ⟨state, rfl, rfl⟩
    obtain ⟨held, order, travels⟩ := shape
    refine ⟨g', stored, order, travels, nofun, nofun, fun _ => ⟨held, fun idle clear => ?_⟩, nofun,
      fun h => h.elim (by simp) fun settle => absurd (settling_of_ok ok settle) (by simp [state])⟩
    obtain ⟨rfl, request⟩ := asks ⟨state, rfl, idle, clear⟩
    exact ⟨rfl, request⟩
  case raising =>
    by_cases settle : g.phase = .settle
    · exact ⟨_, stays _ state (.inr ⟨rfl, settle⟩), rfl, rfl, nofun, nofun, nofun, fun _ h => absurd settle h,
        fun _ => by rw [← state]⟩
    · have moving := moving_of_ok ok (.inr state) settle
      have run : t = putGate k (stopping row s.now { g with order := .lower }) s := if_pos ⟨state, moving⟩
      have stored := gateStored_putGate k (stopping row s.now { g with order := .lower }) s
      rw [← run] at stored
      exact ⟨_, stored, rfl, rfl, nofun, nofun, nofun, fun _ _ => ⟨rfl, rfl, rfl, rfl, rfl, rfl, rfl, rfl, rfl⟩,
        fun h => h.elim (by simp) fun h => absurd h settle⟩
  case unconfigured =>
    have run : t = putGate k { g with order := .lower } s := by simp [t, actOnOrder, lowerAtRest, state]
    have stored := gateStored_putGate k { g with order := .lower } s
    rw [← run] at stored
    exact ⟨_, stored, rfl, rfl, nofun, nofun, nofun, nofun, fun _ => by rw [← state]⟩
  all_goals
    exact ⟨_, stays _ state (.inl (by simp)), rfl, rfl, nofun, nofun, nofun, nofun, fun _ => by rw [← state]⟩

/-- RAISE by the gate's state. -/
theorem actOnOrder_raise (ok : g.ok) : let t := actOnOrder k { g with order := .raise } row s
    ∃ g', GateStored k g' s t ∧ g'.order = .raise ∧ g'.travels = g.travels ∧ g'.retries = 0 ∧
    (g.state = .unhomed ∨ g.state = .lowered → g'.state = g.state ∧ g'.admission = .requested ∧
      (g.admission = .noAdmission → Instr.admissionRequest k .raising row.draw ∈ t.handed)) ∧
    (g.state = .held → restsAs row (s.gatePins k) g g' ∧ givenUp t k g ∧ g'.vehicleTimer = none ∧
      (g'.state = .raised → g'.admission = .noAdmission) ∧
      (g'.state ≠ .raised → g'.admission = .requested ∧
        Instr.admissionRequest k .raising row.draw ∈ t.handed)) ∧
    (g.state = .lowering → g.phase ≠ .settle → reverses s.now row g g') ∧
    (g.state ∈ [.raised, .raising, .stopping, .stopped, .fault] ∨ g.phase = .settle →
      g' = { g with order := .raise, retries := 0 }) := by
  intro t
  let r : GateRec := { g with order := .raise, retries := 0 }
  have stays : ∀ x, g.state = x → x ∈ [GateState.raised, .raising, .stopping, .stopped, .fault, .unconfigured] ∨
      (x = .lowering ∧ g.phase = .settle) → GateStored k r s t := by
    intro x state which
    have run : t = putGate k r s := by
      rcases which with which | ⟨rfl, settle⟩
      · simp only [List.mem_cons, List.not_mem_nil, or_false] at which
        rcases which with rfl | rfl | rfl | rfl | rfl | rfl <;> simp [t, actOnOrder, state, r]
      · simp [t, actOnOrder, state, GateRec.moving, settle, r]
    rw [run]
    exact gateStored_putGate ..
  have asks : t = requestRaise k row r s → g.state = .unhomed ∨ g.state = .lowered →
      ∃ g', GateStored k g' s t ∧ g' = { r with admission := .requested } ∧
        (g.admission = .noAdmission → Instr.admissionRequest k .raising row.draw ∈ t.handed) := by
    intro run rest
    obtain ⟨g', stored, shape, request⟩ := requestRaise_spec k row r s
    rw [← run] at stored request
    refine ⟨g', stored, shape.trans ?_, request⟩
    have unheld : g.admission ≠ .held := by
      obtain ⟨-, held, -⟩ := ok
      rw [Ne, held]
      rcases rest with state | state <;> simp [state, GateRec.moving, GateRec.inTravel]
    cases admission : g.admission
    · simp [r]
    · simp [r]
    · exact absurd admission unheld
  cases state : g.state
  case unhomed =>
    obtain ⟨g', stored, rfl, request⟩ := asks (by simp [t, actOnOrder, state, r]) (.inl state)
    exact ⟨_, stored, rfl, rfl, rfl, fun _ => ⟨state, rfl, request⟩, nofun, nofun,
      fun h => h.elim (by simp) fun settle => absurd (settling_of_ok ok settle) (by simp [state])⟩
  case lowered =>
    obtain ⟨g', stored, rfl, request⟩ := asks (by simp [t, actOnOrder, state, r]) (.inr state)
    exact ⟨_, stored, rfl, rfl, rfl, fun _ => ⟨state, rfl, request⟩, nofun, nofun,
      fun h => h.elim (by simp) fun settle => absurd (settling_of_ok ok settle) (by simp [state])⟩
  case held =>
    have run : t = raiseHeld k row r s := by simp [t, actOnOrder, state, r]
    obtain ⟨rests, st, count, homed, shape⟩ :=
      restReading_spec row { r with admission := .noAdmission, vehicleTimer := none } (s.gatePins k)
    let x := restReading row (s.gatePins k) { r with admission := .noAdmission, vehicleTimer := none }
    have order : x.order = .raise ∧ x.travels = g.travels ∧ x.retries = 0 ∧ x.vehicleTimer = none ∧
        x.admission = .noAdmission := by
      rw [show x = _ from shape]
      exact ⟨rfl, rfl, rfl, rfl, rfl⟩
    obtain ⟨order, travels, retries, timer, idle⟩ := order
    have unsettled : ∀ {p : Prop}, GateState.held ∈ [GateState.raised, .raising, .stopping, .stopped, .fault] ∨
        g.phase = .settle → p := fun h =>
      h.elim (by simp) fun settle => absurd (settling_of_ok ok settle) (by simp [state])
    by_cases up : x.state = .raised
    · have stores : t = putGate k x (giveUp k r s) := run.trans (if_pos up)
      obtain ⟨stored, given⟩ := (gateStored_putGate k x (giveUp k r s)).givingUp
      rw [← stores] at stored given
      exact ⟨x, stored, order, travels, retries, nofun,
        fun _ => ⟨rests, given, timer, fun _ => idle, fun down => absurd up down⟩, nofun, unsettled⟩
    · have asked : t = requestRaise k row x (giveUp k r s) := run.trans (if_neg up)
      obtain ⟨g', stored, rfl, request⟩ := requestRaise_spec k row x (giveUp k r s)
      rw [← asked] at stored request
      obtain ⟨stored, given⟩ := stored.givingUp
      exact ⟨_, stored, order, travels, retries, nofun, fun _ => ⟨rests, given, timer, fun raised => absurd raised up,
        fun _ => ⟨if_pos idle, request idle⟩⟩, nofun, unsettled⟩
  case lowering =>
    by_cases settle : g.phase = .settle
    · exact ⟨_, stays _ state (.inr ⟨rfl, settle⟩), rfl, rfl, rfl, nofun, nofun, fun _ h => absurd settle h,
        fun _ => by rw [← state]⟩
    · have moving := moving_of_ok ok (.inl state) settle
      have run : t = putGate k (stopping row s.now r) s := by
        simp only [t, actOnOrder, state]
        exact if_pos (by rw [← state]; exact moving)
      have stored := gateStored_putGate k (stopping row s.now r) s
      rw [← run] at stored
      exact ⟨_, stored, rfl, rfl, rfl, nofun, nofun, fun _ _ => ⟨rfl, rfl, rfl, rfl, rfl, rfl, rfl, rfl, rfl⟩,
        fun h => h.elim (by simp) fun h => absurd h settle⟩
  all_goals
    exact ⟨_, stays _ state (.inl (by simp)), rfl, rfl, rfl, nofun, nofun, nofun, fun _ => by rw [← state]⟩

end

/-- A gate whose segment is absent leaves the other gates. -/
theorem loseSegment_kept {j k : Nat} (s : State) (other : j ≠ k) : GateKept j s (loseSegment k s) := by
  unfold loseSegment
  split
  · obtain ⟨absent, present⟩ := gateEvent_takeOrder .noOrder k s
    cases found : s.gateOf k with
    | none =>
      rw [absent found]
      exact .refl j s
    | some x =>
      rw [present x found]
      split
      · exact .refl j s
      · obtain ⟨g', stored, -⟩ := actOnOrder_none k x.1 x.2 s
        exact stored.kept other
  · exact .refl j s

/-- A gate whose segment is absent loses its order and its request. -/
theorem loseSegment_spec {k : Nat} {s : State} {g : GateRec} (gate : mapGet s.drives.gates k = some g) :
    ∃ g' ∈ mapGet (loseSegment k s).drives.gates k, g'.state = g.state ∧
      (s.gateOf k = none ∨ (s.gateSegment k).isSome = true → g' = g) ∧
      ((s.gateOf k).isSome = true → s.gateSegment k = none → g'.order = .noOrder) ∧
      ((s.gateOf k).isSome = true → s.gateSegment k = none → g.order ≠ .noOrder →
        g'.admission = (if g.admission = .requested then .noAdmission else g.admission) ∧
        (g.admission = .requested → Instr.requestWithdrawn k ∈ (loseSegment k s).handed)) := by
  obtain ⟨absent, present⟩ := gateEvent_takeOrder .noOrder k s
  cases segment : s.gateSegment k with
  | some n =>
    have run : loseSegment k s = s := if_neg (by simp [segment])
    rw [run]
    exact ⟨g, gate, rfl, fun _ => rfl, fun _ => nofun, fun _ => nofun⟩
  | none =>
    have run : loseSegment k s = gateEvent k (takeOrder .noOrder k) s := if_pos (by simp [segment])
    rw [run]
    cases found : s.gateOf k with
    | none =>
      rw [absent found]
      exact ⟨g, gate, rfl, fun _ => rfl, nofun, nofun⟩
    | some x =>
      obtain ⟨-, gate', -, -⟩ := State.gateOf_eq_some.mp found
      obtain rfl : x.1 = g := Option.some_inj.mp (gate'.symm.trans gate)
      rw [present x found]
      by_cases same : x.1.order = .noOrder
      · rw [if_pos same]
        exact ⟨x.1, gate, rfl, fun _ => rfl, fun _ _ => same, fun _ _ differs => absurd same differs⟩
      · rw [if_neg same]
        obtain ⟨g', stored, rfl, given⟩ := actOnOrder_none k x.1 x.2 s
        exact ⟨_, stored.record, rfl, fun h => h.elim nofun nofun, fun _ _ => rfl,
          fun _ _ _ => ⟨rfl, fun requested => (given requested).1 requested⟩⟩

theorem GateKept.gateSegment {k : Nat} {s t : State} (h : GateKept k s t) : t.gateSegment k = s.gateSegment k := by
  have reference : t.reference .segments = s.reference .segments := by
    funext g
    rw [State.reference, State.reference, State.active, State.active, State.region, State.region, h.store]
  rw [State.gateSegment, State.gateSegment, State.gateRow, State.gateRow, h.rows, reference]

/-- Settles O45: an order by the order and the gate's state, and the absent reference gate by gate. -/
theorem ordersActByState : Obligations.OrdersActByState := by
  intro k o s steady ok c
  obtain ⟨absent, present⟩ := gateEvent_takeOrder o k (s.took c)
  rw [took_gateOf (by simp [c])] at absent present
  refine ⟨fun none => taken_eq steady (absent none) steady.2, fun x found => ?_, ?_⟩
  · obtain ⟨g, row⟩ := x
    have run := present _ found
    refine ⟨fun same => taken_eq steady (run.trans (if_pos same)) steady.2, fun differs low => ?_⟩
    rw [if_neg differs] at run
    obtain ⟨-, gate, -, configured⟩ := State.gateOf_eq_some.mp found
    have gok : g.ok := ok.record gate
    have done : ∀ g', GateStored k g' (s.took c) (actOnOrder k { g with order := o } row (s.took c)) →
        (actOnOrder k { g with order := o } row (s.took c)).reports = [] ∧
        (actOnOrder k { g with order := o } row (s.took c)).drives.pins = s.drives.pins ∧
        gateFrame s (actOnOrder k { g with order := o } row (s.took c)) k g g' := by
      intro g' stored
      refine ⟨stored.reports.trans steady.2, stored.pins, fun j _ other => stored.others j other, fun changed => ?_⟩
      refine stored.told ?_
      rw [State.gateState, show mapGet (s.took c).drives.gates k = some g from gate]
      exact changed
    cases o with
    | noOrder =>
      obtain ⟨g', stored, shape, given⟩ := actOnOrder_none k g row (s.took c)
      obtain ⟨quiet, pins, frame⟩ := done g' stored
      refine completes_of_quiet steady rfl (by rw [run]; exact quiet) ?_
      rw [run]
      refine ⟨g', stored.record, ?_⟩
      subst shape
      refine ⟨rfl, rfl, pins, frame, nofun, fun _ => ⟨rfl, rfl, fun requested => ⟨if_pos requested, given requested⟩,
        fun other => if_neg other⟩, nofun, nofun⟩
    | lower =>
      obtain ⟨g', stored, order, travels, acts⟩ := actOnOrder_lower k g row (s.took c) gok
      obtain ⟨quiet, pins, frame⟩ := done g' stored
      refine completes_of_quiet steady rfl (by rw [run]; exact quiet) ?_
      rw [run]
      exact ⟨g', stored.record, order, travels, pins, frame, nofun, nofun, fun _ => acts, nofun⟩
    | raise =>
      obtain ⟨g', stored, order, travels, retries, acts⟩ := actOnOrder_raise k g row (s.took c) gok
      obtain ⟨quiet, pins, frame⟩ := done g' stored
      refine completes_of_quiet steady rfl (by rw [run]; exact quiet) ?_
      rw [run]
      exact ⟨g', stored.record, order, travels, pins, frame, fun _ => retries, nofun, nofun, fun _ => acts⟩
  · have all : DrivesKept (s.took .segmentReferenceAbsent)
        (forEach (List.range 4) loseSegment (s.took .segmentReferenceAbsent)) :=
      forEach_keeps (P := DrivesKept (s.took .segmentReferenceAbsent)) (.refl _) fun i _ u h =>
        h.trans (loseSegment_kept (j := i + 1) u (by omega)).toDrivesKept
    refine completes_of_quiet (effect := forEach (List.range 4) loseSegment) steady rfl (all.reports.trans steady.2)
      ⟨all.pins, fun j low g gate => ?_⟩
    obtain ⟨u, before, after⟩ := forEach_at (K := GateKept j) (.refl j) .trans List.nodup_range (List.mem_range.mpr low)
      (fun i _ other u => loseSegment_kept u other.symm) (s.took .segmentReferenceAbsent)
    obtain ⟨g', held, state, same, order, admission⟩ := loseSegment_spec (before.record.trans gate)
    have found : u.gateOf j = s.gateOf j := before.gateOf.trans (took_gateOf (by simp) j)
    have segment : u.gateSegment j = s.gateSegment j := before.gateSegment
    rw [found, segment] at same order admission
    refine ⟨g', after.record.trans held, state, same, order, fun on none differs => ?_⟩
    obtain ⟨given, withdrawn⟩ := admission on none differs
    exact ⟨given, fun requested => after.handed _ (withdrawn requested)⟩

end Sys2Proof.Machine
end

section
/-!
OBLIGATION O51. GATES in and out of service.
-/

namespace Sys2Proof.Machine

/-! ### Records built -/

/-- A channel that builds its record leaves the others, and hands nothing on. -/
theorem buildGate_kept {j k : Nat} (s : State) (other : j ≠ k) :
    GateKept j s (buildGate k s) ∧ (buildGate k s).handed = s.handed := by
  unfold buildGate
  split
  · exact ⟨⟨⟨rfl, rfl, rfl, rfl, rfl, rfl, fun _ m => m, fun m => m⟩, mapGet_mapPut_of_ne _ _ other⟩, rfl⟩
  · exact ⟨.refl j s, rfl⟩

theorem buildGate_record {k : Nat} {s : State} {g : GateRec} (gate : mapGet s.drives.gates k = some g) :
    mapGet (buildGate k s).drives.gates k =
      match s.gateRow k with
      | none => some g
      | some row => some (s.builtGate k row g.travels) := by
  unfold buildGate
  rw [gate]
  cases s.gateRow k with
  | none => exact gate
  | some row => exact mapGet_mapPut_self ..

/-- A record built from the switches, whatever its count. -/
theorem builtGate_spec (s : State) (k : Nat) (row : GateRow) (g : GateRec) :
    let g' := s.builtGate k row g.travels
    g'.travels = g.travels ∧ g'.phase = .noPhase ∧ g'.order = .noOrder ∧ g'.admission = .noAdmission ∧
      g'.cause = .noCause ∧ g'.encoderErrors = 0 ∧ g'.retries = 0 ∧
      restsAs row (s.gatePins k) { g with homed := false, count := g'.count } { g' with count := g'.count } ∧
      (row.loopFitted = false → g'.presence = none) ∧
      (row.loopFitted = true → g'.presence = some (presenceReset (s.gatePins k).loop s.now)) := by
  intro g'
  obtain ⟨⟨both, home, closed, neither⟩, state, count, homed, shape⟩ := restReading_spec row
    { GateRec.unconfigured with
      count := Config.unhomedCount s.drawn
      presence := if row.loopFitted then some (presenceReset (s.gatePins k).loop s.now) else none
      travels := g.travels } (s.gatePins k)
  have rests : restsAs row (s.gatePins k) { g with homed := false, count := g'.count } g' := by
    refine ⟨fun h c => ?_, home, closed, fun h c => ?_⟩
    · obtain ⟨st, hm, -⟩ := both h c
      exact ⟨st, hm, rfl⟩
    · obtain ⟨hm, -, st⟩ := neither h c
      exact ⟨hm, rfl, st⟩
  rw [show g' = _ from shape] at rests ⊢
  exact ⟨rfl, rfl, rfl, rfl, rfl, rfl, rfl, rests, fun out => by simp [out], fun fitted => by simp [fitted]⟩

/-! ### Records released -/

theorem releaseGate_kept {j k : Nat} (s : State) (other : j ≠ k) : GateKept j s (releaseGate k s) := by
  unfold releaseGate
  split
  · exact .refl j s
  · exact ((gateStored_putGate k _ (giveUp k _ s)).givingUp.1).kept other

theorem releaseGate_stored {k : Nat} {s : State} {g : GateRec} (gate : mapGet s.drives.gates k = some g) :
    GateStored k { GateRec.unconfigured with travels := g.travels } s (releaseGate k s) ∧
      givenUp (releaseGate k s) k g := by
  unfold releaseGate
  rw [gate]
  exact (gateStored_putGate k { GateRec.unconfigured with travels := g.travels } (giveUp k g s)).givingUp

/-- Settles O51: gate by gate, by what each channel's own building or release does. -/
theorem gatesComeAndGo : Obligations.GatesComeAndGo := by
  intro s steady ok
  refine ⟨fun out => ?_, fun active => ?_, ?_⟩
  · refine taken_eq (effect := gatesEnter) steady ?_ steady.2
    rw [gatesEnter, show (s.took .gatesIntoService).active .gates = false from out]
    rfl
  · let x := s.took .gatesIntoService
    let y := x.withDrives { x.drives with rows := s.serviceRows .gates }
    have run : gatesEnter x = (forEach (List.range 4) buildGate y).hand .gatesBuiltNotice := if_pos active
    have all : DrivesKept y (forEach (List.range 4) buildGate y) ∧
        (forEach (List.range 4) buildGate y).handed = y.handed :=
      forEach_keeps (P := fun u => DrivesKept y u ∧ u.handed = y.handed) ⟨.refl y, rfl⟩ fun i _ u ⟨kept, handed⟩ => by
        obtain ⟨k, h⟩ := buildGate_kept (j := i + 1) (k := i) u (by omega)
        exact ⟨kept.trans k.toDrivesKept, h.trans handed⟩
    obtain ⟨all, handed⟩ := all
    refine completes_of_quiet (effect := gatesEnter) steady rfl (by rw [run]; exact all.reports.trans steady.2) ?_
    rw [run]
    refine ⟨all.pins, all.line, congrArg (· ++ _) handed, fun k low g gate => ?_⟩
    obtain ⟨u, before, after⟩ := forEach_at (K := GateKept k) (.refl k) .trans List.nodup_range (List.mem_range.mpr low)
      (fun i _ other u => (buildGate_kept u other.symm).1) y
    have built := buildGate_record (before.record.trans gate)
    have row : u.gateRow k = (s.reference .gates k).map Machine.gateRow := by
      rw [State.gateRow, before.rows]
      exact congrArg (Option.map Machine.gateRow) (mapGet_serviceRows s .gates k)
    have pins : u.gatePins k = s.gatePins k := before.gatePins k
    have now : u.now = s.now := before.now
    rw [row] at built
    have record := after.record.trans built
    cases reference : s.reference .gates k with
    | none =>
      rw [reference] at record
      exact ⟨g, record, fun _ => rfl, nofun⟩
    | some bytes =>
      rw [reference] at record
      refine ⟨_, record, nofun, fun row' same => ?_⟩
      obtain rfl := Option.some_inj.mp same
      have spec := builtGate_spec u k (Machine.gateRow bytes) g
      rw [pins, now] at spec
      exact spec
  · let x := s.took .gatesOutOfService
    let y := forEach (List.range 4) releaseGate x
    have all : DrivesKept x y := forEach_keeps (P := DrivesKept x) (.refl x) fun i _ u kept =>
      kept.trans (releaseGate_kept (j := i + 1) (k := i) u (by omega)).toDrivesKept
    have each : ∀ k, k < 4 → ∃ u, GateKept k x u ∧ GateKept k (releaseGate k u) y := fun k low =>
      forEach_at (K := GateKept k) (.refl k) .trans List.nodup_range (List.mem_range.mpr low)
        (fun i _ other u => releaseGate_kept u other.symm) x
    have run : gatesLeave x = y.withDrives { y.drives with rows := [] } := rfl
    clear_value y
    refine completes_of_quiet (effect := gatesLeave) steady rfl (by rw [run]; exact all.reports.trans steady.2) ?_
    rw [run]
    refine ⟨all.pins, rfl, all.line, fun k low g gate => ?_⟩
    obtain ⟨u, before, after⟩ := each k low
    have record : mapGet u.drives.gates k = some g := before.record.trans gate
    obtain ⟨stored, withdrawn, back⟩ := releaseGate_stored record
    refine ⟨{ GateRec.unconfigured with travels := g.travels }, after.record.trans stored.record, rfl, rfl, rfl, rfl,
      ⟨rfl, rfl, rfl, rfl⟩, ⟨fun h => after.handed _ (withdrawn h), fun h => after.handed _ (back h)⟩,
      fun configured => after.handed _ (stored.told ?_)⟩
    rw [State.gateState, record]
    exact configured

end Sys2Proof.Machine
end

section
/-!
SUPPORT. The Grade Evaluator: rules and flags as the statements say them, and a run over segments that takes new raw
grades, settles the records and reports what has changed.
-/

namespace Sys2Proof.Machine

/-! ### Rules and raw grades -/

/-- A rule evaluated is a rule decided as R65 and R66 say. -/
theorem evaluateRule_spec (row : RuleRow) (present : Bool) (m : Measured) (before : Bool) :
    ruleSays row present m.status m.filtered m.rise before (evaluateRule row present m before) := by
  unfold ruleSays evaluateRule measureOf
  refine ⟨fun here live known => ?_, fun missing => ?_⟩
  · rw [if_pos ⟨here, live⟩]
    have compared : ∀ v : Int, compareRule row before v = true ↔
        (row.atOrBelow = true ∧ v ≤ row.threshold + (if before then row.hysteresis else 0 : Int)) ∨
          (row.atOrBelow = false ∧ row.threshold - (if before then row.hysteresis else 0 : Int) ≤ v) := by
      intro v
      unfold compareRule
      cases row.atOrBelow <;> cases before <;> simp
    by_cases rise : row.rise = true
    · obtain ⟨v, some_v⟩ := Option.isSome_iff_exists.mp (known rise)
      simp only [rise, if_true, some_v, Option.getD_some]
      exact compared v
    · simp only [rise]
      exact compared m.filtered
  · have unmeasured : (if present = true ∧ m.status = .live then
        (if row.rise then m.rise else some m.filtered) else none) = none := by
      rcases missing with absent | dead | ⟨rise, unknown⟩
      · rw [if_neg fun h => by rw [absent] at h; exact nomatch h.1]
      · rw [if_neg fun h => dead h.2]
      · simp [rise, unknown]
    rw [unmeasured]
    refine ⟨fun h => ?_, fun h => ?_, fun h => ?_⟩ <;> rw [h] <;> rfl

theorem foldl_max_spec {α : Type} (f : α → Nat) (l : List α) (n : Nat) :
    let m := l.foldl (fun acc e => max acc (f e)) n
    n ≤ m ∧ (∀ e ∈ l, f e ≤ m) ∧ (m = n ∨ ∃ e ∈ l, f e = m) := by
  induction l generalizing n with
  | nil => exact ⟨Nat.le_refl n, by simp, .inl rfl⟩
  | cons x l ih =>
    obtain ⟨least, each, reached⟩ := ih (max n (f x))
    refine ⟨le_trans (le_max_left ..) least, fun e mem => ?_, ?_⟩
    · rcases List.mem_cons.mp mem with rfl | mem
      · exact le_trans (le_max_right ..) least
      · exact each e mem
    · rcases reached with same | ⟨e, mem, same⟩
      · rcases max_choice n (f x) with first | second
        · exact .inl (same.trans first)
        · exact .inr ⟨x, List.mem_cons_self, (same.trans second).symm⟩
      · exact .inr ⟨e, List.mem_cons_of_mem x mem, same⟩

theorem ruleGrade_eq (row : Option RuleRow) (flag : Bool) (g : Nat) :
    ruleGrade row flag g = match row with
      | none => 0
      | some r => if flag = true ∧ maskHas r.mask g = true then r.grade else 0 := by
  cases row with
  | none => rfl
  | some r => simp [ruleGrade]

/-- The raw grade is the greatest grade of the asserted rules that cover the segment. -/
theorem isRaw_rawGrade (s : State) (g : Nat) : isRaw s s.grader.flags g (s.rawGrade g) := by
  obtain ⟨-, each, reached⟩ := foldl_max_spec (fun e => ruleGrade (s.ruleRow e.1) e.2 g) s.grader.flags 0
  refine ⟨fun e mem asserted row found covers => ?_, ?_⟩
  · have le := each e mem
    rw [ruleGrade_eq, Option.mem_def.mp found] at le
    exact (if_pos ⟨asserted, covers⟩).symm.le.trans le
  · refine or_iff_not_imp_left.mpr fun positive => ?_
    obtain zero | ⟨e, mem, same⟩ := reached
    · exact absurd zero positive
    · have value : ruleGrade (s.ruleRow e.1) e.2 g = s.rawGrade g := same
      rw [ruleGrade_eq] at value
      cases found : s.ruleRow e.1 with
      | none => rw [found] at value; exact absurd value.symm positive
      | some row =>
        rw [found] at value
        by_cases covers : e.2 = true ∧ maskHas row.mask g = true
        · exact ⟨e, mem, covers.1, row, found, covers.2, (if_pos covers).symm.trans value⟩
        · exact absurd ((if_neg covers).symm.trans value).symm positive

theorem settle_spec (now descent : Nat) (r : GradeRec) : settlesTo now descent r (settle now descent r) := by
  unfold settlesTo settle GradeRec.target seconds
  split
  · next up => exact ⟨rfl, rfl, by dsimp only; omega, fun _ => rfl, fun h => by omega⟩
  · next not =>
    split
    · next same => exact ⟨rfl, rfl, by dsimp only; omega, fun _ => rfl, fun h => by omega⟩
    · next differs =>
      have above : max r.raw r.floor < r.effective := by omega
      cases held : r.hold with
      | none => exact ⟨rfl, rfl, by dsimp only; omega, fun h => by omega, fun _ => rfl⟩
      | some e => exact ⟨rfl, rfl, by dsimp only; omega, fun h => by omega, fun _ => held⟩

/-! ### A segment regraded -/

/-- The record of a segment with its new raw grade, settled; its hold runs on, or starts anew at a restart. -/
def State.regradedRec (s : State) (held : Bool) (g : Nat) (r : GradeRec) : GradeRec :=
  settle s.now (s.descentHold g) { r with raw := s.rawGrade g, hold := if held then r.hold else none }

/-- A segment regraded, with its hold or without. -/
def regradeWith (held : Bool) (g : Nat) (s : State) : State :=
  match s.gradeRecord g with
  | none => s
  | some r => storeGrade g .rise r (s.regradedRec held g r) s

theorem regrade_eq (g : Nat) (s : State) : regrade g s = regradeWith true g s := rfl

theorem restartGrade_eq (g : Nat) (s : State) : restartGrade g s = regradeWith false g s := rfl

/-- What a run over the segments leaves. -/
structure GradesKept (s t : State) : Prop where
  grader : ∃ m, t.grader = { s.grader with segments := m }
  store : t.store = s.store
  time : t.time = s.time
  sequencer : t.sequencer = s.sequencer
  handed : ∀ e ∈ s.handed, e ∈ t.handed
  cleared : .graderSegmentsOutOfService ∈ t.handed → .graderSegmentsOutOfService ∈ s.handed

theorem GradesKept.refl (s : State) : GradesKept s s := ⟨⟨_, rfl⟩, rfl, rfl, rfl, fun _ h => h, fun h => h⟩

theorem GradesKept.trans {s t u : State} (h : GradesKept s t) (n : GradesKept t u) : GradesKept s u := by
  obtain ⟨m, e⟩ := h.grader
  obtain ⟨m', e'⟩ := n.grader
  exact ⟨⟨m', by rw [e', e]⟩, n.store.trans h.store, n.time.trans h.time, n.sequencer.trans h.sequencer,
    fun x mem => n.handed x (h.handed x mem), fun mem => h.cleared (n.cleared mem)⟩

section
variable {s t : State} (h : GradesKept s t)
include h

theorem GradesKept.flags : t.grader.flags = s.grader.flags := by obtain ⟨m, e⟩ := h.grader; rw [e]

theorem GradesKept.ruleRow : t.ruleRow = s.ruleRow := by
  obtain ⟨m, e⟩ := h.grader
  funext i
  rw [State.ruleRow, State.ruleRow, e]

theorem GradesKept.graderSegmentRow : t.graderSegmentRow = s.graderSegmentRow := by
  obtain ⟨m, e⟩ := h.grader
  funext i
  rw [State.graderSegmentRow, State.graderSegmentRow, e]

theorem GradesKept.now : t.now = s.now := by rw [State.now, State.now, h.time]

theorem GradesKept.rawGrade (g : Nat) : t.rawGrade g = s.rawGrade g := by
  rw [State.rawGrade, State.rawGrade, h.flags, h.ruleRow]

theorem GradesKept.descentHold (g : Nat) : t.descentHold g = s.descentHold g := by
  rw [State.descentHold, State.descentHold, h.graderSegmentRow]

theorem GradesKept.gradeCloses (g : Nat) : t.gradeCloses g = s.gradeCloses g := by
  rw [State.gradeCloses, State.gradeCloses, h.graderSegmentRow]

theorem GradesKept.decidingRule (g raw : Nat) : t.decidingRule g raw = s.decidingRule g raw := by
  rw [State.decidingRule, State.decidingRule, h.flags, h.ruleRow]

theorem GradesKept.regradedRec (held : Bool) (g : Nat) (r : GradeRec) :
    t.regradedRec held g r = s.regradedRec held g r := by
  rw [State.regradedRec, State.regradedRec, h.now, h.descentHold, h.rawGrade]

theorem GradesKept.gradeData (g before : Nat) (r : GradeRec) (cause : GradeCause) :
    gradeData t g before r cause = Machine.gradeData s g before r cause := by
  rw [Machine.gradeData, Machine.gradeData, State.remaining, State.remaining, h.now, h.decidingRule]

theorem GradesKept.serves : t.serves .segments .graderSegmentsOutOfService =
    s.serves .segments .graderSegmentsOutOfService := by
  have active : t.active .segments = s.active .segments := by rw [State.active, State.region, h.store]; rfl
  rw [Bool.eq_iff_iff, State.serves_iff, State.serves_iff, active]
  exact and_congr_right fun _ => not_congr ⟨h.cleared, h.handed _⟩

theorem GradesKept.gradeRecord {g : Nat} (same : mapGet t.grader.segments g = mapGet s.grader.segments g) :
    t.gradeRecord g = s.gradeRecord g := by
  rw [State.gradeRecord, State.gradeRecord, State.found, State.found, h.serves, same]

end

/-! ### A run over segments -/

theorem uncleared_gradeEvents (closes : Bool) (g old new : Nat) :
    .graderSegmentsOutOfService ∉ gradeEvents closes g old new := by simp [gradeEvents]

theorem storeGrade_kept (g : Nat) (cause : GradeCause) (old new : GradeRec) (s : State) :
    GradesKept s (storeGrade g cause old new s) := by
  unfold storeGrade
  dsimp only
  split
  · exact ⟨⟨_, rfl⟩, rfl, rfl, rfl, fun _ m => m, fun m => m⟩
  · exact ⟨⟨_, rfl⟩, rfl, rfl, rfl, fun _ m => List.mem_append_left _ m,
      fun m => (List.mem_append.mp m).resolve_right (uncleared_gradeEvents _ _ _ _)⟩

/-- The report that a stored record asks for. -/
def gradeAsked (s : State) (g : Nat) (cause : GradeCause) (old new : GradeRec) : List ReportRequest :=
  if old.effective = new.effective then []
  else [{ kind := reportGrade, data := gradeData s g old.effective new cause }]

theorem storeGrade_reports (g : Nat) (cause : GradeCause) (old new : GradeRec) (s : State) :
    (storeGrade g cause old new s).reports = s.reports ++ gradeAsked s g cause old new := by
  unfold storeGrade gradeAsked
  dsimp only
  split
  · exact (List.append_nil _).symm
  · rfl

theorem gradeAction_says (closes : Bool) (old new : Nat) : actionSays closes old new (gradeAction closes old new) ∧
    gradeAction closes old new ∈ [none, some ClaimAction.place, some ClaimAction.remove] := by
  unfold gradeAction actionSays
  refine ⟨⟨fun h => if_pos h, fun h => ?_⟩, ?_⟩
  · rw [h, if_neg (by decide)]
    refine ⟨fun five below => if_pos ⟨five, below⟩, fun below five => ?_, fun below under => ?_⟩
    · rw [if_neg (by omega), if_pos ⟨below, five⟩]
    · rw [if_neg (by omega), if_neg (by omega)]
  · split_ifs <;> simp

theorem gradeHanded_of_events {t : State} {g old new : Nat}
    (told : ∀ e ∈ gradeEvents (t.gradeCloses g) g old new, e ∈ t.handed) : gradeHanded t g old new := by
  obtain ⟨apt, one⟩ := gradeAction_says (t.gradeCloses g) old new
  exact ⟨_, told _ List.mem_cons_self, _, one, rfl, apt, told _ (by simp [gradeEvents])⟩

theorem regradeWith_of_none {held : Bool} {g : Nat} {s : State} (h : s.gradeRecord g = none) :
    regradeWith held g s = s := by rw [regradeWith, h]

theorem regradeWith_of_some {held : Bool} {g : Nat} {s : State} {r : GradeRec} (h : s.gradeRecord g = some r) :
    regradeWith held g s = storeGrade g .rise r (s.regradedRec held g r) s := by rw [regradeWith, h]

theorem regradeWith_kept (held : Bool) (g : Nat) (s : State) : GradesKept s (regradeWith held g s) ∧
    (regradeWith held g s).line = s.line ∧
    ∀ j, j ≠ g → mapGet (regradeWith held g s).grader.segments j = mapGet s.grader.segments j := by
  cases found : s.gradeRecord g with
  | none =>
    rw [regradeWith_of_none found]
    exact ⟨.refl s, rfl, fun _ _ => rfl⟩
  | some r =>
    rw [regradeWith_of_some found]
    obtain ⟨-, others, -, line, -⟩ := storeGrade_spec g .rise r (s.regradedRec held g r) s
    exact ⟨storeGrade_kept .., line, others⟩

/-- What a run over segments asks to be reported of one of them. -/
def State.regradeAsked (s : State) (held : Bool) (g : Nat) : List ReportRequest :=
  match s.gradeRecord g with
  | none => []
  | some r => gradeAsked s g .rise r (s.regradedRec held g r)

/-- A run over segments: each record that stands is regraded from the flags, the others stay, and the reports of the
changes follow one another. -/
theorem regradeRun_spec (held : Bool) {l : List Nat} (nodup : l.Nodup) (s : State) :
    let t := forEach l (regradeWith held) s
    GradesKept s t ∧ t.line = s.line ∧
      (∀ g, (g ∉ l ∨ s.gradeRecord g = none) → mapGet t.grader.segments g = mapGet s.grader.segments g) ∧
      (∀ g ∈ l, ∀ r ∈ s.gradeRecord g, mapGet t.grader.segments g = some (s.regradedRec held g r) ∧
        (r.effective ≠ (s.regradedRec held g r).effective →
          ∀ e ∈ gradeEvents (s.gradeCloses g) g r.effective (s.regradedRec held g r).effective, e ∈ t.handed)) ∧
      t.reports = s.reports ++ l.flatMap (s.regradeAsked held) := by
  induction l generalizing s with
  | nil => exact ⟨.refl s, rfl, fun _ _ => rfl, nofun, (List.append_nil _).symm⟩
  | cons k l ih =>
    obtain ⟨fresh, nodup⟩ := List.nodup_cons.mp nodup
    obtain ⟨kept, line, others⟩ := regradeWith_kept held k s
    rw [forEach_cons]
    obtain ⟨after, line', same, regraded, reports⟩ := ih nodup (regradeWith held k s)
    have record : ∀ g, g ≠ k → (regradeWith held k s).gradeRecord g = s.gradeRecord g := fun g other =>
      kept.gradeRecord (others g other)
    refine ⟨kept.trans after, line'.trans line, fun g out => ?_, fun g mem r found => ?_, ?_⟩
    · by_cases own : g = k
      · subst own
        have none := out.resolve_left (not_not.mpr List.mem_cons_self)
        rw [same g (.inl fresh), regradeWith_of_none none]
      · rw [same g (out.imp (fun h m => h (List.mem_cons_of_mem k m)) fun none => (record g own).trans none),
          others g own]
    · by_cases own : g = k
      · subst own
        obtain ⟨stored, -, -, -, handed⟩ := storeGrade_spec g .rise r (s.regradedRec held g r) s
        rw [← regradeWith_of_some found] at stored handed
        refine ⟨(same g (.inl fresh)).trans stored, fun changed e m => after.handed e ?_⟩
        rw [handed, if_neg changed]
        exact List.mem_append_right _ m
      · have spec := regraded g ((List.mem_cons.mp mem).resolve_left own) r ((record g own).trans found)
        rwa [kept.regradedRec, kept.gradeCloses] at spec
    · have first : (regradeWith held k s).reports = s.reports ++ s.regradeAsked held k := by
        unfold State.regradeAsked
        cases found : s.gradeRecord k with
        | none => rw [regradeWith_of_none found, List.append_nil]
        | some r => rw [regradeWith_of_some found, storeGrade_reports]
      have rest : l.flatMap ((regradeWith held k s).regradeAsked held) = l.flatMap (s.regradeAsked held) := by
        refine List.flatMap_congr fun g mem => ?_
        have own : g ≠ k := fun e => fresh (e ▸ mem)
        simp only [State.regradeAsked, record g own, gradeAsked, kept.regradedRec, kept.gradeData]
      rw [reports, first, rest, List.flatMap_cons, List.append_assoc]

/-! ### What a run leaves when it is over -/

theorem isRaw_congr {s t : State} (rows : t.ruleRow = s.ruleRow) (flags : Map Bool) (g raw : Nat) :
    isRaw t flags g raw ↔ isRaw s flags g raw := by rw [isRaw, isRaw, rows]

/-- What is said of a segment regraded at `y`. -/
def regradedAs (y t : State) (held : Bool) (g : Nat) (r r' : GradeRec) : Prop :=
  isRaw y y.grader.flags g r'.raw ∧
    settlesTo y.now (y.descentHold g) { r with raw := r'.raw, hold := if held then r.hold else none } r' ∧
    (r'.effective ≠ r.effective → gradeHanded t g r.effective r'.effective)

theorem regradedRec_raw (s : State) (held : Bool) (g : Nat) (r : GradeRec) :
    (s.regradedRec held g r).raw = s.rawGrade g := by
  obtain ⟨raw, -⟩ := settle_spec s.now (s.descentHold g)
    { r with raw := s.rawGrade g, hold := if held then r.hold else none }
  exact raw

/-- The frames of the reports that a run asks for are the statements' RISE reports. -/
theorem gradeAsked_frames (y : State) (g : Nat) (r r' : GradeRec) :
    (gradeAsked y g .rise r r').map (fun q => y.reportFrame q.kind q.data) = y.gradeReports g r r' 0 := by
  unfold gradeAsked State.gradeReports
  split <;> rfl

theorem GradesKept.gradeReports {y t : State} (h : GradesKept y t) (g : Nat) (r r' : GradeRec) (cause : Byte) :
    t.gradeReports g r r' cause = y.gradeReports g r r' cause := by
  unfold State.gradeReports
  rw [h.now, h.decidingRule, reportFrame_congr h.time h.store h.sequencer]

theorem flushReports_kept (s : State) : GradesKept s (flushReports s) :=
  ⟨⟨_, flushReports_grader s⟩, flushReports_store s, flushReports_time s, flushReports_sequencer s,
    fun _ m => (flushReports_handed s).subset m, fun m => (mem_flushReports s (by simp)).mp m⟩

theorem flatMap_filter_eq {α β : Type} (p : α → Bool) (f : α → List β) (l : List α) :
    (l.filter p).flatMap f = l.flatMap fun x => if p x then f x else [] := by
  induction l with
  | nil => rfl
  | cons x l ih =>
    rw [List.filter_cons, List.flatMap_cons]
    split <;> simp [ih]

/-- A run over segments in their order, from a state with the records and the line of the one before the event: the
records, and the reports that go out. -/
theorem regradeRun_outcome {held : Bool} {p : Nat → Bool} {s y u : State}
    (segments : y.grader.segments = s.grader.segments) (line : y.line = s.line) (quiet : y.reports = [])
    (run : forEach ((List.range 8).filter p) (regradeWith held) y = u) :
    GradesKept y (flushReports u) ∧
      (s.room (s.riseReports (flushReports u)).length → addedV s (flushReports u) (s.riseReports (flushReports u))) ∧
      ∀ g, g < 8 → ∀ r ∈ mapGet s.grader.segments g, ∃ r' ∈ mapGet (flushReports u).grader.segments g,
        (p g = false ∨ y.gradeRecord g = none → r' = r) ∧
        (p g = true → y.gradeRecord g = some r → regradedAs y (flushReports u) held g r r') := by
  obtain ⟨kept, line', same, regraded, reports⟩ := regradeRun_spec held (List.nodup_range.filter p) y
  rw [run] at kept line' same regraded reports
  have all := kept.trans (flushReports_kept u)
  have stays : ∀ g, p g = false ∨ y.gradeRecord g = none →
      mapGet (flushReports u).grader.segments g = mapGet s.grader.segments g := fun g out => by
    rw [flushReports_grader, same g (out.imp_left fun no m => by simp [no] at m), segments]
  have changes : ∀ g, g < 8 → p g = true → ∀ r, y.gradeRecord g = some r →
      mapGet (flushReports u).grader.segments g = some (y.regradedRec held g r) ∧
        regradedAs y (flushReports u) held g r (y.regradedRec held g r) := fun g low yes r found => by
    obtain ⟨stored, told⟩ := regraded g (List.mem_filter.mpr ⟨List.mem_range.mpr low, yes⟩) r found
    refine ⟨by rw [flushReports_grader, stored], ?_, ?_, fun changed => ?_⟩
    · rw [regradedRec_raw]
      exact isRaw_rawGrade y g
    · rw [regradedRec_raw]
      exact settle_spec ..
    · refine gradeHanded_of_events fun e m => (flushReports_handed u).subset (told changed.symm e ?_)
      rwa [all.gradeCloses] at m
  refine ⟨all, fun room => ?_, fun g low r record => ?_⟩
  · have asked : u.reports = ((List.range 8).filter p).flatMap (y.regradeAsked held) := by
      rw [reports, quiet, List.nil_append]
    have frames : u.reports.map (fun q => u.reportFrame q.kind q.data) = s.riseReports (flushReports u) := by
      have told : (fun q : ReportRequest => u.reportFrame q.kind q.data) = fun q => y.reportFrame q.kind q.data := by
        funext q
        exact reportFrame_congr kept.time kept.store kept.sequencer ..
      rw [told, asked, List.map_flatMap, flatMap_filter_eq]
      refine List.flatMap_congr fun g low => ?_
      have own : g < 8 := List.mem_range.mp low
      cases found : y.gradeRecord g with
      | none =>
        rw [stays g (.inr found), State.regradeAsked, found]
        cases mapGet s.grader.segments g <;> simp [State.gradeReports]
      | some r =>
        obtain ⟨-, -, record⟩ := State.gradeRecord_eq_some.mp found
        rw [segments] at record
        cases yes : p g with
        | false =>
          rw [stays g (.inl yes), record]
          simp [State.gradeReports]
        | true =>
          rw [(changes g own yes r found).1, record, State.regradeAsked, found]
          exact (gradeAsked_frames ..).trans (all.gradeReports ..).symm
    rw [← frames, List.length_map] at room
    rw [← frames]
    exact addedV_asked room (line'.trans line) rfl
  · by_cases chosen : p g = true ∧ y.gradeRecord g = some r
    · obtain ⟨yes, found⟩ := chosen
      obtain ⟨stored, shape⟩ := changes g low yes r found
      exact ⟨_, stored, fun out => by simp [yes, found] at out, fun _ _ => shape⟩
    · refine ⟨r, (stays g ?_).trans record, fun _ => rfl, fun yes found => absurd ⟨yes, found⟩ chosen⟩
      cases found : y.gradeRecord g with
      | none => exact .inr rfl
      | some x =>
        obtain ⟨-, -, held⟩ := State.gradeRecord_eq_some.mp found
        have same : x = r := Option.some_inj.mp (held.symm.trans (segments ▸ record))
        exact .inl (by simpa [found, same] using chosen)

end Sys2Proof.Machine
end

section
/-!
OBLIGATION O34. A channel update: the flags of the rules that read the channel, and the segments that they cover.
-/

namespace Sys2Proof.Machine

/-! ### Flags decided afresh -/

/-- A segment that a rule covers whose flag differs between two sets of flags, as the statements say it. -/
def coveredByChange (s : State) (old new : Map Bool) (g : Nat) : Prop :=
  ∃ i, i < 96 ∧ mapGet old i ≠ mapGet new i ∧ ∃ row ∈ s.ruleRow i, maskHas row.mask g = true

/-- The test of a changed segment over flags that were decided afresh one by one. -/
theorem changed_iff {s : State} {old : Map Bool} (sorted : mapSorted old = true) (low : ∀ e ∈ old, e.1 < 96)
    (f : Nat × Bool → Bool) (g : Nat) :
    ((List.zip old (old.map fun e => (e.1, f e))).any fun p =>
      p.1.2 != p.2.2 && (s.ruleRow p.1.1).any fun row => maskHas row.mask g) = true ↔
      coveredByChange s old (old.map fun e => (e.1, f e)) g := by
  have pairs : List.zip old (old.map fun e => (e.1, f e)) = old.map fun e => (e, (e.1, f e)) := by
    have zipped := List.zip_map' (f := id) (g := fun e : Nat × Bool => (e.1, f e)) (l := old)
    rwa [List.map_id] at zipped
  rw [pairs, List.any_map, List.any_eq_true]
  constructor
  · rintro ⟨e, mem, changes⟩
    simp only [Function.comp_apply, Bool.and_eq_true, bne_iff_ne, ne_eq, Option.any_eq_true] at changes
    obtain ⟨differs, row, found, covers⟩ := changes
    have held := mapGet_of_mem sorted mem
    refine ⟨e.1, low e mem, ?_, row, found, covers⟩
    rw [mapGet_map_values, held]
    exact fun same => differs (Option.some_inj.mp same)
  · rintro ⟨i, -, differs, row, found, covers⟩
    rw [mapGet_map_values] at differs
    cases held : mapGet old i with
    | none => rw [held] at differs; exact absurd rfl differs
    | some v =>
      rw [held] at differs
      refine ⟨(i, v), mem_of_mapGet held, ?_⟩
      simp only [Function.comp_apply, Bool.and_eq_true, bne_iff_ne, ne_eq, Option.any_eq_true]
      exact ⟨fun same => differs (congrArg some same), row, found, covers⟩

/-- New flags applied: the flags, and the segments that their changes cover. -/
theorem applyFlags_outcome {s y t : State} {new : Map Bool} (f : Nat × Bool → Bool) (ok : GradesOk s)
    (grader : y.grader = s.grader) (line : y.line = s.line) (quiet : y.reports = [])
    (decided : new = s.grader.flags.map fun e => (e.1, f e)) (run : flushReports (applyFlags new y) = t) :
    t.grader.flags = new ∧ (s.room (s.riseReports t).length → addedV s t (s.riseReports t)) ∧
      t.ruleRow = s.ruleRow ∧
      ∀ g, g < 8 → ∀ r ∈ mapGet s.grader.segments g, ∃ r' ∈ mapGet t.grader.segments g,
        (¬ coveredByChange s s.grader.flags new g ∨ y.gradeRecord g = none → r' = r) ∧
        (coveredByChange s s.grader.flags new g → y.gradeRecord g = some r →
          regradedAs (y.withGrader { y.grader with flags := new }) t true g r r') := by
  subst decided run
  obtain ⟨sorted, low, -, -⟩ := ok
  let new := s.grader.flags.map fun e => (e.1, f e)
  let z := y.withGrader { y.grader with flags := new }
  let p : Nat → Bool := fun g => (List.zip y.grader.flags new).any fun p =>
    p.1.2 != p.2.2 && (y.ruleRow p.1.1).any fun row => maskHas row.mask g
  have rows : y.ruleRow = s.ruleRow := by
    funext i
    rw [State.ruleRow, State.ruleRow, grader]
  have chosen : ∀ g, p g = true ↔ coveredByChange s s.grader.flags new g := fun g => by
    rw [← changed_iff sorted low f g]
    simp only [p, rows, grader, new]
  obtain ⟨kept, reported, each⟩ := regradeRun_outcome (held := true) (p := p) (s := s) (y := z)
    (u := applyFlags new y) (show y.grader.segments = _ by rw [grader]) line quiet rfl
  refine ⟨kept.flags, reported, kept.ruleRow.trans rows, fun g small r record => ?_⟩
  obtain ⟨r', stored, same, changed⟩ := each g small r record
  refine ⟨r', stored, fun out => same (out.imp_left fun no => ?_), fun covers found => ?_⟩
  · exact Bool.eq_false_iff.mpr (mt (chosen g).mp no)
  · exact changed ((chosen g).mpr covers) found

/-! ### A channel update -/

/-- The flag of one rule after an update. -/
def updatedFlag (s : State) (u : ChannelUpdate) (e : Nat × Bool) : Bool :=
  match s.ruleRow e.1 with
  | none => e.2
  | some row =>
    if row.channel = u.channel then
      evaluateRule row (s.ruleChannelPresent u.channel)
        { status := u.status, filtered := u.filtered, rise := u.rise } e.2
    else e.2

theorem updatedFlags_eq (s : State) (u : ChannelUpdate) :
    s.updatedFlags u = s.grader.flags.map fun e => (e.1, updatedFlag s u e) := by
  refine List.map_congr_left fun e _ => ?_
  unfold updatedFlag
  cases s.ruleRow e.1 with
  | none => rfl
  | some row => dsimp only; split <;> rfl

/-- A segment's grade record stands while it is in use. -/
theorem gradeRecord_of_record {s : State} {g : Nat} {r : GradeRec} (record : mapGet s.grader.segments g = some r) :
    (s.gradeRecord g = some r ↔ s.active .segments = true ∧ .graderSegmentsOutOfService ∉ s.handed) ∧
      (s.gradeRecord g = none ↔ ¬ (s.active .segments = true ∧ .graderSegmentsOutOfService ∉ s.handed)) := by
  rw [State.gradeRecord, State.found, ← State.serves_iff]
  split
  · next serves => simp [serves, record]
  · next idle => simp [idle]

theorem took_gradeRecord {s : State} {c : Instr} (other : c ≠ .graderSegmentsOutOfService) (g : Nat) :
    (s.took c).gradeRecord g = s.gradeRecord g := by
  have serves : (s.took c).serves .segments .graderSegmentsOutOfService =
      s.serves .segments .graderSegmentsOutOfService := by
    rw [Bool.eq_iff_iff, State.serves_iff, State.serves_iff]
    exact and_congr_right fun _ => not_congr (List.mem_erase_of_ne other.symm)
  rw [State.gradeRecord, State.gradeRecord, State.found, State.found, serves]
  rfl

/-- Settles O34: the flags one by one, and the segments covered by the changed ones. -/
theorem updatesDecideFlagsAndGrades : Obligations.UpdatesDecideFlagsAndGrades := by
  intro u s steady ok
  have new : (s.took (.channelUpdate u)).updatedFlags u = s.grader.flags.map fun e => (e.1, updatedFlag s u e) :=
    updatedFlags_eq s u
  refine ⟨_, taken_of_steady (effect := takeUpdate u) steady, ?_⟩
  generalize run : flushReports (takeUpdate u (s.took (.channelUpdate u))) = t
  obtain ⟨flags, reported, -, each⟩ :=
    applyFlags_outcome (y := s.took (.channelUpdate u)) (updatedFlag s u) ok rfl rfl steady.2 new run
  refine ⟨reported, fun i _ b held => ?_, fun g low r record => ?_⟩
  · refine ⟨updatedFlag s u (i, b), ?_, fun absent => ?_, fun row present => ⟨fun other => ?_, fun own => ?_⟩⟩
    · rw [flags, new, mapGet_map_values, Option.mem_def.mp held]
      rfl
    all_goals unfold updatedFlag
    · rw [absent]
    · rw [Option.mem_def.mp present]
      exact if_neg other
    · rw [Option.mem_def.mp present]
      dsimp only
      rw [if_pos own]
      exact evaluateRule_spec row _ { status := u.status, filtered := u.filtered, rise := u.rise } b
  · obtain ⟨r', stored, same, changed⟩ := each g low r record
    rw [took_gradeRecord (by simp)] at same changed
    obtain ⟨stands, none⟩ := gradeRecord_of_record record
    rw [← flags] at same changed
    refine ⟨r', stored, fun out => same (out.imp_right none.mpr), fun covers inUse => ?_⟩
    obtain ⟨raw, settles, handed⟩ := changed covers (stands.mpr inUse)
    exact ⟨raw, settles, handed⟩

end Sys2Proof.Machine
end

section
/-!
OBLIGATION O36. Grade rules, grade records and channels coming and going.
-/

namespace Sys2Proof.Machine

/-! ### Every rule evaluated -/

/-- The flag of one rule evaluated against Sample Intake's record. -/
def evaluatedFlag (s : State) (e : Nat × Bool) : Bool :=
  match s.ruleRow e.1 with
  | none => e.2
  | some row => evaluateRule row (s.ruleChannelPresent row.channel) (s.measured row.channel) e.2

theorem evaluatedFlags_eq (s : State) (flags : Map Bool) :
    s.evaluatedFlags flags = flags.map fun e => (e.1, evaluatedFlag s e) := by
  refine List.map_congr_left fun e _ => ?_
  unfold evaluatedFlag
  cases s.ruleRow e.1 <;> rfl

theorem took_measured {s : State} {c : Instr} (other : c ≠ .channelsOutOfService) (n : Nat) :
    (s.took c).measured n = s.measured n := by
  have serves : (s.took c).serves .channels .channelsOutOfService = s.serves .channels .channelsOutOfService := by
    rw [Bool.eq_iff_iff, State.serves_iff, State.serves_iff]
    exact and_congr_right fun _ => not_congr (List.mem_erase_of_ne other.symm)
  rw [State.measured, State.measured, State.found, State.found, serves]
  rfl

theorem took_evaluatedFlag {s : State} {c : Instr} (other : c ≠ .channelsOutOfService) (e : Nat × Bool) :
    evaluatedFlag (s.took c) e = evaluatedFlag s e := by
  unfold evaluatedFlag
  simp only [took_measured other]
  rfl

/-- A rule's flag evaluated, as the statements say it. -/
theorem evaluatedFlag_spec {s : State} {e : Nat × Bool} {row : RuleRow} (found : s.ruleRow e.1 = some row) :
    ruleSays row (s.reference .channels row.channel).isSome (s.measured row.channel).status
      (s.measured row.channel).filtered (s.measured row.channel).rise e.2 (evaluatedFlag s e) := by
  unfold evaluatedFlag
  rw [found]
  exact evaluateRule_spec ..

/-! ### SEGMENTS entering service -/

theorem builtGrade_spec (s : State) (g : Nat) :
    isRaw s s.grader.flags g (s.builtGrade g).raw ∧ (s.builtGrade g).floor = 0 ∧
      (s.builtGrade g).effective = max s.store.site.startupGrade.toNat (s.builtGrade g).raw ∧
      (s.builtGrade g).hold = (if (s.builtGrade g).raw < (s.builtGrade g).effective then
        some (s.now + 10 * s.descentHold g) else none) := by
  obtain ⟨raw, floor, effective, rests, holds⟩ := settle_spec s.now (s.descentHold g)
    { raw := s.rawGrade g, effective := max s.store.site.startupGrade.toNat (s.rawGrade g), floor := 0, hold := none }
  change (s.builtGrade g).raw = s.rawGrade g at raw
  change (s.builtGrade g).effective = _ at effective
  have least : (s.builtGrade g).effective = max s.store.site.startupGrade.toNat (s.rawGrade g) := by
    rw [effective]
    dsimp only
    omega
  refine ⟨?_, floor, ?_, ?_⟩
  · rw [raw]
    exact isRaw_rawGrade s g
  · rw [raw, least]
  · rw [raw, least]
    split
    · next above => exact holds (by dsimp only; omega)
    · next same => exact rests (by dsimp only; omega)

/-- A run over every segment. -/
theorem regradeAll_outcome {held : Bool} {s y t : State} (segments : y.grader.segments = s.grader.segments)
    (line : y.line = s.line) (quiet : y.reports = [])
    (run : flushReports (forEach (List.range 8) (regradeWith held) y) = t) :
    GradesKept y t ∧ (s.room (s.riseReports t).length → addedV s t (s.riseReports t)) ∧
      ∀ g, g < 8 → ∀ r ∈ mapGet s.grader.segments g, ∃ r' ∈ mapGet t.grader.segments g,
        (y.gradeRecord g = none → r' = r) ∧ (y.gradeRecord g = some r → regradedAs y t held g r r') := by
  subst run
  have all : (List.range 8).filter (fun _ => true) = List.range 8 := List.filter_true _
  obtain ⟨kept, reported, each⟩ := regradeRun_outcome (p := fun _ => true) segments line quiet
    (u := forEach (List.range 8) (regradeWith held) y) (by rw [all])
  refine ⟨kept, reported, fun g low r record => ?_⟩
  obtain ⟨r', stored, same, changed⟩ := each g low r record
  exact ⟨r', stored, fun none => same (.inr none), changed rfl⟩

/-- A run over every segment, from a state with the segment rows, the records and the time of the one before. -/
theorem regradeAll_settles {held : Bool} {s y t : State} (segments : y.grader.segments = s.grader.segments)
    (rows : y.graderSegmentRow = s.graderSegmentRow) (line : y.line = s.line) (quiet : y.reports = [])
    (time : y.time = s.time) (records : ∀ g, y.gradeRecord g = s.gradeRecord g)
    (run : flushReports (forEach (List.range 8) (regradeWith held) y) = t) :
    let inUse := s.active .segments = true ∧ .graderSegmentsOutOfService ∉ s.handed
    GradesKept y t ∧ (s.room (s.riseReports t).length → addedV s t (s.riseReports t)) ∧
      ∀ g, g < 8 → ∀ r ∈ mapGet s.grader.segments g, ∃ r' ∈ mapGet t.grader.segments g,
        (¬ inUse → r' = r) ∧ (inUse → isRaw t t.grader.flags g r'.raw ∧
          settlesTo s.now (s.descentHold g) { r with raw := r'.raw, hold := if held then r.hold else none } r' ∧
          (r'.effective ≠ r.effective → gradeHanded t g r.effective r'.effective)) := by
  obtain ⟨kept, reported, each⟩ := regradeAll_outcome segments line quiet run
  refine ⟨kept, reported, fun g low r record => ?_⟩
  obtain ⟨r', stored, same, changed⟩ := each g low r record
  obtain ⟨stands, none⟩ := gradeRecord_of_record record
  rw [records] at same changed
  refine ⟨r', stored, fun out => same (none.mpr out), fun inUse => ?_⟩
  obtain ⟨raw, settles, handed⟩ := changed (stands.mpr inUse)
  have now : y.now = s.now := by rw [State.now, State.now, time]
  rw [now, State.descentHold, rows] at settles
  exact ⟨by rwa [isRaw_congr kept.ruleRow, kept.flags], settles, handed⟩

/-- The flag of a rule that GRADE RULES brings into service. -/
theorem makeFlags_flag (s : State) (i : Nat) :
    (mapGet (makeFlags s).grader.flags i).isSome = (s.reference .gradeRules i).isSome ∧
      ∀ b ∈ mapGet (makeFlags s).grader.flags i, ∀ row ∈ s.reference .gradeRules i,
        ruleSays (Machine.ruleRow row) (s.reference .channels (Machine.ruleRow row).channel).isSome
          (s.measured (Machine.ruleRow row).channel).status (s.measured (Machine.ruleRow row).channel).filtered
          (s.measured (Machine.ruleRow row).channel).rise false b := by
  let t := s.withGrader { s.grader with rulesIn := true, ruleRows := s.serviceRows .gradeRules }
  have held : mapGet (makeFlags s).grader.flags i =
      (s.reference .gradeRules i).map fun _ => evaluatedFlag t (i, false) := by
    change mapGet (t.evaluatedFlags (builtFlags (s.serviceRows .gradeRules))) i = _
    rw [evaluatedFlags_eq, mapGet_map_values, builtFlags, mapGet_map_values (s.serviceRows .gradeRules) fun _ => false,
      mapGet_serviceRows, Option.map_map]
    rfl
  refine ⟨by rw [held, Option.isSome_map], fun b mem row present => ?_⟩
  rw [held, Option.mem_def.mp present] at mem
  obtain rfl := Option.some_inj.mp mem
  have found : t.ruleRow i = some (Machine.ruleRow row) := by
    change (mapGet (s.serviceRows .gradeRules) i).map Machine.ruleRow = _
    rw [mapGet_serviceRows, Option.mem_def.mp present]
    rfl
  exact evaluatedFlag_spec (s := t) found

/-- The record of a segment that SEGMENTS brings into service. -/
theorem buildGrades_record (s : State) (g : Nat) :
    (mapGet (buildGrades s).grader.segments g).isSome = (s.reference .segments g).isSome ∧
      ∀ r ∈ mapGet (buildGrades s).grader.segments g, isRaw s s.grader.flags g r.raw ∧ r.floor = 0 ∧
        r.effective = max s.store.site.startupGrade.toNat r.raw ∧
        r.hold = (if r.raw < r.effective then some (s.now + 10 * (buildGrades s).descentHold g) else none) ∧
        gradeHanded (buildGrades s) g 0 r.effective := by
  let t := s.withGrader { s.grader with segmentsIn := true, segmentRows := s.serviceRows .segments }
  have held : mapGet (buildGrades s).grader.segments g = (s.reference .segments g).map fun _ => t.builtGrade g := by
    rw [← mapGet_serviceRows]
    exact mapGet_map_values (s.serviceRows .segments) (fun e => t.builtGrade e.1) g
  refine ⟨by rw [held, Option.isSome_map], fun r mem => ?_⟩
  have stored := mem_of_mapGet mem
  obtain ⟨row, -, rfl⟩ := Option.map_eq_some_iff.mp (held.symm.trans mem)
  obtain ⟨raw, floor, effective, hold⟩ := builtGrade_spec t g
  refine ⟨raw, floor, effective, hold, gradeHanded_of_events fun e m => List.mem_append_right _ ?_⟩
  exact List.mem_flatMap.mpr ⟨_, stored, m⟩

/-- Settles O36: what each notice makes of the flags, and then the run over the segments. -/
theorem rulesAndGradeRecordsComeAndGo : Obligations.RulesAndGradeRecordsComeAndGo := by
  refine ⟨fun s steady ok => ?_, fun s steady => ?_⟩
  · intro inUse reported regraded settled ruled
    refine ⟨fun out => ?_, fun active => ?_, ?_, fun entered _ => ?_, ?_⟩
    · refine taken_eq (effect := rulesEnter) steady ?_ steady.2
      rw [rulesEnter, show (s.took .gradeRulesIntoService).active .gradeRules = false from out]
      rfl
    · refine ⟨_, taken_of_steady (effect := rulesEnter) steady, ?_⟩
      rw [show rulesEnter (s.took .gradeRulesIntoService) = regradeAll (makeFlags (s.took .gradeRulesIntoService)) from
        if_pos active]
      generalize run : flushReports (regradeAll (makeFlags (s.took .gradeRulesIntoService))) = t
      obtain ⟨kept, told, each⟩ := regradeAll_settles (held := true) (s := s)
        (y := makeFlags (s.took .gradeRulesIntoService)) rfl rfl rfl steady.2 rfl
        (took_gradeRecord (s := s) (c := .gradeRulesIntoService) (by simp)) run
      refine ⟨by obtain ⟨m, e⟩ := kept.grader; rw [e]; rfl, ⟨told, each⟩, fun i _ => ?_⟩
      rw [kept.flags]
      obtain ⟨present, decided⟩ := makeFlags_flag (s.took .gradeRulesIntoService) i
      refine ⟨present, fun b held row found => ?_⟩
      have apt := decided b held row found
      rwa [took_measured (by simp)] at apt
    · refine ⟨_, taken_of_steady (effect := rulesLeave) steady, ?_⟩
      generalize run : flushReports (rulesLeave (s.took .gradeRulesOutOfService)) = t
      let x := s.took .gradeRulesOutOfService
      obtain ⟨kept, told, each⟩ := regradeAll_settles (held := true) (s := s)
        (y := x.withGrader { x.grader with rulesIn := false, ruleRows := [], flags := [] }) rfl rfl rfl steady.2 rfl
        (took_gradeRecord (s := s) (c := .gradeRulesOutOfService) (by simp)) run
      exact ⟨by obtain ⟨m, e⟩ := kept.grader; rw [e]; rfl, kept.flags, told, each⟩
    · let c := Instr.graderChannelsNotice entered
      have new : (s.took c).evaluatedFlags s.grader.flags = s.grader.flags.map fun e => (e.1, evaluatedFlag s e) := by
        rw [evaluatedFlags_eq]
        exact List.map_congr_left fun e _ => congrArg _ (took_evaluatedFlag (by simp [c]) e)
      refine ⟨_, taken_of_steady (effect := graderChannels) steady, ?_⟩
      generalize run : flushReports (graderChannels (s.took c)) = t
      obtain ⟨flags, told, rows, each⟩ :=
        applyFlags_outcome (y := s.took c) (evaluatedFlag s) ok rfl rfl steady.2 new run
      refine ⟨told, fun i _ b held => ⟨evaluatedFlag s (i, b), ?_, fun row found => ?_⟩, fun g low r record => ?_⟩
      · rw [flags, new, mapGet_map_values, Option.mem_def.mp held]
        rfl
      · exact evaluatedFlag_spec (e := (i, b)) found
      · obtain ⟨r', stored, same, changed⟩ := each g low r record
        rw [took_gradeRecord (by simp [c])] at same changed
        obtain ⟨stands, none⟩ := gradeRecord_of_record record
        rw [← flags] at same changed
        refine ⟨r', stored, fun out => same (out.imp_right none.mpr), fun covers on => ?_⟩
        obtain ⟨raw, settles, handed⟩ := changed covers (stands.mpr on)
        exact ⟨(isRaw_congr rows ..).mpr raw, settles, handed⟩
    · let x := s.took .gradeEvaluatorRestart
      let flags := x.evaluatedFlags (s.grader.flags.map fun e => (e.1, false))
      refine ⟨_, taken_of_steady (effect := graderRestarts) steady, ?_⟩
      generalize run : flushReports (graderRestarts (s.took .gradeEvaluatorRestart)) = t
      obtain ⟨kept, told, each⟩ := regradeAll_settles (held := false) (s := s)
        (y := x.withGrader { x.grader with flags := flags }) rfl rfl rfl steady.2 rfl
        (took_gradeRecord (s := s) (c := .gradeEvaluatorRestart) (by simp)) run
      refine ⟨⟨told, each⟩, fun i _ b held => ⟨evaluatedFlag s (i, false), ?_, fun row found => ?_⟩⟩
      · rw [kept.flags]
        change mapGet flags i = _
        rw [show flags = _ from evaluatedFlags_eq .., mapGet_map_values,
          mapGet_map_values s.grader.flags fun _ => false, Option.mem_def.mp held]
        exact congrArg some (took_evaluatedFlag (by simp) _)
      · exact evaluatedFlag_spec (e := (i, false)) found
  · refine ⟨fun out => ?_, fun active => ?_, ?_⟩
    · refine taken_eq (effect := gradesEnter) steady ?_ steady.2
      rw [gradesEnter, show (s.took .graderSegmentsIntoService).active .segments = false from out]
      rfl
    · have run : gradesEnter (s.took .graderSegmentsIntoService) = buildGrades (s.took .graderSegmentsIntoService) :=
        if_pos active
      refine completes_of_quiet (effect := gradesEnter) steady rfl (by rw [run]; exact steady.2) ?_
      rw [run]
      exact ⟨rfl, rfl, rfl, fun g _ => buildGrades_record (s.took .graderSegmentsIntoService) g⟩
    · exact ⟨_, taken_of_quiet (effect := dropGrades) steady steady.2, rfl⟩

end Sys2Proof.Machine
end

section
/-!
SUPPORT. The Sign Publisher: the winner as the statements say it, and what the building of one sign leaves of the
others.
-/

namespace Sys2Proof.Machine

/-! ### The winner (R155) -/

/-- A candidate counts where its condition holds and its face is not 0. -/
theorem candidate_if {c p : Prop} [Decidable c] [Decidable p] {face : Byte} (counts : p ↔ c ∧ face ≠ 0)
    (kind : WinnerKind) (parameter : BitVec 16) (flash : Bool) :
    (if c then candidate kind face parameter flash else none) =
      if p then some { kind := kind, face := face, parameter := parameter, flash := flash } else none := by
  unfold candidate
  by_cases blank : face = 0 <;> by_cases holds : c <;> simp [counts, blank, holds]

theorem warned_iff (s : State) (g : Nat) :
    s.warned g = true ↔ ∃ e ∈ s.publisher.pathView, e.2.warning = true ∧ maskHas e.2.mask g = true := by
  simp [State.warned]

/-- The candidates of a segment in their order; one of face 0 is skipped. -/
theorem segmentWinner_spec (row : SignRow) (warned : Bool) (v : SegmentView) :
    let closed := row.approach = true ∧ v.state ∈ [.closing, .closed, .reopening] ∧ row.closed ≠ 0
    let avalanche := warned = true ∧ row.avalanche ≠ 0
    let notice := row.approach = true ∧ v.state = .notice ∧ row.notice ≠ 0
    let advisory := 1 ≤ v.grade ∧ row.advisory.getD (v.grade - 1) 0 ≠ 0
    let w := segmentWinner row warned v
    (closed → w = { kind := .closed, face := row.closed, parameter := 0xFFFF, flash := false }) ∧
    (¬ closed → avalanche → w = { kind := .avalanche, face := row.avalanche, parameter := 0xFFFF, flash := true }) ∧
    (¬ closed → ¬ avalanche → notice →
      w = { kind := .notice, face := row.notice, parameter := v.parameter, flash := false }) ∧
    (¬ closed → ¬ avalanche → ¬ notice → advisory →
      w = { kind := .advisory, face := row.advisory.getD (v.grade - 1) 0, parameter := 0xFFFF, flash := false }) ∧
    (¬ closed → ¬ avalanche → ¬ notice → ¬ advisory → w = .blank) := by
  intro closed avalanche notice advisory w
  have first : closedCandidate row v = if closed then
      some { kind := .closed, face := row.closed, parameter := 0xFFFF, flash := false } else none := by
    exact candidate_if (by simp only [closed, List.mem_cons, List.not_mem_nil, or_false, and_assoc]) ..
  have second : avalancheCandidate row warned = if avalanche then
      some { kind := .avalanche, face := row.avalanche, parameter := 0xFFFF, flash := true } else none := by
    exact candidate_if Iff.rfl ..
  have third : noticeCandidate row v = if notice then
      some { kind := .notice, face := row.notice, parameter := v.parameter, flash := false } else none := by
    exact candidate_if (by simp only [notice, and_assoc]) ..
  have fourth : advisoryCandidate row v = if advisory then
      some { kind := .advisory, face := row.advisory.getD (v.grade - 1) 0, parameter := 0xFFFF, flash := false }
      else none := by
    exact candidate_if Iff.rfl ..
  have shape : w = ((closedCandidate row v).orElse fun _ => (avalancheCandidate row warned).orElse fun _ =>
    (noticeCandidate row v).orElse fun _ => advisoryCandidate row v).getD .blank := rfl
  rw [first, second, third, fourth] at shape
  refine ⟨fun a => ?_, fun a b => ?_, fun a b c => ?_, fun a b c d => ?_, fun a b c d => ?_⟩
  · rw [shape, if_pos a]
    rfl
  · rw [shape, if_neg a, if_pos b]
    rfl
  · rw [shape, if_neg a, if_neg b, if_pos c]
    rfl
  · rw [shape, if_neg a, if_neg b, if_neg c, if_pos d]
    rfl
  · rw [shape, if_neg a, if_neg b, if_neg c, if_neg d]
    rfl

/-- The winner of a sign is the one that R155 gives. -/
theorem winnerSays_winner (s : State) (row : SignRow) (r : SignRec) : winnerSays s row r.forced (s.winner row r) := by
  unfold winnerSays State.winner winnerOf
  cases r.forced with
  | some f => exact ⟨fun x h => by cases h; rfl, nofun, nofun⟩
  | none =>
    refine ⟨nofun, fun _ out => ?_, fun _ stands v seen => ?_⟩
    · cases found : s.segmentSeen row.segment with
      | none => rfl
      | some v =>
        obtain ⟨present, -, kept, held⟩ := State.segmentSeen_eq_some.mp found
        rcases out with out | none
        · exact absurd ⟨present, kept⟩ out
        · rw [none] at held
          cases held
    · obtain ⟨present, kept⟩ := stands
      have active : s.active .segments = true := by
        unfold State.reference at present
        split at present
        · assumption
        · cases present
      rw [State.segmentSeen_eq_some.mpr ⟨present, active, kept, seen⟩]
      have spec := segmentWinner_spec row (s.warned row.segment) v
      simp only [warned_iff] at spec
      exact spec

theorem winnerSays_congr {s t : State} (service : SameService s t)
    (notice : .signerSegmentsNotice false ∈ t.handed ↔ .signerSegmentsNotice false ∈ s.handed) (row : SignRow)
    (forced : Option (Byte × Nat)) (w : Winner) : winnerSays t row forced w ↔ winnerSays s row forced w := by
  have reference : t.reference .segments = s.reference .segments := by
    funext g
    rw [State.reference, State.reference, State.active, State.active, State.region, State.region, service.store]
  simp only [winnerSays, service.segmentView, service.pathView, reference, notice]

/-! ### What the building of signs leaves -/

/-- What cycles and lit notices leave of the state. -/
structure SignsKept (s t : State) : Prop where
  service : SameService s t
  time : t.time = s.time
  allocator : t.allocator = s.allocator
  reports : t.reports = s.reports
  sweep : t.publisher.sweep = s.publisher.sweep
  started : t.publisher.started = s.publisher.started
  up : ∀ p, (t.line.port p).up = (s.line.port p).up
  handed : ∀ e ∈ s.handed, e ∈ t.handed
  notice : .signerSegmentsNotice false ∈ t.handed ↔ .signerSegmentsNotice false ∈ s.handed

theorem SignsKept.refl (s : State) : SignsKept s s :=
  ⟨.refl s, rfl, rfl, rfl, rfl, rfl, fun _ => rfl, fun _ h => h, .rfl⟩

theorem SignsKept.trans {s t u : State} (h : SignsKept s t) (k : SignsKept t u) : SignsKept s u :=
  ⟨h.service.trans k.service, k.time.trans h.time, k.allocator.trans h.allocator, k.reports.trans h.reports,
    k.sweep.trans h.sweep, k.started.trans h.started, fun p => (k.up p).trans (h.up p),
    fun e m => k.handed e (h.handed e m), k.notice.trans h.notice⟩

/-- What the events of other signs leave of a sign. -/
structure SignKept (g : Nat) (s t : State) : Prop extends SignsKept s t where
  record : mapGet t.publisher.signs g = mapGet s.publisher.signs g
  hold : ∀ p, g ∈ s.publisher.hold p → g ∈ t.publisher.hold p

theorem SignKept.refl (g : Nat) (s : State) : SignKept g s s := ⟨.refl s, rfl, fun _ h => h⟩

theorem SignKept.trans {g : Nat} {s t u : State} (h : SignKept g s t) (k : SignKept g t u) : SignKept g s u :=
  ⟨h.toSignsKept.trans k.toSignsKept, k.record.trans h.record, fun p m => k.hold p (h.hold p m)⟩

theorem signsKept_withSign (s : State) (g : Nat) (r : SignRec) : SignsKept s (s.withSign g r) :=
  ⟨sameService_withSign s g r, rfl, rfl, rfl, rfl, rfl, fun _ => rfl, fun _ h => h, .rfl⟩

theorem signsKept_withHold (s : State) (p : Port) (l : List Nat) : SignsKept s (s.withHold p l) := by
  cases p <;> exact ⟨sameService_withHold .., rfl, rfl, rfl, rfl, rfl, fun _ => rfl, fun _ h => h, .rfl⟩

theorem signsKept_setOffer (s : State) (row : SignRow) (r : SignRec) : SignsKept s (setOffer s row r).1 := by
  have touched : lineTouched s (setOffer s row r).1 := lineTouched_offer ..
  have leaves : OfferLeaves row.port s (setOffer s row r).1 := offerLeaves_offer rfl s
  have handed := leaves.handed
  refine ⟨sameService_of_offer rfl s, lineTouched_time touched, lineTouched_allocator touched,
    lineTouched_reports touched, by rw [lineTouched_publisher touched], by rw [lineTouched_publisher touched],
    fun p => (lineGrows_offer rfl s p).1, fun e m => ?_, ?_⟩
  · rcases handed with same | more
    · rwa [same]
    · rw [more]
      exact List.mem_append_left _ m
  · rcases handed with same | more
    · rw [same]
    · simp [more]

/-- An attempt leaves what is not of its sign. -/
theorem signKept_attempt (s : State) (g : Nat) (front : Bool) {h : Nat} (other : h ≠ g) :
    SignKept h s (attempt g front s).1 := by
  cases found : s.sign g with
  | none =>
    rw [attempt_of_absent found]
    exact .refl h s
  | some r =>
    cases row : s.signRow g with
    | none =>
      rw [attempt_of_rowless found front row]
      exact .refl h s
    | some row' =>
      have tried := attempted found row front
      have kept : SignsKept s (attempt g front s).1 := by
        rcases answer : (setOffer s row' r).2 with _ | _
        · rw [attempt_of_accepted found row front answer]
          exact (signsKept_setOffer s row' r).trans (signsKept_withSign ..)
        · rw [attempt_of_full found row front answer]
          exact ((signsKept_setOffer s row' r).trans (signsKept_withSign ..)).trans (signsKept_withHold ..)
      refine ⟨kept, tried.others h other, fun p m => ?_⟩
      rcases port_eq_or_opposite row'.port p with rfl | rfl
      · by_cases takes : s.takesAt row'.port
        · rwa [(tried.taken takes).2]
        · rw [(tried.held takes).2.1]
          unfold holdAgain
          split <;> simp [m, other]
      · rwa [tried.holdBeside]

theorem signKept_withSign (s : State) {g h : Nat} (r : SignRec) (other : h ≠ g) : SignKept h s (s.withSign g r) :=
  ⟨signsKept_withSign s g r, State.get_withSign_of_ne s r other, fun p m => by rwa [State.hold_withSign]⟩

theorem signKept_startCycle (s : State) (g : Nat) {h : Nat} (other : h ≠ g) : SignKept h s (startCycle g s) := by
  unfold startCycle
  split
  · exact .refl h s
  · exact (signKept_withSign s _ other).trans (signKept_attempt _ g false other)

theorem signKept_lit (s : State) (g h : Nat) (lit : Bool) : SignKept h s (s.hand (.litNotice g lit)) :=
  ⟨⟨⟨rfl, rfl, rfl, rfl, rfl, by simp [State.hand]⟩, rfl, rfl, rfl, rfl, rfl, fun _ => rfl,
    fun _ m => List.mem_append_left _ m, by simp [State.hand]⟩, rfl, fun _ m => m⟩

theorem signKept_publishSign (wasLit : Nat → Bool) (s : State) (g : Nat) {h : Nat} (other : h ≠ g) :
    SignKept h s (publishSign wasLit g s) := by
  unfold publishSign
  split
  · refine SignKept.trans ?_ (signKept_startCycle _ g other)
    split
    · exact signKept_withSign s _ other
    · exact (signKept_withSign s _ other).trans (signKept_lit ..)
  · exact .refl h s

end Sys2Proof.Machine
end

section
/-!
SUPPORT. The building of the signs: what is read of the Allocator before it, one sign built and published, and all of
them.
-/

namespace Sys2Proof.Machine

/-! ### The indices of a table -/

theorem nodup_mapKeys {α : Type} {m : Map α} (sorted : mapSorted m = true) : (mapKeys m).Nodup := by
  induction m with
  | nil => exact List.nodup_nil
  | cons e m ih =>
    obtain ⟨first, rest⟩ := (mapSorted_cons e.1 e.2 m).mp sorted
    refine List.nodup_cons.mpr ⟨fun mem => ?_, ih rest⟩
    obtain ⟨x, later, same⟩ := List.mem_map.mp mem
    exact absurd same (Nat.ne_of_gt (first x later))

theorem mem_mapKeys {α : Type} {m : Map α} (sorted : mapSorted m = true) {i : Nat} :
    i ∈ mapKeys m ↔ ∃ v, mapGet m i = some v := by
  constructor
  · intro mem
    obtain ⟨e, stored, rfl⟩ := List.mem_map.mp mem
    exact ⟨e.2, mapGet_of_mem sorted stored⟩
  · rintro ⟨v, found⟩
    exact List.mem_map.mpr ⟨_, mem_of_mapGet found, rfl⟩

theorem mapSorted_serviceRows (s : State) (r : Region) : mapSorted (s.serviceRows r) = true := by
  unfold State.serviceRows
  split
  · exact mapSorted_presentRows ..
  · rfl

/-! ### The Allocator's notice of SIGNS, taken before its reading -/

/-- What the Allocator's recomputations leave. -/
structure BesideAllocator (s t : State) : Prop where
  publisher : t.publisher = s.publisher
  store : t.store = s.store
  line : t.line = s.line
  time : t.time = s.time
  handed : ∀ e : Instr, (∀ g l, e ≠ .grantNotice g l) → (∀ k dir, e ≠ .grant k dir) →
    (∀ r n, e ≠ .budgetRegionNotice r n) → (e ∈ t.handed ↔ e ∈ s.handed)

theorem BesideAllocator.refl (s : State) : BesideAllocator s s := ⟨rfl, rfl, rfl, rfl, fun _ _ _ _ => .rfl⟩

theorem BesideAllocator.trans {s t u : State} (h : BesideAllocator s t) (k : BesideAllocator t u) :
    BesideAllocator s u :=
  ⟨k.publisher.trans h.publisher, k.store.trans h.store, k.line.trans h.line, k.time.trans h.time,
    fun e a b c => (k.handed e a b c).trans (h.handed e a b c)⟩

/-- A recomputation over a new record of the Allocator. -/
theorem besideAllocator_recompute (cause : BudgetCause) (s : State) (a : Allocator) :
    BesideAllocator s (recompute cause (s.withAllocator a)) := by
  refine ⟨?_, ?_, ?_, ?_, fun e grantNotice grant _ => mem_recompute grantNotice grant⟩ <;>
    (rw [recompute_eq]; rfl)

theorem besideAllocator_ensureSigns (s : State) : BesideAllocator s (ensureSigns s) := by
  have gone : BesideAllocator s (takeEarly (.budgetRegionNotice .signs false) allocatorSignsGone s) := by
    unfold takeEarly
    split
    · have early : BesideAllocator s (s.withHanded (s.handed.filter fun c => c != .budgetRegionNotice .signs false)) :=
        ⟨rfl, rfl, rfl, rfl, fun e _ _ other => by simp [State.withHanded, other]⟩
      exact early.trans (besideAllocator_recompute .signs _ _)
    · exact .refl s
  unfold ensureSigns
  split
  · refine gone.trans ?_
    unfold allocatorSigns
    split
    · exact .refl _
    · exact besideAllocator_recompute ..
  · exact .refl s

/-! ### One sign built and published (R166) -/

/-- A sign as its building leaves it in `t`: decided by the view, published, and told lit where it was not before. -/
def signPublished (s t : State) (wasLit : Nat → Bool) (g : Nat) (row : SignRow) (granted : Nat) : Prop :=
  ∃ r' ∈ mapGet t.publisher.signs g,
    r'.forced = none ∧ r'.granted = granted ∧ winnerSays t row none r'.winner ∧ desires r' ∧
      r'.status = .unconfirmed ∧ r'.confirmed = none ∧ r'.condition = .unknown ∧
      cycleStarts false s t g row (.built granted) r' ∧
      (decide (r'.winner.face ≠ 0) ≠ wasLit g → Instr.litNotice g (decide (r'.winner.face ≠ 0)) ∈ t.handed)

theorem SignRec.lit_eq (r : SignRec) : r.lit = decide (r.winner.face ≠ 0) := by
  simp [SignRec.lit, bne, Bool.beq_eq_decide_eq]

/-- The first attempt of a record just built, alone or not. -/
theorem cycleStarts_of_built {s t u : State} {g : Nat} {row : SignRow} {r x : SignRec} {granted : Nat}
    (tried : Attempted false s t g row (freshSign r)) (token : r.token = 0) (published : r.published = .blank)
    (pending : r.nextPending = false) (record : mapGet t.publisher.signs g = some x) :
    x.forced = r.forced ∧ x.granted = r.granted ∧ x.winner = r.winner ∧ x.desired = r.desired ∧
      sameOutcome r x ∧ cycleStarts false u t g row (.built granted) x := by
  have now : t.now = s.now := congrArg (· / 2) tried.time
  by_cases takes : s.takesAt row.port
  · obtain ⟨made, -⟩ := tried.taken takes
    rw [made] at record
    cases record
    refine ⟨rfl, rfl, rfl, rfl, ⟨rfl, rfl, rfl⟩, rfl, rfl, .inl ⟨rfl, rfl, ?_, rfl, rfl, ?_⟩, nofun⟩
    · exact congrArg (· + 1) token
    · exact congrArg (fun n => some (n + 20)) now.symm
  · obtain ⟨made, hold, up, -⟩ := tried.held takes
    rw [made] at record
    cases record
    refine ⟨rfl, rfl, rfl, rfl, ⟨rfl, rfl, rfl⟩, rfl, rfl, .inr ⟨rfl, published, token, rfl, rfl, pending, ?_, up⟩,
      nofun⟩
    rw [hold]
    simp [holdAgain]

/-- A sign just built, as it is published. -/
def State.madeSign (s : State) (row : SignRow) (granted : Nat) : SignRec :=
  let w := s.winner row (.built granted)
  { SignRec.built granted with winner := w, desired := desiredOf w granted }

theorem publishSign_publishes (s u : State) (wasLit : Nat → Bool) {g : Nat} {row : SignRow} {granted : Nat}
    (present : s.signRow g = some row) (built : s.sign g = some (.built granted)) :
    signPublished u (publishSign wasLit g s) wasLit g row granted := by
  let r := s.madeSign row granted
  let t := s.withSign g r
  let told := if r.lit = wasLit g then t else t.hand (.litNotice g r.lit)
  have run : publishSign wasLit g s = startCycle g told := by
    unfold publishSign
    rw [built, present]
    rfl
  have kept : SignKept g t told := by
    unfold told
    split
    · exact .refl g t
    · exact signKept_lit ..
  have service : SameService s told := (sameService_withSign s g r).trans kept.service
  have record : told.sign g = some r := by
    rw [kept.service.sign kept.record]
    exact sign_withSign built r
  have tried := attempted_startCycle record ((service.signRow g).trans present)
  obtain ⟨x, made⟩ : ∃ x, mapGet (startCycle g told).publisher.signs g = some x := by
    by_cases takes : told.takesAt row.port
    · exact ⟨_, (tried.taken takes).1⟩
    · exact ⟨_, (tried.held takes).1⟩
  obtain ⟨forced, level, winner, desired, ⟨status, confirmed, condition⟩, starts⟩ :=
    cycleStarts_of_built (u := u) (granted := granted) tried rfl rfl rfl made
  have cycle : SignsKept told (startCycle g told) := (signKept_startCycle told g (h := g + 1) (by omega)).toSignsKept
  have all : SignsKept s (startCycle g told) :=
    ((signsKept_withSign s g r).trans kept.toSignsKept).trans cycle
  rw [run]
  refine ⟨x, made, forced, level, ?_, ?_, status, confirmed, condition, starts, fun differs => ?_⟩
  · rw [winnerSays_congr all.service all.notice, winner]
    exact winnerSays_winner s row (.built granted)
  · rw [desires, desired, winner, level]
    rfl
  · rw [winner, ← SignRec.lit_eq r] at differs ⊢
    refine cycle.handed _ ?_
    unfold told
    rw [if_neg differs]
    exact List.mem_append_right _ List.mem_cons_self

/-- What comes after leaves a published sign so. -/
theorem signPublished_later {s t u : State} {wasLit : Nat → Bool} {g : Nat} {row : SignRow} {granted : Nat}
    (h : signPublished s t wasLit g row granted) (service : SameService t u)
    (record : mapGet u.publisher.signs g = mapGet t.publisher.signs g)
    (hold : ∀ p, g ∈ t.publisher.hold p → g ∈ u.publisher.hold p) (time : u.time = t.time)
    (up : ∀ p, (u.line.port p).up = (t.line.port p).up)
    (lit : ∀ l, Instr.litNotice g l ∈ t.handed → Instr.litNotice g l ∈ u.handed)
    (notice : .signerSegmentsNotice false ∈ u.handed ↔ .signerSegmentsNotice false ∈ t.handed) :
    signPublished s u wasLit g row granted := by
  obtain ⟨r', made, forced, level, winner, desired, status, confirmed, condition, starts, told⟩ := h
  obtain ⟨mismatch, republish, either, -⟩ := starts
  have now : u.now = t.now := congrArg (· / 2) time
  refine ⟨r', record.trans made, forced, level, (winnerSays_congr service notice ..).mpr winner, desired, status,
    confirmed, condition, ⟨mismatch, republish, ?_, nofun⟩, fun differs => lit _ (told differs)⟩
  refine either.imp (fun ⟨a, b, c, d, e, reply⟩ => ⟨a, b, c, d, e, ?_⟩) fun ⟨a, b, c, d, e, f, mem, on⟩ =>
    ⟨a, b, c, d, e, f, hold _ mem, (up _).trans on⟩
  rw [reply, now]

theorem SignKept.published {s t u : State} {wasLit : Nat → Bool} {g : Nat} {row : SignRow} {granted : Nat}
    (k : SignKept g t u) (h : signPublished s t wasLit g row granted) : signPublished s u wasLit g row granted :=
  signPublished_later h k.service k.record k.hold k.time k.up (fun _ => k.handed _) k.notice

theorem signPublished_flushReports {s t : State} {wasLit : Nat → Bool} {g : Nat} {row : SignRow} {granted : Nat}
    (h : signPublished s t wasLit g row granted) : signPublished s (flushReports t) wasLit g row granted := by
  refine signPublished_later h (.of_publisher (flushReports_store t) (flushReports_publisher t)
      (mem_flushReports t (by simp))) (by rw [flushReports_publisher]) (fun p m => ?_)
    (later_flushReports t).time (fun p => (lineGrows_flushReports t p).1)
    (fun _ => (mem_flushReports t (by simp)).mpr) (mem_flushReports t (by simp))
  rwa [flushReports_publisher]

/-! ### All of them -/

/-- The Publisher's record with SIGNS taken into use, no sign built yet. -/
def Publisher.opened (p : Publisher) (rows : Map Bytes) : Publisher :=
  { p with signsIn := true, rows := rows, holdV := [], holdS := [] }

/-- The state in which the signs are built, before the first is published. -/
def State.signsBuilt (s : State) : State :=
  let t := ensureSigns (s.withPublisher (s.publisher.opened (s.serviceRows .signs)))
  t.withPublisher
    { t.publisher with signs := (s.serviceRows .signs).map fun e => (e.1, .built (t.grantedLevel e.1)) }

theorem buildSigns_eq (wasLit : Nat → Bool) (s : State) :
    buildSigns wasLit s = forEach (mapKeys (s.serviceRows .signs)) (publishSign wasLit) s.signsBuilt := rfl

theorem signsBuilt_publisher (s : State) :
    s.signsBuilt.publisher =
      { s.publisher.opened (s.serviceRows .signs) with
        signs := (s.serviceRows .signs).map fun e => (e.1, .built (s.signsBuilt.grantedLevel e.1)) } :=
  congrArg (fun p : Publisher =>
      { p with signs :=
          (s.serviceRows .signs).map fun e : Nat × Bytes => (e.1, SignRec.built (s.signsBuilt.grantedLevel e.1)) })
    (besideAllocator_ensureSigns (s.withPublisher (s.publisher.opened (s.serviceRows .signs)))).publisher

/-- What the building leaves of the Publisher besides signs and hold lists. -/
theorem buildSigns_keeps (wasLit : Nat → Bool) (s : State) : SignsKept s.signsBuilt (buildSigns wasLit s) := by
  rw [buildSigns_eq]
  exact forEach_keeps (P := SignsKept s.signsBuilt) (.refl _) fun i _ t kept =>
    kept.trans (signKept_publishSign wasLit t i (h := i + 1) (by omega)).toSignsKept

theorem buildSigns_builds (wasLit : Nat → Bool) (s u : State) (active : s.active .signs = true)
    (out : .signsOutOfService ∉ s.handed) (g : Nat) :
    let t := buildSigns wasLit s
    (s.reference .signs g = none → mapGet t.publisher.signs g = none) ∧
      ∀ row ∈ (s.reference .signs g).map Machine.signRow,
        signPublished u t wasLit g row ((mapGet t.allocator.granted g).getD t.allocator.requested) := by
  intro t
  have beside := besideAllocator_ensureSigns (s.withPublisher (s.publisher.opened (s.serviceRows .signs)))
  have row : mapGet (s.serviceRows .signs) g = s.reference .signs g := mapGet_serviceRows ..
  have before : mapGet s.signsBuilt.publisher.signs g =
      (s.reference .signs g).map fun _ => .built (s.signsBuilt.grantedLevel g) := by
    rw [signsBuilt_publisher, ← row]
    exact mapGet_map_values (s.serviceRows .signs) (fun e => SignRec.built (s.signsBuilt.grantedLevel e.1)) g
  have level : (mapGet t.allocator.granted g).getD t.allocator.requested = s.signsBuilt.grantedLevel g := by
    rw [State.grantedLevel, (buildSigns_keeps wasLit s).allocator]
  constructor
  · intro absent
    have kept : SignKept g s.signsBuilt t := by
      refine forEach_keeps (P := SignKept g s.signsBuilt) (.refl ..) fun i mem t kept => kept.trans ?_
      refine signKept_publishSign wasLit t i fun same => ?_
      obtain ⟨x, found⟩ := (mem_mapKeys (mapSorted_serviceRows ..)).mp mem
      rw [← same, row, absent] at found
      cases found
    rw [kept.record, before, absent]
    rfl
  · intro row' present
    obtain ⟨bytes, found, rfl⟩ := Option.map_eq_some_iff.mp present
    rw [found] at row before
    have serves : s.signsBuilt.serves .signs .signsOutOfService = true := by
      refine (State.serves_iff ..).mpr ⟨?_, fun m => out ((beside.handed _ (by simp) (by simp) (by simp)).mp m)⟩
      rw [State.active, State.region, show s.signsBuilt.store = s.store from beside.store]
      exact active
    have there : s.signsBuilt.signRow g = some (Machine.signRow bytes) := by
      rw [State.signRow, serves, signsBuilt_publisher]
      exact congrArg (Option.map Machine.signRow) row
    rw [level]
    obtain ⟨v, earlier, later⟩ := forEach_at (K := SignKept g) (.refl g) .trans (f := publishSign wasLit)
      (i := g) (l := mapKeys (s.serviceRows .signs)) (nodup_mapKeys (mapSorted_serviceRows ..))
      ((mem_mapKeys (mapSorted_serviceRows ..)).mpr ⟨_, row⟩)
      (fun j _ other t => signKept_publishSign wasLit t j fun e => other e.symm) s.signsBuilt
    refine later.published (publishSign_publishes v u wasLit ((earlier.service.signRow g).trans there) ?_)
    rw [earlier.service.sign earlier.record]
    exact State.sign_eq_some.mpr ⟨by rw [there]; rfl, before⟩

end Sys2Proof.Machine
end

section
/-!
OBLIGATION. SIGNS in and out of service and the Sign Publisher's restart (R166, R167).
-/

namespace Sys2Proof.Machine

/-- The signs built and the reports of the event sent. -/
theorem builtAndPublished_flushReports {s x : State} (wasLit : Nat → Bool) (store : x.store = s.store)
    (active : s.active .signs = true) (out : .signsOutOfService ∉ x.handed) :
    builtAndPublished s (flushReports (buildSigns wasLit x)) wasLit := by
  have active' : x.active .signs = true := by rwa [State.active, State.region, store]
  have reference : x.reference .signs = s.reference .signs := by
    funext i
    rw [State.reference, State.reference, State.active, State.active, State.region, State.region, store]
  intro g _
  obtain ⟨absent, present⟩ := buildSigns_builds wasLit x s active' out g
  rw [reference] at absent present
  rw [flushReports_publisher, flushReports_allocator]
  exact ⟨absent, fun row found => by
    obtain ⟨r', made, rest⟩ := signPublished_flushReports (present row found)
    rw [flushReports_publisher] at made
    exact ⟨r', made, rest⟩⟩

/-! ### SIGNS goes -/

/-- The Publisher's record with SIGNS out of use. -/
def Publisher.closed (p : Publisher) : Publisher :=
  { p with signsIn := false, rows := [], signs := [], holdV := [], holdS := [] }

/-- SIGNS goes by whether a sweep runs. -/
theorem signsLeave_eq (s : State) :
    signsLeave s = (s.publisher.sweep.map fun w => sweepStop w noTable (s.withPublisher s.publisher.closed)).getD
      (s.withPublisher s.publisher.closed) := by
  change (match s.publisher.sweep with
    | none => s.withPublisher s.publisher.closed
    | some w => sweepStop w noTable (s.withPublisher s.publisher.closed)) = _
  cases s.publisher.sweep <;> rfl

theorem signsLeave_of_still {s : State} (still : s.publisher.sweep = none) :
    signsLeave s = s.withPublisher s.publisher.closed := by
  rw [signsLeave_eq, still]
  rfl

theorem signsLeave_of_sweep {s : State} {w : Sweep} (runs : s.publisher.sweep = some w) :
    signsLeave s = sweepStop w noTable (s.withPublisher s.publisher.closed) := by
  rw [signsLeave_eq, runs]
  rfl

theorem signsOutOfService_leaves {s : State} (steady : s.steady) :
    completes .signsOutOfService s (fun t =>
      t.publisher = { s.publisher with
        signsIn := false, rows := [], signs := [], holdV := [], holdS := [], sweep := none } ∧
      (s.publisher.sweep = none → t.line = s.line ∧ t.handed = (s.took .signsOutOfService).handed) ∧
      ∀ w ∈ s.publisher.sweep, s.room 1 → addedV s t [s.replyFrame 0x39 w.tag stoppedResult
        (byteOf w.position ++ byteOf (w.signs.length - w.position) ++ [noTable])]) := by
  cases sweep : s.publisher.sweep with
  | none =>
    refine ⟨_, taken_eq (effect := signsLeave) steady (signsLeave_of_still sweep) steady.2, ?_, fun _ => ⟨rfl, rfl⟩,
      nofun⟩
    change s.publisher.closed = { s.publisher.closed with sweep := none }
    rw [← sweep]
    rfl
  | some w =>
    let stopped := ((s.took .signsOutOfService).withPublisher s.publisher.closed).withSweep none
    refine ⟨_, taken_eq (effect := signsLeave) steady (signsLeave_of_sweep (s := s.took _) sweep)
      ((reply_reports stopped ..).trans steady.2), ?_, nofun, fun x found room => ?_⟩
    · exact lineTouched_publisher (lineTouched_reply stopped ..)
    · cases found
      have queued := reply_of_room (s := stopped) (n := 0) room 0x39 w.tag stoppedResult
        (byteOf w.position ++ byteOf (w.signs.length - w.position) ++ [noTable])
      exact congrArg (fun u : State => u.line.portV.localQ) queued

/-! ### The restart -/

theorem took_segment {s : State} {c : Instr} (other : c ≠ .segmentsOutOfService) (g : Nat) :
    (s.took c).segment g = s.segment g := by
  have serves : (s.took c).serves .segments .segmentsOutOfService = s.serves .segments .segmentsOutOfService := by
    rw [Bool.eq_iff_iff, State.serves_iff, State.serves_iff]
    exact and_congr_right fun _ => not_congr (List.mem_erase_of_ne other.symm)
  rw [State.segment, State.segment, State.segmentRow, State.segmentRow, serves]
  rfl

/-- The state with the view read afresh and nothing else of the Publisher's. -/
def State.viewed (s : State) : State :=
  let t := s.withPublisher
    { started := s.publisher.started, signsIn := false, rows := [], segmentView := [], pathView := s.readPaths
      signs := [], holdV := [], holdS := [], sweep := none }
  readView (t.active .segments) t

theorem publisherRestarts_eq (s : State) :
    publisherRestarts s = if s.active .signs then buildSigns s.signIsLit s.viewed else s.viewed := rfl

/-- A restart leaves the requests that wait as they are: no part of it reads them. -/
theorem publisherRestarts_waiting (s : State) : (publisherRestarts s).waiting = s.waiting := by
  have same : publisherRestarts s = (publisherRestarts s).withWaiting s.waiting :=
    withWaiting_rebuildSigns s s.waiting s.publisher.started s.signIsLit
  rw [same]
  rfl

theorem viewed_segmentView (s : State) (n : Nat) :
    mapGet s.viewed.publisher.segmentView n =
      if (s.reference .segments n).isSome = true then some (s.readSegment n) else none := by
  change mapGet (if s.active .segments then (s.serviceRows .segments).map fun e => (e.1, s.readSegment e.1) else []) n
    = _
  cases active : s.active .segments with
  | false =>
    rw [State.reference, active]
    rfl
  | true =>
    rw [if_pos rfl, mapGet_map_values (s.serviceRows .segments) (fun e => s.readSegment e.1) n, mapGet_serviceRows]
    cases s.reference .segments n <;> rfl

theorem viewed_pathView (s : State) (p : Nat) :
    mapGet s.viewed.publisher.pathView p = (mapGet s.monitor.paths p).map fun r =>
      { warning := r.warning, mask := (((mapGet s.monitor.rows p).map Machine.pathRow).map PathRow.mask).getD 0 } :=
  mapGet_map_values s.monitor.paths (fun e => PathView.mk e.2.warning (s.pathMask e.1)) p

/-- What the restart makes of the view, the sweep and the start. -/
theorem publisherRestarts_view (s : State) :
    (publisherRestarts s).publisher.sweep = none ∧
      (publisherRestarts s).publisher.started = s.publisher.started ∧
      (publisherRestarts s).publisher.segmentView = s.viewed.publisher.segmentView ∧
      (publisherRestarts s).publisher.pathView = s.viewed.publisher.pathView := by
  rw [publisherRestarts_eq]
  split
  · have kept := buildSigns_keeps s.signIsLit s.viewed
    rw [kept.sweep, kept.started, kept.service.segmentView, kept.service.pathView, signsBuilt_publisher]
    exact ⟨rfl, rfl, rfl, rfl⟩
  · exact ⟨rfl, rfl, rfl, rfl⟩

theorem took_signIsLit (s : State) (g : Nat) :
    (s.took .signPublisherRestart).signIsLit g = (s.sign g).any fun r => decide (r.winner.face ≠ 0) := by
  rw [State.signIsLit, (sameService_took s (c := .signPublisherRestart) (by simp)).sign rfl]
  congr 1
  exact funext SignRec.lit_eq

theorem took_readSegment (s : State) (n : Nat) : (s.took .signPublisherRestart).readSegment n = s.readSegment n := by
  rw [State.readSegment, State.readSegment, took_segment (by simp), State.readGrade, State.readGrade,
    took_gradeRecord (by simp)]

theorem signPublisherRestart_rebuilds {s : State} (steady : s.steady) :
    completes .signPublisherRestart s (fun t =>
      t.publisher.sweep = none ∧ t.publisher.started = s.publisher.started ∧ t.waiting = s.waiting ∧
      (s.active .signs = true → .signsOutOfService ∉ s.handed →
        builtAndPublished s t fun g => (s.sign g).any fun r => decide (r.winner.face ≠ 0)) ∧
      (s.active .signs = false → t.publisher.signs = [] ∧ t.publisher.holdV = [] ∧ t.publisher.holdS = []) ∧
      (∀ n, n < 8 → mapGet t.publisher.segmentView n =
        if (s.reference .segments n).isSome = true then some (s.readSegment n)
        else none) ∧
      ∀ p, p < 16 → mapGet t.publisher.pathView p = (mapGet s.monitor.paths p).map fun r =>
        { warning := r.warning
          mask := (((mapGet s.monitor.rows p).map Machine.pathRow).map PathRow.mask).getD 0 }) := by
  obtain ⟨sweep, started, segmentView, pathView⟩ := publisherRestarts_view (s.took .signPublisherRestart)
  refine ⟨_, taken_of_steady (effect := publisherRestarts) steady, ?_⟩
  beta_reduce
  rw [flushReports_publisher, flushReports_waiting]
  refine ⟨sweep, started, publisherRestarts_waiting _, fun active out => ?_, fun inactive => ?_, fun n _ => ?_,
    fun p _ => ?_⟩
  · have lit : (s.took .signPublisherRestart).signIsLit =
        fun g => (s.sign g).any fun r => decide (r.winner.face ≠ 0) := funext (took_signIsLit s)
    rw [publisherRestarts_eq, if_pos (show (s.took _).active .signs = true from active), lit]
    exact builtAndPublished_flushReports _ rfl active fun m => out (List.mem_of_mem_erase m)
  · rw [publisherRestarts_eq, if_neg (fun h : (s.took _).active .signs = true => absurd (inactive.symm.trans h) nofun)]
    exact ⟨rfl, rfl, rfl⟩
  · rw [segmentView, viewed_segmentView, took_readSegment]
    rfl
  · rw [pathView, viewed_pathView]
    rfl

/-- Settles O59: each sign's building is the winner's decision and the start of a cycle, which no later sign's building
touches. -/
theorem signsComeAndGo : Obligations.SignsComeAndGo := by
  intro s steady _
  refine ⟨fun inactive => ?_, fun active out => ?_, signsOutOfService_leaves steady,
    signPublisherRestart_rebuilds steady⟩
  · refine taken_eq (effect := signsEnter) steady ?_ steady.2
    rw [signsEnter, if_neg fun h : (s.took _).active .signs = true => absurd (inactive.symm.trans h) nofun]
  · have kept := buildSigns_keeps (fun _ => false) (s.took .signsIntoService)
    have run : signsEnter (s.took .signsIntoService) = buildSigns (fun _ => false) (s.took .signsIntoService) :=
      if_pos (show (s.took _).active .signs = true from active)
    refine ⟨_, taken_of_steady (effect := signsEnter) steady, ?_⟩
    beta_reduce
    rw [run, flushReports_publisher, kept.service.signsIn, kept.service.segmentView, kept.service.pathView, kept.sweep,
      signsBuilt_publisher]
    exact ⟨rfl, rfl, rfl, rfl,
      builtAndPublished_flushReports _ rfl active fun m => out (List.mem_of_mem_erase m)⟩

end Sys2Proof.Machine
end

section
/-!
SUPPORT. Windows, due claims and the time parameter of a segment, as the statements say them (R109, R111).
-/

namespace Sys2Proof.Machine

/-! ### Windows -/

/-- What is found first in a rising list lies at or before all that could be found. -/
theorem find_first_le {l : List Int} {p : Int → Bool} {d : Int} (rising : l.Pairwise (· ≤ ·)) (mem : d ∈ l)
    (holds : p d = true) : ∃ x, l.find? p = some x ∧ x ≤ d := by
  induction l with
  | nil => cases mem
  | cons a l ih =>
    obtain ⟨first, rest⟩ := List.pairwise_cons.mp rising
    cases here : p a with
    | true =>
      refine ⟨a, by rw [List.find?_cons, here], ?_⟩
      rcases List.mem_cons.mp mem with rfl | later
      · exact le_refl _
      · exact first d later
    | false =>
      rcases List.mem_cons.mp mem with rfl | later
      · rw [holds] at here
        cases here
      · rw [List.find?_cons, here]
        exact ih rest later

theorem windowStart_le {row : ScheduleRow} {a b : Int} (h : a ≤ b) : windowStart row a ≤ windowStart row b := by
  unfold windowStart
  omega

section
variable {row : ScheduleRow} {lead : Nat} {c : Clock}

theorem windowHolds_iff (day : Int) :
    windowHolds row lead c day = true ↔ ∃ d : Nat, day = d ∧ windowAt row lead c d := by
  have iff : windowHolds row lead c day = true ↔
      0 ≤ day ∧ day ≤ 65535 ∧ (row.firstDay : Int) ≤ day ∧ day ≤ row.lastDay ∧
        maskHas row.weekdays (day % 7).toNat = true ∧ windowStart row day - lead ≤ c.instant ∧
        c.instant < windowEnd row day := by
    simp only [windowHolds, windowOn, Bool.and_eq_true, decide_eq_true_iff, and_assoc]
  rw [iff]
  unfold windowAt windowStart windowEnd Clock.instant
  constructor
  · rintro ⟨low, high, first, last, weekday, starts, ends⟩
    lift day to Nat using low
    refine ⟨day, rfl, by omega, by omega, by omega, ?_, by omega, ?_⟩
    · rwa [show ((day : Int) % 7).toNat = day % 7 by omega] at weekday
    · split at ends <;> split <;> omega
  · rintro ⟨d, rfl, high, first, last, weekday, starts, ends⟩
    refine ⟨by omega, by omega, by omega, by omega, ?_, by omega, ?_⟩
    · rwa [show ((d : Int) % 7).toNat = d % 7 by omega]
    · split at ends <;> split <;> omega

variable (start : row.start ≤ 86399) (finish : row.finish ≤ 86399) (short : lead ≤ 1800) (second : c.second ≤ 86399)
include start finish short second

/-- Only a window of the day before, the day and the day after can hold. -/
theorem windowAt_near {d : Nat} (h : windowAt row lead c d) : c.day ≤ d + 1 ∧ d ≤ c.day + 1 := by
  obtain ⟨-, -, -, -, starts, ends⟩ := h
  split at ends <;> omega

/-- The current window is the earliest that holds. -/
theorem currentWindow_spec :
    (∀ w ∈ currentWindow row lead c, ∃ d : Nat, windowAt row lead c d ∧ w = windowStart row d) ∧
      ∀ d : Nat, windowAt row lead c d → ∃ w ∈ currentWindow row lead c, w ≤ windowStart row d := by
  unfold currentWindow
  constructor
  · intro w found
    obtain ⟨day, first, rfl⟩ := Option.map_eq_some_iff.mp found
    obtain ⟨d, rfl, holds⟩ := (windowHolds_iff day).mp (List.find?_some first)
    exact ⟨d, holds, rfl⟩
  · intro d holds
    obtain ⟨low, high⟩ := windowAt_near start finish short second holds
    have held : windowHolds row lead c d = true := (windowHolds_iff _).mpr ⟨d, rfl, holds⟩
    have days : (d : Int) ∈ [(c.day : Int) - 1, (c.day : Int), (c.day : Int) + 1] := by
      simp only [List.mem_cons, List.not_mem_nil, or_false]
      omega
    have rising : [(c.day : Int) - 1, (c.day : Int), (c.day : Int) + 1].Pairwise (· ≤ ·) := by
      simp only [List.pairwise_cons, List.mem_cons, List.not_mem_nil, or_false, forall_eq_or_imp, forall_eq,
        List.Pairwise.nil, and_true, false_implies, implies_true]
      omega
    obtain ⟨day, first, le⟩ := find_first_le rising days held
    exact ⟨windowStart row day, Option.map_eq_some_iff.mpr ⟨day, first, rfl⟩, windowStart_le le⟩

end

/-- A claim is due while a window holds. -/
theorem claimDue_iff {row : ScheduleRow} {lead : Nat} {clock : Option Clock} (start : row.start ≤ 86399)
    (finish : row.finish ≤ 86399) (short : lead ≤ 1800) (second : ∀ c ∈ clock, c.second ≤ 86399) :
    claimDue row lead clock = true ↔ windowDue row lead clock := by
  unfold claimDue windowDue
  cases clock with
  | none => simp
  | some c =>
    obtain ⟨given, all⟩ := currentWindow_spec start finish short (second c rfl)
    simp only [Option.any_some, Option.isSome_iff_exists, Option.mem_def, Option.some.injEq, exists_eq_left']
    constructor
    · rintro ⟨w, found⟩
      obtain ⟨d, holds, -⟩ := given w found
      exact ⟨d, holds⟩
    · rintro ⟨d, holds⟩
      obtain ⟨w, found, -⟩ := all d holds
      exact ⟨w, found⟩

/-! ### The earliest of several -/

theorem earlier_spec (a b : Option Int) :
    (∀ w ∈ earlier a b, w ∈ a ∨ w ∈ b) ∧ ∀ x, x ∈ a ∨ x ∈ b → ∃ w ∈ earlier a b, w ≤ x := by
  rcases a with _ | a
  · exact ⟨fun w h => .inr h, fun x h => ⟨x, h.resolve_left nofun, le_refl x⟩⟩
  · rcases b with _ | b
    · exact ⟨fun w h => .inl h, fun x h => ⟨x, h.resolve_right nofun, le_refl x⟩⟩
    · refine ⟨fun w h => ?_, fun x h => ⟨min a b, rfl, ?_⟩⟩
      · cases h
        rcases min_choice a b with e | e <;> rw [e]
        · exact .inl rfl
        · exact .inr rfl
      · rcases h with h | h <;> cases h
        · exact min_le_left ..
        · exact min_le_right ..

/-- The least of the times found in a list, and of one before. -/
theorem earlier_fold {α : Type} (f : α → Option Int) (l : List α) (acc : Option Int) :
    (∀ w ∈ l.foldl (fun a e => earlier a (f e)) acc, w ∈ acc ∨ ∃ e ∈ l, w ∈ f e) ∧
      (∀ x ∈ acc, ∃ w ∈ l.foldl (fun a e => earlier a (f e)) acc, w ≤ x) ∧
      ∀ e ∈ l, ∀ x ∈ f e, ∃ w ∈ l.foldl (fun a e => earlier a (f e)) acc, w ≤ x := by
  induction l generalizing acc with
  | nil => exact ⟨fun w h => .inl h, fun x h => ⟨x, h, le_refl x⟩, nofun⟩
  | cons e l ih =>
    obtain ⟨given, first, rest⟩ := ih (earlier acc (f e))
    obtain ⟨either, least⟩ := earlier_spec acc (f e)
    have below : ∀ x, x ∈ acc ∨ x ∈ f e →
        ∃ w ∈ l.foldl (fun a e => earlier a (f e)) (earlier acc (f e)), w ≤ x := by
      intro x found
      obtain ⟨w, there, le⟩ := least x found
      obtain ⟨v, last, le'⟩ := first w there
      exact ⟨v, last, le'.trans le⟩
    refine ⟨fun w found => ?_, fun x found => below x (.inl found), fun d mem x found => ?_⟩
    · rcases given w found with there | ⟨d, mem, there⟩
      · exact (either w there).imp_right fun h => ⟨e, List.mem_cons_self, h⟩
      · exact .inr ⟨d, List.mem_cons_of_mem _ mem, there⟩
    · rcases List.mem_cons.mp mem with rfl | mem
      · exact below x (.inr found)
      · exact rest d mem x found

/-- The start of a window as a minute of its day. -/
theorem minute_of_windowStart {row other : ScheduleRow} {d x : Nat} (start : row.start ≤ 86399)
    (least : 86400 * d + row.start ≤ 86400 * x + other.start) (le : windowStart other x ≤ windowStart row d) :
    (windowStart other x % 86400 / 60).toNat = row.start / 60 := by
  unfold windowStart at le ⊢
  omega

/-! ### The time parameter -/

/-- A parameter that is the computed one is the one that R109 gives. `lead` tells the same remaining time. -/
theorem parameterSays_of_computed {s t : State} {row : SegmentRow} {r r' : SegmentRec}
    (clock : t.sequencer.clock = s.sequencer.clock) (rows : t.scheduleRow = s.scheduleRow) (now : t.now = s.now)
    (sorted : mapSorted r.claims = true)
    (few : ∀ e ∈ r.claims, e.1 ≤ 50) (computed : r.parameter = s.parameterOf row r) (claims : r'.claims = r.claims)
    (parameter : r'.parameter = r.parameter)
    (lead : (r'.lead.map fun e => e - t.now).getD 0 = (r.lead.map fun e => e - t.now).getD 0) :
    parameterSays t row r' := by
  unfold parameterSays
  rw [lead, clock, rows, now, claims, parameter, computed]
  unfold State.parameterOf
  refine ⟨fun unset => by rw [unset]; rfl, fun c set => ?_⟩
  rw [set]
  dsimp only
  have all : (r.claims.all fun e => decide (sourceSchedule0 ≤ e.1)) = true ↔ ∀ e ∈ r.claims, 19 ≤ e.1 := by
    simp only [List.all_eq_true, decide_eq_true_iff]
    exact Iff.rfl
  refine ⟨fun mixed => ?_, fun scheduled short second valid i low claimed own found d holds least => ?_⟩
  · rw [if_neg fun h => mixed (all.mp h)]
    rfl
  · rw [if_pos (all.mpr scheduled)]
    obtain ⟨given, -, below⟩ := earlier_fold (fun e : Nat × Claim => (s.scheduleRow (e.1 - sourceSchedule0)).bind
      fun row' => currentWindow row' row.normalLead c) r.claims none
    obtain ⟨x, claimed⟩ := Option.isSome_iff_exists.mp claimed
    obtain ⟨start, finish⟩ := valid i low own found
    obtain ⟨w, current, le⟩ := (currentWindow_spec start finish short second).2 d holds
    have index : 19 + i - sourceSchedule0 = i := Nat.add_sub_cancel_left ..
    obtain ⟨v, earliest, le'⟩ := below _ (mem_of_mapGet claimed) w (by
      simp only [index]
      rw [found]
      exact current)
    rw [State.earliestWindow, earliest]
    obtain ⟨e, mem, there⟩ := (given v earliest).resolve_left nofun
    obtain ⟨other, otherRow, current'⟩ := Option.bind_eq_some_iff.mp there
    have range := few e mem
    have index' : 19 + (e.1 - 19) = e.1 := Nat.add_sub_cancel' (scheduled e mem)
    have low' : e.1 - 19 < 32 := by omega
    obtain ⟨start', finish'⟩ := valid (e.1 - 19) low' other otherRow
    obtain ⟨x', holds', rfl⟩ := (currentWindow_spec start' finish' short second).1 v current'
    have bound := least (e.1 - 19) low' (by rw [index', mapGet_of_mem sorted mem]; rfl) other otherRow x' holds'
    exact congrArg (BitVec.ofNat 16) (minute_of_windowStart start bound (le'.trans le))

end Sys2Proof.Machine
end

section
/-!
SUPPORT. The Closure Sequencer's operations: what each leaves of the state and of the other segments, and the record
that each leaves of its own (R102 to R108).
-/

namespace Sys2Proof.Machine

/-! ### What is left -/

/-- An event that the Closure Sequencer's operations and the reports that follow them hand on. -/
def fromSequencer : Instr → Bool
  | .orderEvent _ _ => true
  | .segmentNotice _ _ _ => true
  | .urgencyNotice _ _ => true
  | .spaceSignal _ => true
  | _ => false

/-- Nothing is changed but the segment records, the withheld orders, the line and what the Sequencer hands on. -/
structure SequencerKept (s t : State) : Prop where
  store : t.store = s.store
  time : t.time = s.time
  grader : t.grader = s.grader
  monitor : t.monitor = s.monitor
  drives : t.drives = s.drives
  publisher : t.publisher = s.publisher
  rest : t.sequencer =
    { s.sequencer with segments := t.sequencer.segments, withheld := t.sequencer.withheld }
  handed : ∀ e ∈ s.handed, e ∈ t.handed
  other : ∀ e : Instr, fromSequencer e = false → (e ∈ t.handed ↔ e ∈ s.handed)

namespace SequencerKept
variable {s t u : State}

theorem refl (s : State) : SequencerKept s s :=
  ⟨rfl, rfl, rfl, rfl, rfl, rfl, rfl, fun _ => id, fun _ _ => .rfl⟩

theorem trans (h : SequencerKept s t) (k : SequencerKept t u) : SequencerKept s u where
  store := k.store.trans h.store
  time := k.time.trans h.time
  grader := k.grader.trans h.grader
  monitor := k.monitor.trans h.monitor
  drives := k.drives.trans h.drives
  publisher := k.publisher.trans h.publisher
  rest := by rw [k.rest, h.rest]
  handed e m := k.handed e (h.handed e m)
  other e n := (k.other e n).trans (h.other e n)

theorem now (h : SequencerKept s t) : t.now = s.now := congrArg (· / 2) h.time

theorem clock (h : SequencerKept s t) : t.sequencer.clock = s.sequencer.clock := by rw [h.rest]

theorem active (h : SequencerKept s t) (r : Region) : t.active r = s.active r := by
  rw [State.active, State.active, State.region, State.region, h.store]

theorem reference (h : SequencerKept s t) (r : Region) : t.reference r = s.reference r := by
  funext i
  rw [State.reference, State.reference, h.active, State.region, State.region, h.store]

theorem serves (h : SequencerKept s t) (r : Region) {out : Instr} (own : fromSequencer out = false) :
    t.serves r out = s.serves r out := by
  rw [Bool.eq_iff_iff, State.serves_iff, State.serves_iff, h.active, h.other out own]

theorem segmentRow (h : SequencerKept s t) : t.segmentRow = s.segmentRow := by
  funext g
  rw [State.segmentRow, State.segmentRow, h.serves .segments rfl, h.rest]

theorem scheduleRow (h : SequencerKept s t) : t.scheduleRow = s.scheduleRow := by
  funext e
  rw [State.scheduleRow, State.scheduleRow, h.rest]

theorem configuredGates (h : SequencerKept s t) : t.configuredGates = s.configuredGates := by
  funext g
  simp only [State.configuredGates, State.sequencerGateRow]
  rw [h.rest]

theorem gateState (h : SequencerKept s t) : t.gateState = s.gateState := by
  funext k
  rw [State.gateState, State.gateState, h.drives]

theorem allGates (h : SequencerKept s t) : t.allGates = s.allGates := by
  funext g st
  rw [State.allGates, State.allGates, h.configuredGates, h.gateState]

theorem gateFaultOf (h : SequencerKept s t) : t.gateFaultOf = s.gateFaultOf := by
  funext g
  rw [State.gateFaultOf, State.gateFaultOf, h.configuredGates, h.gateState]

theorem sign (h : SequencerKept s t) : t.sign = s.sign := by
  funext g
  rw [State.sign, State.sign, State.signRow, State.signRow, h.serves .signs rfl, h.publisher]

theorem parameterOf (h : SequencerKept s t) : t.parameterOf = s.parameterOf := by
  funext row r
  simp only [State.parameterOf, State.earliestWindow, h.clock, h.scheduleRow, State.remaining, h.now]

theorem gatesOrdered (h : SequencerKept s t) {x : State} {g : Nat} {o : GateOrder} (k : Machine.gatesOrdered x s g o) :
    Machine.gatesOrdered x t g o := fun i m => h.handed _ (k i m)

theorem segment (h : SequencerKept s t) {g : Nat}
    (same : mapGet t.sequencer.segments g = mapGet s.sequencer.segments g) :
    t.segment g = s.segment g := by
  rw [State.segment, State.segment, h.segmentRow, same]

theorem segment_eq_some (h : SequencerKept s t) {g : Nat} {row : SegmentRow} {r : SegmentRec}
    (present : s.segmentRow g = some row) (stored : mapGet t.sequencer.segments g = some r) : t.segment g = some r := by
  rw [State.segment, h.segmentRow, present]
  exact stored

end SequencerKept

theorem State.segment_eq_some {s : State} {g : Nat} {r : SegmentRec} :
    s.segment g = some r ↔ (s.segmentRow g).isSome = true ∧ mapGet s.sequencer.segments g = some r := by
  unfold State.segment
  split <;> simp_all

/-- The records of the other segments are kept too. -/
structure OnlySegment (g : Nat) (s t : State) : Prop extends SequencerKept s t where
  others : ∀ h, h ≠ g → mapGet t.sequencer.segments h = mapGet s.sequencer.segments h

theorem OnlySegment.refl (g : Nat) (s : State) : OnlySegment g s s := ⟨.refl s, fun _ _ => rfl⟩

theorem OnlySegment.trans {g : Nat} {s t u : State} (h : OnlySegment g s t) (k : OnlySegment g t u) :
    OnlySegment g s u := ⟨h.toSequencerKept.trans k.toSequencerKept, fun i n => (k.others i n).trans (h.others i n)⟩

/-- What the operations of other segments leave of a segment. -/
structure SegmentKept (g : Nat) (s t : State) : Prop extends SequencerKept s t where
  record : mapGet t.sequencer.segments g = mapGet s.sequencer.segments g

theorem SegmentKept.refl (g : Nat) (s : State) : SegmentKept g s s := ⟨.refl s, rfl⟩

theorem SegmentKept.trans {g : Nat} {s t u : State} (h : SegmentKept g s t) (k : SegmentKept g t u) :
    SegmentKept g s u := ⟨h.toSequencerKept.trans k.toSequencerKept, k.record.trans h.record⟩

theorem OnlySegment.beside {g h : Nat} {s t : State} (k : OnlySegment h s t) (other : g ≠ h) : SegmentKept g s t :=
  ⟨k.toSequencerKept, k.others g other⟩

theorem SegmentKept.same {g : Nat} {s t : State} (k : SegmentKept g s t) : t.segment g = s.segment g :=
  k.segment k.record

section
variable {g : Nat} {s t : State} (h : OnlySegment g s t)
include h

theorem onlySegment_withSegment (r : SegmentRec) : OnlySegment g s (t.withSegment g r) :=
  h.trans ⟨⟨rfl, rfl, rfl, rfl, rfl, rfl, rfl, fun _ => id, fun _ _ => .rfl⟩,
    fun _ n => State.get_withSegment_of_ne t r n⟩

theorem onlySegment_handAll {l : List Instr} (own : ∀ e ∈ l, fromSequencer e = true) :
    OnlySegment g s (t.handAll l) := by
  refine h.trans ⟨⟨rfl, rfl, rfl, rfl, rfl, rfl, rfl, fun _ m => List.mem_append_left _ m, fun e n => ?_⟩,
    fun _ _ => rfl⟩
  change e ∈ t.handed ++ l ↔ _
  rw [List.mem_append, or_iff_left]
  intro m
  rw [own e m] at n
  cases n

theorem onlySegment_hand {c : Instr} (own : fromSequencer c = true) : OnlySegment g s (t.hand c) :=
  onlySegment_handAll h (l := [c]) fun e m => by rwa [List.mem_singleton.mp m]

theorem onlySegment_orders (l : List Nat) (o : GateOrder) :
    OnlySegment g s (t.handAll (l.map fun k => .orderEvent k o)) :=
  onlySegment_handAll h fun e m => by
    obtain ⟨k, -, rfl⟩ := List.mem_map.mp m
    rfl

theorem onlySegment_report (kind : Byte) (data : Bytes) : OnlySegment g s (t.report kind data) :=
  h.trans ⟨⟨rfl, rfl, rfl, rfl, rfl, rfl, rfl, fun _ => id, fun _ _ => .rfl⟩, fun _ _ => rfl⟩

theorem onlySegment_filtered (p : Nat → Bool) :
    OnlySegment g s (t.withSequencer { t.sequencer with withheld := t.sequencer.withheld.filter p }) :=
  h.trans ⟨⟨rfl, rfl, rfl, rfl, rfl, rfl, rfl, fun _ => id, fun _ _ => .rfl⟩, fun _ _ => rfl⟩

theorem onlySegment_refreshParameter : OnlySegment g s (refreshParameter g t) := by
  unfold refreshParameter
  split
  · split
    · exact onlySegment_hand (onlySegment_withSegment h _) rfl
    · exact h
  · exact h

theorem onlySegment_enterState (r : SegmentRec) (st : ClosureState) : OnlySegment g s (enterState g r st t) := by
  have ordered := onlySegment_orders (onlySegment_withSegment h { r with state := st }) (t.orderedGates g r.state st)
    (orderOf st)
  unfold enterState
  dsimp only
  split
  · exact onlySegment_hand (onlySegment_filtered ordered _) rfl
  · exact onlySegment_hand ordered rfl

theorem onlySegment_raisedTest : OnlySegment g s (raisedTest g t) := by
  unfold raisedTest
  split
  · exact h
  · split
    · exact onlySegment_enterState h ..
    · exact h

theorem onlySegment_enterReopening (r : SegmentRec) : OnlySegment g s (enterReopening g r t) :=
  onlySegment_raisedTest (onlySegment_enterState h ..)

theorem onlySegment_reopenTest : OnlySegment g s (reopenTest g t) := by
  unfold reopenTest
  split
  · split
    · split
      · exact onlySegment_enterReopening h _
      · exact onlySegment_withSegment h _
    · exact h
  · exact h

theorem onlySegment_loweredTest : OnlySegment g s (loweredTest g t) := by
  unfold loweredTest
  split
  · exact h
  · split
    · exact onlySegment_reopenTest (onlySegment_enterState h ..)
    · exact h

theorem onlySegment_enterClosing (r : SegmentRec) : OnlySegment g s (enterClosing g r t) :=
  onlySegment_loweredTest (onlySegment_enterState h ..)

theorem onlySegment_enterNotice (row : SegmentRow) (urgent : Bool) (r : SegmentRec) :
    OnlySegment g s (enterNotice g row urgent r t) := onlySegment_enterState h ..

theorem onlySegment_claimArrives (urgent : Bool) : OnlySegment g s (claimArrives g urgent t) := by
  unfold claimArrives
  split
  · split
    · exact onlySegment_enterNotice h ..
    · split
      · exact onlySegment_enterClosing h _
      · split
        · exact onlySegment_refreshParameter (onlySegment_withSegment h _)
        · exact onlySegment_refreshParameter h
    · exact h
    · exact onlySegment_reopenTest h
    · exact onlySegment_enterClosing h _
  · exact h

theorem onlySegment_claimDeparts : OnlySegment g s (claimDeparts g t) := by
  unfold claimDeparts
  split
  · exact h
  · split
    · exact h
    · split
      · exact onlySegment_enterState h ..
      · exact onlySegment_refreshParameter h
    · split
      · exact onlySegment_enterReopening h _
      · exact h
    · exact onlySegment_reopenTest h
    · exact h

theorem onlySegment_placeClaim (source : Nat) (urgent : Bool) : OnlySegment g s (placeClaim source urgent g t) := by
  unfold placeClaim
  split
  · exact h
  · split
    · exact onlySegment_claimArrives (onlySegment_withSegment h _) urgent
    · split
      · dsimp only
        split
        · exact onlySegment_claimArrives (onlySegment_withSegment h _) true
        · exact onlySegment_refreshParameter (onlySegment_withSegment h _)
      · exact h

theorem onlySegment_removeClaims (sources : List Nat) : OnlySegment g s (removeClaims sources g t) := by
  unfold removeClaims
  split
  · exact h
  · split
    · exact onlySegment_claimDeparts (onlySegment_withSegment h _)
    · exact h

theorem onlySegment_evaluatePair (e : Nat) : OnlySegment g s (evaluatePair e g t) := by
  unfold evaluatePair
  split
  · split
    · split
      · exact onlySegment_placeClaim h ..
      · split
        · exact onlySegment_removeClaims h _
        · exact h
    · exact h
  · exact h

theorem onlySegment_orderGates (o : GateOrder) : OnlySegment g s (orderGates g o t) := onlySegment_orders h ..

theorem onlySegment_deriveOpen (r : SegmentRec) : OnlySegment g s (deriveOpen g r t) := by
  unfold deriveOpen
  split
  · exact onlySegment_enterClosing h _
  · exact onlySegment_orderGates h _

theorem onlySegment_deriveStart : OnlySegment g s (deriveStart g t) := by
  unfold deriveStart
  split
  · exact h
  · exact onlySegment_deriveOpen (onlySegment_withSegment h _) _

theorem onlySegment_deriveClaims : OnlySegment g s (deriveClaims g t) := by
  unfold deriveClaims
  split
  · refine forEach_keeps (P := OnlySegment g s) ?_ fun p _ u k => onlySegment_placeClaim k ..
    split
    · exact onlySegment_placeClaim h ..
    · exact h
  · exact h

theorem onlySegment_deriveOutcome (i : Nat) : OnlySegment g s (deriveOutcome i t) := by
  have told : ∀ u : Bool, OnlySegment g s (if u then t.hand (.urgencyNotice i true) else t) := by
    intro u
    split
    · exact onlySegment_hand h rfl
    · exact h
  unfold deriveOutcome
  split
  · exact h
  · dsimp only
    split
    · exact told _
    · exact onlySegment_report (told _) ..

theorem onlySegment_segmentOutcome (cause : SegmentCause) (before : State) (i : Nat) :
    OnlySegment g s (segmentOutcome cause before i t) := by
  unfold segmentOutcome
  split
  · next old new _ _ =>
    have told : OnlySegment g s (if old.urgent = new.urgent then t else t.hand (.urgencyNotice i new.urgent)) := by
      split
      · exact h
      · exact onlySegment_hand h rfl
    dsimp only
    split
    · exact onlySegment_report told ..
    · exact told
  · exact h

theorem onlySegment_segmentEvent (cause : SegmentCause) {f : State → State} (k : OnlySegment g t (f t)) :
    OnlySegment g s (segmentEvent cause f t) :=
  forEach_keeps (P := OnlySegment g s) (h.trans k) fun _ _ _ u => onlySegment_segmentOutcome u ..

theorem onlySegment_leadDecision : OnlySegment g s (leadDecision g t) := by
  unfold leadDecision
  split
  · split
    · dsimp only
      split
      · exact onlySegment_enterClosing h _
      · exact onlySegment_withSegment h _
    · exact h
  · exact h

theorem onlySegment_graceDecision : OnlySegment g s (graceDecision g t) := by
  unfold graceDecision
  split
  · exact h
  · split
    · exact onlySegment_enterClosing h _
    · exact h

theorem onlySegment_graceStep : OnlySegment g s (graceStep g t) :=
  onlySegment_segmentEvent h _ (onlySegment_graceDecision (.refl g t))

theorem onlySegment_leadStep : OnlySegment g s (leadStep g t) := by
  have decided := onlySegment_segmentEvent h .leadExpiry (onlySegment_leadDecision (.refl g t))
  unfold leadStep
  dsimp only
  split
  · exact onlySegment_graceStep decided
  · exact decided

theorem onlySegment_refreshGateFault : OnlySegment g s (refreshGateFault g t) := by
  unfold refreshGateFault
  split
  · exact h
  · exact onlySegment_withSegment h _

theorem onlySegment_becomeGateless : OnlySegment g s (becomeGateless g t) :=
  onlySegment_raisedTest (onlySegment_loweredTest (onlySegment_refreshGateFault h))

end

end Sys2Proof.Machine
end

section
/-!
SUPPORT. The record that each operation of the Closure Sequencer leaves of its own segment (R102, R105 to R107).
-/

namespace Sys2Proof.Machine

/-- The operation has left the record of its segment as `r`. -/
structure SegmentLeft (g : Nat) (s t : State) (r : SegmentRec) : Prop extends OnlySegment g s t where
  record : mapGet t.sequencer.segments g = some r

/-- The record entered a state or stayed in it, and the Sign Publisher has been told its state and parameter. -/
structure Entered (g : Nat) (s t : State) (r : SegmentRec) : Prop extends SegmentLeft g s t r where
  told : .segmentNotice g r.state r.parameter ∈ t.handed

theorem SegmentLeft.behind {g : Nat} {s t u : State} {r : SegmentRec} (h : OnlySegment g s t)
    (k : SegmentLeft g t u r) : SegmentLeft g s u r := ⟨h.trans k.toOnlySegment, k.record⟩

theorem SegmentLeft.segment {g : Nat} {s t : State} {r : SegmentRec} {row : SegmentRow} (h : SegmentLeft g s t r)
    (present : s.segmentRow g = some row) : t.segment g = some r := h.segment_eq_some present h.record

theorem Entered.behind {g : Nat} {s t u : State} {r : SegmentRec} (h : OnlySegment g s t) (k : Entered g t u r) :
    Entered g s u r := ⟨k.toSegmentLeft.behind h, k.told⟩

theorem segmentLeft_withSegment (s : State) (g : Nat) (r : SegmentRec) : SegmentLeft g s (s.withSegment g r) r :=
  ⟨onlySegment_withSegment (.refl g s) r, State.get_withSegment ..⟩

/-- A record changed in what the Sign Publisher is not told. -/
theorem Entered.withSegment {g : Nat} {s t : State} {r r' : SegmentRec} (h : Entered g s t r)
    (state : r'.state = r.state) (parameter : r'.parameter = r.parameter) : Entered g s (t.withSegment g r') r' :=
  ⟨⟨onlySegment_withSegment h.toOnlySegment r', State.get_withSegment ..⟩, by rw [state, parameter]; exact h.told⟩

/-- The record of a state that has been entered. -/
theorem enterState_enters (s : State) (g : Nat) (r : SegmentRec) (st : ClosureState) :
    Entered g s (enterState g r st s) { r with state := st } := by
  refine ⟨⟨onlySegment_enterState (.refl g s) r st, ?_⟩, List.mem_append_right _ List.mem_cons_self⟩
  have put := State.get_withSegment s g { r with state := st }
  unfold enterState
  dsimp only
  split <;> exact put

/-- A changed order goes to every configured gate. -/
theorem enterState_orders (s : State) (g : Nat) (r : SegmentRec) {st : ClosureState}
    (turns : orderOf r.state ≠ orderOf st) :
    gatesOrdered s (enterState g r st s) g (orderOf st) := by
  intro k mem
  have ordered : k ∈ s.orderedGates g r.state st :=
    List.mem_filter.mpr ⟨mem, Bool.or_eq_true _ _ |>.mpr (.inl (decide_eq_true turns))⟩
  have handed : Instr.orderEvent k (orderOf st) ∈ ((s.withSegment g { r with state := st }).handAll
      ((s.orderedGates g r.state st).map fun k => .orderEvent k (orderOf st))).handed :=
    List.mem_append_right _ (List.mem_map.mpr ⟨k, ordered, rfl⟩)
  refine List.mem_append_left _ ?_
  split
  · exact handed
  · exact handed

/-! ### Tests and their outcomes -/

theorem enterReopening_orders (s : State) (g : Nat) {r : SegmentRec} (turns : orderOf r.state = .lower) :
    gatesOrdered s (enterReopening g r s) g .raise := by
  have ordered := enterState_orders s g { r with blocked := false, parameter := noParameter } (st := .reopening)
    (by rw [turns]; simp [orderOf])
  exact (onlySegment_raisedTest (.refl g _)).gatesOrdered ordered

theorem enterClosing_orders (s : State) (g : Nat) {r : SegmentRec} (turns : orderOf r.state = .raise) :
    gatesOrdered s (enterClosing g r s) g .lower := by
  have ordered := enterState_orders s g
    { r with lead := none, grace := none, parameter := noParameter, blocked := false } (st := .closing)
    (by rw [turns]; simp [orderOf])
  exact (onlySegment_loweredTest (.refl g _)).gatesOrdered ordered

section
variable {s : State} {g : Nat} {r : SegmentRec} (found : s.segment g = some r)
include found

theorem raisedTest_of_raised (reopens : r.state = .reopening) (raised : s.allGates g .raised = true) :
    raisedTest g s = enterState g { r with unannounced := false, parameter := noParameter } .opened s := by
  unfold raisedTest
  rw [found]
  exact if_pos ⟨reopens, raised⟩

theorem raisedTest_of_still (still : r.state ≠ .reopening ∨ s.allGates g .raised = false) : raisedTest g s = s := by
  unfold raisedTest
  rw [found]
  refine if_neg fun h => ?_
  rcases still with n | n
  · exact n h.1
  · rw [n] at h
    cases h.2

theorem loweredTest_of_still (still : r.state ≠ .closing ∨ s.allGates g .lowered = false) : loweredTest g s = s := by
  unfold loweredTest
  rw [found]
  refine if_neg fun h => ?_
  rcases still with n | n
  · exact n h.1
  · rw [n] at h
    cases h.2

theorem loweredTest_of_lowered (closes : r.state = .closing) (lowered : s.allGates g .lowered = true) :
    loweredTest g s = reopenTest g (enterState g r .closed s) := by
  unfold loweredTest
  rw [found]
  exact if_pos ⟨closes, lowered⟩

variable {row : SegmentRow} (present : s.segmentRow g = some row)
include present

theorem reopenTest_of_open (still : r.state ≠ .closed) : reopenTest g s = s := by
  unfold reopenTest
  rw [found, present]
  exact if_neg still

theorem reopenTest_of_blocked (closed : r.state = .closed) (held : r.claims ≠ [] ∨ row.reopenLimit ≤ r.grade) :
    reopenTest g s = s.withSegment g { r with blocked := r.claims.isEmpty } := by
  unfold reopenTest
  rw [found, present]
  refine (if_pos closed).trans (if_neg fun h => ?_)
  obtain ⟨empty, low⟩ := (Bool.and_eq_true _ _).mp h
  rcases held with n | n
  · exact n (List.isEmpty_iff.mp empty)
  · exact absurd (of_decide_eq_true low) (Nat.not_lt.mpr n)

theorem reopenTest_of_free (closed : r.state = .closed) (free : r.claims = []) (low : r.grade < row.reopenLimit) :
    reopenTest g s = enterReopening g r s := by
  unfold reopenTest
  rw [found, present]
  refine (if_pos closed).trans (if_pos ?_)
  rw [free, decide_eq_true low]
  rfl

end

section
variable {s : State} {g : Nat} {row : SegmentRow} (present : s.segmentRow g = some row)
include present

/-- A record gone to REOPENING, and to OPEN at once where all its gates are RAISED. -/
def SegmentRec.reopened (r : SegmentRec) (raised : Bool) : SegmentRec :=
  { r with
    state := if raised then .opened else .reopening, blocked := false, parameter := noParameter
    unannounced := if raised then false else r.unannounced }

theorem enterReopening_enters (r : SegmentRec) :
    Entered g s (enterReopening g r s) (r.reopened (s.allGates g .raised)) := by
  have first := enterState_enters s g { r with blocked := false, parameter := noParameter } .reopening
  unfold enterReopening
  cases raised : s.allGates g .raised with
  | false =>
    rw [raisedTest_of_still (first.segment present) (.inr (by rw [first.allGates, raised]))]
    exact first
  | true =>
    rw [raisedTest_of_raised (first.segment present) rfl (by rw [first.allGates, raised])]
    exact (enterState_enters _ g _ .opened).behind first.toOnlySegment

/-- What a segment in CLOSED keeps at its test. -/
theorem reopenTest_leaves {r : SegmentRec} (found : s.segment g = some r) (closed : r.state = .closed)
    (told : .segmentNotice g r.state r.parameter ∈ s.handed) :
    ∃ r', Entered g s (reopenTest g s) r' ∧ r'.claims = r.claims ∧ r'.grade = r.grade ∧
      r'.gateFault = r.gateFault ∧ r'.lead = r.lead := by
  have here : Entered g s s r := ⟨⟨.refl g s, (State.segment_eq_some.mp found).2⟩, told⟩
  by_cases held : r.claims ≠ [] ∨ row.reopenLimit ≤ r.grade
  · rw [reopenTest_of_blocked found present closed held]
    exact ⟨_, here.withSegment (r' := { r with blocked := r.claims.isEmpty }) rfl rfl, rfl, rfl, rfl, rfl⟩
  · obtain ⟨free, low⟩ := not_or.mp held
    rw [reopenTest_of_free found present closed (not_not.mp free) (Nat.not_le.mp low)]
    exact ⟨_, enterReopening_enters present r, rfl, rfl, rfl, rfl⟩

/-- A segment in CLOSING whose gates are LOWERED keeps its claims, grade, fault flag and lead. -/
theorem loweredTest_leaves {r : SegmentRec} (found : s.segment g = some r) (closes : r.state = .closing)
    (lowered : s.allGates g .lowered = true) :
    ∃ r', Entered g s (loweredTest g s) r' ∧ r'.claims = r.claims ∧ r'.grade = r.grade ∧
      r'.gateFault = r.gateFault ∧ r'.lead = r.lead := by
  rw [loweredTest_of_lowered found closes lowered]
  have first := enterState_enters s g r .closed
  obtain ⟨r', last, kept⟩ := reopenTest_leaves (by rw [first.segmentRow]; exact present)
    (first.segment present) rfl first.told
  exact ⟨r', last.behind first.toOnlySegment, kept⟩

/-- Under claims it is CLOSED. -/
theorem loweredTest_enters {r : SegmentRec} (found : s.segment g = some r) (closes : r.state = .closing)
    (claimed : r.claims ≠ []) (lowered : s.allGates g .lowered = true) :
    Entered g s (loweredTest g s) { r with state := .closed, blocked := false } := by
  rw [loweredTest_of_lowered found closes lowered]
  have first := enterState_enters s g r .closed
  rw [reopenTest_of_blocked (first.segment present) (by rw [first.segmentRow]; exact present) rfl (.inl claimed)]
  have empty : r.claims.isEmpty = false := by simp [claimed]
  rw [show ({ r with state := .closed } : SegmentRec).claims.isEmpty = false from empty]
  exact first.withSegment rfl rfl

/-- A record gone to CLOSING, and to CLOSED at once where all its gates are LOWERED. -/
def SegmentRec.closed (r : SegmentRec) (lowered : Bool) : SegmentRec :=
  { r with
    state := if lowered then .closed else .closing, lead := none, grace := none, parameter := noParameter
    blocked := false }

theorem enterClosing_enters {r : SegmentRec} (claimed : r.claims ≠ []) :
    Entered g s (enterClosing g r s) (r.closed (s.allGates g .lowered)) := by
  have first := enterState_enters s g
    { r with lead := none, grace := none, parameter := noParameter, blocked := false } .closing
  have present' := first.segmentRow ▸ present
  unfold enterClosing
  cases lowered : s.allGates g .lowered with
  | false =>
    rw [loweredTest_of_still (first.segment present) (.inr (by rw [first.allGates, lowered]))]
    exact first
  | true =>
    exact (loweredTest_enters present' (first.segment present) rfl claimed
      (by rw [first.allGates, lowered])).behind first.toOnlySegment

end

/-- A segment that goes to CLOSING under a claim. -/
theorem enterClosing_closes (s : State) (g : Nat) {r : SegmentRec} (turns : orderOf r.state = .raise) :
    closesTo s (enterClosing g r s) g (r.closed (s.allGates g .lowered)) :=
  ⟨rfl, rfl, rfl, rfl, enterClosing_orders s g turns⟩

end Sys2Proof.Machine
end

section
/-!
SUPPORT. Events at the Closure Sequencer that act on every segment in turn: one segment's part in them, its urgency
notice, and the reports that follow.
-/

namespace Sys2Proof.Machine

theorem forEach_same {f : Nat → State → State} {l : List Nat} {s : State} (same : ∀ i ∈ l, f i s = s) :
    forEach l f s = s :=
  forEach_keeps (P := fun t => t = s) rfl fun i mem t e => by rw [e, same i mem]

/-- A segment is kept and so are the orders withheld. -/
structure SegmentWithheld (g : Nat) (s t : State) : Prop extends SegmentKept g s t where
  withheld : ∀ k ∈ s.sequencer.withheld, k ∈ t.sequencer.withheld

theorem SegmentWithheld.refl (g : Nat) (s : State) : SegmentWithheld g s s := ⟨.refl g s, fun _ h => h⟩

theorem SegmentWithheld.trans {g : Nat} {s t u : State} (h : SegmentWithheld g s t) (k : SegmentWithheld g t u) :
    SegmentWithheld g s u := ⟨h.toSegmentKept.trans k.toSegmentKept, fun i m => k.withheld i (h.withheld i m)⟩

theorem segmentWithheld_of_eq {g : Nat} {s t : State} (h : SegmentKept g s t)
    (same : t.sequencer.withheld = s.sequencer.withheld) : SegmentWithheld g s t := ⟨h, fun k m => by rwa [same]⟩

/-! ### The end of an event -/

theorem sequencerKept_flushReports (s : State) : SequencerKept s (flushReports s) where
  store := flushReports_store s
  time := flushReports_time s
  grader := flushReports_grader s
  monitor := flushReports_monitor s
  drives := flushReports_drives s
  publisher := flushReports_publisher s
  rest := by rw [flushReports_sequencer]
  handed _ m := (flushReports_handed s).subset m
  other e n := mem_flushReports s fun same => by
    rw [same] at n
    cases n

theorem segmentWithheld_flushReports (g : Nat) (s : State) : SegmentWithheld g s (flushReports s) :=
  segmentWithheld_of_eq ⟨sequencerKept_flushReports s, by rw [flushReports_sequencer]⟩ (by rw [flushReports_sequencer])

theorem segmentOutcome_sequencer (cause : SegmentCause) (before : State) (i : Nat) (s : State) :
    (segmentOutcome cause before i s).sequencer = s.sequencer := by
  unfold segmentOutcome
  split
  · dsimp only
    split <;> split <;> rfl
  · rfl

/-- The urgency notices and reports of an event leave every segment. -/
theorem segmentWithheld_segmentOutcome (cause : SegmentCause) (before : State) (i g : Nat) (s : State) :
    SegmentWithheld g s (segmentOutcome cause before i s) := by
  have only := onlySegment_segmentOutcome (OnlySegment.refl (g + 1) s) cause before i
  refine segmentWithheld_of_eq (only.beside (by omega)) ?_
  rw [segmentOutcome_sequencer]

/-- What an event's end leaves of a segment, with its urgency notice. -/
theorem segmentOutcomes_tell (cause : SegmentCause) (before : State) {g : Nat} {r r' : SegmentRec} {s : State}
    (low : g < 8) (old : before.segment g = some r) (new : s.segment g = some r') :
    SegmentWithheld g s (forEach (List.range 8) (segmentOutcome cause before) s) ∧
      (r.urgent ≠ r'.urgent →
        .urgencyNotice g r'.urgent ∈ (forEach (List.range 8) (segmentOutcome cause before) s).handed) := by
  refine ⟨forEach_keeps (P := SegmentWithheld g s) (.refl g s) fun i _ t k =>
    k.trans (segmentWithheld_segmentOutcome ..), fun turns => ?_⟩
  obtain ⟨u, first, last⟩ := forEach_at (K := SegmentWithheld g) (.refl g) .trans
    (f := segmentOutcome cause before) List.nodup_range (List.mem_range.mpr low)
    (fun j _ _ t => segmentWithheld_segmentOutcome ..) s
  refine last.handed _ ?_
  unfold segmentOutcome
  rw [old, first.same, new]
  dsimp only
  rw [if_neg turns]
  split <;> exact List.mem_append_right _ List.mem_cons_self

/-! ### An event that acts on every segment and starts no lead -/

/-- The end of an event leaves the records. -/
theorem segmentEvent_segments (cause : SegmentCause) (f : State → State) (s : State) :
    (segmentEvent cause f s).sequencer = (f s).sequencer :=
  forEach_keeps (P := fun t => t.sequencer = (f s).sequencer) rfl fun _ _ _ k =>
    (segmentOutcome_sequencer ..).trans k

section
variable {x : State} {cause : SegmentCause} {op : Nat → State → State}
  (others : ∀ i g, i ≠ g → ∀ t, SegmentWithheld g t (op i t))
include others

/-- One segment's part in an operation of all of them. -/
theorem forEach_segment {g : Nat} (low : g < 8) :
    ∃ u, SegmentWithheld g x u ∧ SegmentWithheld g (op g u) (forEach (List.range 8) op x) :=
  forEach_at (.refl g) .trans List.nodup_range (List.mem_range.mpr low) (fun j _ n t => others j g n t) x

variable (leads : ∀ g u r row, SequencerKept x u → u.segment g = some r → u.segmentRow g = some row →
    ∃ r', SegmentLeft g u (op g u) r' ∧ (r'.lead = r.lead ∨ r'.lead = none))
  (absent : ∀ g u, u.segment g = none → op g u = u)
include leads absent

theorem zeroLeads_of_none : zeroLeads x (segmentEvent cause (forEach (List.range 8) op) x) =
    segmentEvent cause (forEach (List.range 8) op) x := by
  refine forEach_same fun g mem => if_neg ?_
  obtain ⟨u, first, last⟩ := forEach_segment (x := x) others (List.mem_range.mp mem)
  let f := forEach (List.range 8) op
  have ended : SegmentWithheld g (f x) (segmentEvent cause f x) :=
    forEach_keeps (P := SegmentWithheld g (f x)) (.refl g _) fun _ _ _ k =>
      k.trans (segmentWithheld_segmentOutcome ..)
  change leadAtOnce (x.segment g) ((segmentEvent cause f x).segment g) _ ≠ true
  rw [ended.same, last.same, ← first.same]
  cases found : u.segment g with
  | none =>
    rw [absent g u found, found]
    exact nofun
  | some r =>
    obtain ⟨row, present⟩ := Option.isSome_iff_exists.mp (State.segment_eq_some.mp found).1
    obtain ⟨r', left, lead⟩ := leads g u r row first.toSequencerKept found present
    rw [left.segment present]
    unfold leadAtOnce
    rcases lead with e | e <;> cases old : r.lead <;> simp [e, old]

/-- One segment's part in such an event and in the reports that follow. -/
theorem gatesEvent_spec {g : Nat} {r : SegmentRec} {row : SegmentRow} (low : g < 8) (found : x.segment g = some r)
    (present : x.segmentRow g = some row) :
    let t := flushReports (sequencerEvent cause (forEach (List.range 8) op) x)
    ∃ u r', SegmentWithheld g x u ∧ SegmentLeft g u (op g u) r' ∧ SegmentWithheld g (op g u) t ∧
      t.segment g = some r' ∧ (r.urgent ≠ r'.urgent → .urgencyNotice g r'.urgent ∈ t.handed) := by
  intro t
  obtain ⟨u, first, last⟩ := forEach_segment (x := x) others low
  have present' : u.segmentRow g = some row := by rw [first.segmentRow]; exact present
  obtain ⟨r', left, -⟩ := leads g u r row first.toSequencerKept (first.same.trans found) present'
  have new : (forEach (List.range 8) op x).segment g = some r' := last.same.trans (left.segment present')
  obtain ⟨kept, told⟩ := segmentOutcomes_tell cause x low found new
  have ended : t = flushReports (forEach (List.range 8) (segmentOutcome cause x) (forEach (List.range 8) op x)) :=
    congrArg flushReports (zeroLeads_of_none others leads absent)
  have sent := segmentWithheld_flushReports g (forEach (List.range 8) (segmentOutcome cause x)
    (forEach (List.range 8) op x))
  rw [ended]
  exact ⟨u, r', first, left, last.trans (kept.trans sent), (sent.same.trans kept.same).trans new,
    fun turns => sent.handed _ (told turns)⟩

end

/-! ### The orders withheld -/

section
variable (s : State) (g : Nat)

theorem withheld_enterState {r : SegmentRec} {st : ClosureState} (other : r.state ≠ .notice) :
    (enterState g r st s).sequencer.withheld = s.sequencer.withheld := by
  unfold enterState
  dsimp only
  rw [if_neg other]
  rfl

theorem withheld_raisedTest : (raisedTest g s).sequencer.withheld = s.sequencer.withheld := by
  unfold raisedTest
  split
  · rfl
  · split
    · next reopens => exact withheld_enterState s g (by rw [show _ = _ from reopens.1]; exact nofun)
    · rfl

theorem withheld_enterReopening {r : SegmentRec} (other : r.state ≠ .notice) :
    (enterReopening g r s).sequencer.withheld = s.sequencer.withheld :=
  (withheld_raisedTest ..).trans (withheld_enterState s g other)

theorem withheld_reopenTest : (reopenTest g s).sequencer.withheld = s.sequencer.withheld := by
  unfold reopenTest
  split
  · split
    · next closed =>
      split
      · exact withheld_enterReopening s g (by rw [closed]; exact nofun)
      · rfl
    · rfl
  · rfl

theorem withheld_loweredTest : (loweredTest g s).sequencer.withheld = s.sequencer.withheld := by
  unfold loweredTest
  split
  · rfl
  · split
    · next closes => exact (withheld_reopenTest ..).trans (withheld_enterState s g (by rw [closes.1]; exact nofun))
    · rfl

theorem withheld_enterClosing {r : SegmentRec} (other : r.state ≠ .notice) :
    (enterClosing g r s).sequencer.withheld = s.sequencer.withheld :=
  (withheld_loweredTest ..).trans (withheld_enterState s g other)

theorem withheld_deriveOpen {r : SegmentRec} (other : r.state ≠ .notice) :
    (deriveOpen g r s).sequencer.withheld = s.sequencer.withheld := by
  unfold deriveOpen
  split
  · exact withheld_enterClosing s g other
  · rfl

theorem withheld_refreshGateFault : (refreshGateFault g s).sequencer.withheld = s.sequencer.withheld := by
  unfold refreshGateFault
  split <;> rfl

theorem withheld_becomeGateless : (becomeGateless g s).sequencer.withheld = s.sequencer.withheld :=
  (withheld_raisedTest ..).trans ((withheld_loweredTest ..).trans (withheld_refreshGateFault ..))

end

end Sys2Proof.Machine
end

section
/-!
SUPPORT. Segments derived against the gates that have been built, and segments that become gateless (R113).
-/

namespace Sys2Proof.Machine

/-! ### The gates of a segment -/

theorem gateFaultOf_iff (s : State) (g : Nat) :
    s.gateFaultOf g = true ↔ ∃ k ∈ s.configuredGates g, s.gateState k = .fault := by
  simp [State.gateFaultOf]

theorem someGateDown_iff (s : State) (g : Nat) :
    s.someGateDown g = true ↔ ∃ k ∈ s.configuredGates g, s.gateState k ≠ .raised := by
  simp [State.someGateDown]

theorem orderGates_orders (s : State) (g : Nat) (o : GateOrder) : gatesOrdered s (orderGates g o s) g o :=
  fun k mem => List.mem_append_right _ (List.mem_map.mpr ⟨k, mem, rfl⟩)

theorem mem_foldl_setInsert {l acc : List Nat} {k : Nat} : k ∈ l.foldl setInsert acc ↔ k ∈ l ∨ k ∈ acc := by
  induction l generalizing acc with
  | nil => simp
  | cons a l ih =>
    rw [List.foldl_cons, ih, mem_setInsert, List.mem_cons]
    tauto

/-- A segment without a record is left alone. -/
theorem rederive_of_absent {g : Nat} {s : State} (absent : s.segment g = none) : rederive g s = s := by
  unfold rederive
  rw [absent]

/-! ### A segment derived against built gates -/

section
variable {s : State} {g : Nat} {r : SegmentRec} (found : s.segment g = some r)

/-- A record with its gate fault flag computed. -/
def State.faultRead (s : State) (g : Nat) (r : SegmentRec) : SegmentRec := { r with gateFault := s.gateFaultOf g }

include found

theorem rederive_of_opened (state : r.state = .opened) :
    rederive g s = deriveOpen g (s.faultRead g r) (s.withSegment g (s.faultRead g r)) := by
  unfold rederive
  rw [found]
  dsimp only
  rw [state]
  simp only [State.faultRead, state]

theorem rederive_of_notice (state : r.state = .notice) :
    rederive g s = withholdOrders g (s.withSegment g (s.faultRead g r)) := by
  unfold rederive
  rw [found]
  dsimp only
  rw [state]
  simp only [State.faultRead, state]

theorem rederive_of_closing (state : r.state = .closing) :
    rederive g s = loweredTest g (orderGates g .lower (s.withSegment g (s.faultRead g r))) := by
  unfold rederive
  rw [found]
  dsimp only
  rw [state]
  simp only [State.faultRead, state]

theorem rederive_of_reopening (state : r.state = .reopening) :
    rederive g s = raisedTest g (orderGates g .raise (s.withSegment g (s.faultRead g r))) := by
  unfold rederive
  rw [found]
  dsimp only
  rw [state]
  simp only [State.faultRead, state]

theorem rederive_of_closed (state : r.state = .closed) :
    rederive g s = if s.allGates g .lowered then orderGates g .lower (s.withSegment g (s.faultRead g r))
      else orderGates g .lower
        (enterState g { s.faultRead g r with blocked := false } .closing (s.withSegment g (s.faultRead g r))) := by
  unfold rederive
  rw [found]
  dsimp only
  rw [state]
  simp only [State.faultRead, state]
  rfl

end

/-- What the gates that have been built make of a segment's record; `x` tells of the gates, `v` of what is handed on. -/
def rederived (x v : State) (g : Nat) (r r' : SegmentRec) : Prop :=
  (r.state ≠ r'.state ∨ r.parameter ≠ r'.parameter → Instr.segmentNotice g r'.state r'.parameter ∈ v.handed) ∧
  r'.grade = r.grade ∧ r'.gateFault = x.gateFaultOf g ∧ (∀ i, i ≠ 1 → mapGet r'.claims i = mapGet r.claims i) ∧
  (r'.lead = r.lead ∨ r'.lead = none) ∧
  (r.state = .opened → (∃ k ∈ x.configuredGates g, x.gateState k ≠ .raised) →
    closesTo x v g r' ∧ mapGet r'.claims 1 = some { urgent := true, placed := x.now }) ∧
  (r.state = .opened → (∀ k ∈ x.configuredGates g, x.gateState k = .raised) →
    r'.state = .opened ∧ r'.claims = r.claims ∧ gatesOrdered x v g .raise) ∧
  (r.state = .notice → r'.state = .notice ∧ r'.lead = r.lead ∧ r'.grace = r.grace ∧ r'.claims = r.claims ∧
    ∀ k ∈ x.configuredGates g, (x.gateState k = .raised → Instr.orderEvent k .raise ∈ v.handed) ∧
      (x.gateState k ≠ .raised → k ∈ v.sequencer.withheld)) ∧
  (r.state = .closing → r.claims ≠ [] → gatesOrdered x v g .lower ∧
    r'.state = if x.allGates g .lowered = true then .closed else .closing) ∧
  (r.state = .reopening → gatesOrdered x v g .raise ∧
    r'.state = if x.allGates g .raised = true then .opened else .reopening) ∧
  (r.state = .closed → gatesOrdered x v g .lower ∧
    r'.state = if x.allGates g .lowered = true then .closed else .closing)

theorem rederived_later {x v w : State} {g : Nat} {r r' : SegmentRec} (h : rederived x v g r r')
    (k : SegmentWithheld g v w) : rederived x w g r r' := by
  obtain ⟨told, grade, fault, claims, lead, down, up, notice, closing, reopening, closed⟩ := h
  refine ⟨fun e => k.handed _ (told e), grade, fault, claims, lead, fun e d => ?_, fun e d => ?_, fun e => ?_,
    fun e d => ?_, fun e => ?_, fun e => ?_⟩
  · obtain ⟨⟨a, b, c, f, orders⟩, claim⟩ := down e d
    exact ⟨⟨a, b, c, f, k.gatesOrdered orders⟩, claim⟩
  · obtain ⟨a, b, orders⟩ := up e d
    exact ⟨a, b, k.gatesOrdered orders⟩
  · obtain ⟨a, b, c, f, gates⟩ := notice e
    exact ⟨a, b, c, f, fun i m => ⟨fun raised => k.handed _ ((gates i m).1 raised),
      fun n => k.withheld i ((gates i m).2 n)⟩⟩
  · exact ⟨k.gatesOrdered (closing e d).1, (closing e d).2⟩
  · exact ⟨k.gatesOrdered (reopening e).1, (reopening e).2⟩
  · exact ⟨k.gatesOrdered (closed e).1, (closed e).2⟩

/-- The same gates seen from a state that has kept them. -/
theorem rederived_congr {x y v : State} {g : Nat} {r r' : SegmentRec} (k : SequencerKept x y)
    (h : rederived x v g r r') : rederived y v g r r' := by
  unfold rederived closesTo gatesOrdered at h ⊢
  rwa [k.configuredGates, k.gateState, k.allGates, k.gateFaultOf, k.now]

theorem rederive_spec_closed {s : State} {g : Nat} {r : SegmentRec} (found : s.segment g = some r)
    (state : r.state = .closed) :
    ∃ r', SegmentLeft g s (rederive g s) r' ∧ rederived s (rederive g s) g r r' := by
  let q := s.faultRead g r
  have first := segmentLeft_withSegment s g q
  rw [rederive_of_closed found state]
  cases lowered : s.allGates g .lowered with
  | true =>
    rw [if_pos rfl]
    refine ⟨q, ⟨onlySegment_orderGates first.toOnlySegment .lower, first.record⟩, fun e => ?_, rfl, rfl,
      fun _ _ => rfl, .inl rfl, ?_, ?_, ?_, ?_, ?_,
      fun _ => ⟨orderGates_orders (s.withSegment g q) g .lower, ?_⟩⟩
    · exact absurd e (by rintro (n | n) <;> exact n rfl)
    rotate_left 5
    · rw [lowered]
      exact state
    all_goals
      rw [state]
      exact nofun
  | false =>
    rw [if_neg Bool.false_ne_true]
    have last := (enterState_enters (s.withSegment g q) g { q with blocked := false } .closing).behind
      first.toOnlySegment
    have orders := orderGates_orders
      (enterState g { q with blocked := false } .closing (s.withSegment g q)) g .lower
    unfold gatesOrdered at orders
    rw [last.configuredGates] at orders
    refine ⟨_, ⟨onlySegment_orderGates last.toOnlySegment .lower, last.record⟩,
      fun _ => List.mem_append_left _ last.told, rfl, rfl,
      fun _ _ => rfl, .inl rfl, ?_, ?_, ?_, ?_, ?_, fun _ => ⟨orders, ?_⟩⟩
    rotate_left 5
    · rw [lowered]
      rfl
    all_goals
      rw [state]
      exact nofun

theorem rederive_spec_notice {s : State} {g : Nat} {r : SegmentRec} (found : s.segment g = some r)
    (state : r.state = .notice) :
    ∃ r', SegmentLeft g s (rederive g s) r' ∧ rederived s (rederive g s) g r r' := by
  let q := s.faultRead g r
  have first := segmentLeft_withSegment s g q
  rw [rederive_of_notice found state]
  have only : OnlySegment g s (withholdOrders g (s.withSegment g q)) := by
    have orders := onlySegment_orders first.toOnlySegment
      ((s.configuredGates g).filter fun k => s.gateState k == .raised) .raise
    exact orders.trans ⟨⟨rfl, rfl, rfl, rfl, rfl, rfl, rfl, fun _ => id, fun _ _ => .rfl⟩, fun _ _ => rfl⟩
  refine ⟨q, ⟨only, first.record⟩, fun e => ?_, rfl, rfl, fun _ _ => rfl, .inl rfl, ?_, ?_,
    fun _ => ⟨state, rfl, rfl, rfl, fun k mem => ⟨fun raised => ?_, fun low => ?_⟩⟩, ?_, ?_, ?_⟩
  · exact absurd e (by rintro (n | n) <;> exact n rfl)
  rotate_left 2
  · exact List.mem_append_right _ (List.mem_map.mpr
      ⟨k, List.mem_filter.mpr ⟨mem, beq_iff_eq.mpr raised⟩, rfl⟩)
  · exact mem_foldl_setInsert.mpr (.inl (List.mem_filter.mpr ⟨mem, bne_iff_ne.mpr low⟩))
  all_goals
    rw [state]
    exact nofun

section
variable {s : State} {g : Nat} {row : SegmentRow} (present : s.segmentRow g = some row)
include present

theorem rederive_spec_opened {r : SegmentRec} (found : s.segment g = some r) (state : r.state = .opened) :
    ∃ r', SegmentLeft g s (rederive g s) r' ∧ rederived s (rederive g s) g r r' := by
  let q := s.faultRead g r
  have first := segmentLeft_withSegment s g q
  rw [rederive_of_opened found state]
  unfold deriveOpen
  have same : (s.withSegment g q).someGateDown g = s.someGateDown g := rfl
  rw [same]
  by_cases down : s.someGateDown g = true
  · rw [if_pos down]
    have claimed : mapPut q.claims sourceRestart { urgent := true, placed := s.now } ≠ [] := by
      intro none
      have put := mapGet_mapPut_self q.claims sourceRestart { urgent := true, placed := s.now }
      rw [none] at put
      cases put
    have present' : (s.withSegment g q).segmentRow g = some row := present
    have entered := enterClosing_enters present'
      (r := { q with claims := mapPut q.claims sourceRestart { urgent := true, placed := s.now } }) claimed
    have orders := enterClosing_orders (s.withSegment g q) g
      (r := { q with claims := mapPut q.claims sourceRestart { urgent := true, placed := s.now } })
      (by rw [show q.state = .opened from state]; rfl)
    refine ⟨_, entered.toSegmentLeft.behind first.toOnlySegment, fun _ => entered.told, rfl, rfl,
      fun i other => mapGet_mapPut_of_ne _ _ other, .inr rfl, fun _ _ => ⟨⟨rfl, rfl, rfl, rfl, orders⟩,
        mapGet_mapPut_self ..⟩, fun _ up => ?_, ?_, ?_, ?_, ?_⟩
    · obtain ⟨k, mem, low⟩ := (someGateDown_iff s g).mp down
      exact absurd (up k mem) low
    all_goals
      rw [state]
      exact nofun
  · rw [if_neg down]
    have orders := orderGates_orders (s.withSegment g q) g .raise
    have left : SegmentLeft g s (orderGates g .raise (s.withSegment g q)) q :=
      ⟨onlySegment_orderGates first.toOnlySegment .raise, first.record⟩
    refine ⟨q, left, fun e => ?_, rfl, rfl, fun _ _ => rfl, .inl rfl, fun _ low => ?_, fun _ _ => ⟨state, rfl, orders⟩,
      ?_, ?_, ?_, ?_⟩
    · exact absurd e (by rintro (n | n) <;> exact n rfl)
    · exact absurd ((someGateDown_iff s g).mpr low) down
    all_goals
      rw [state]
      exact nofun

theorem rederive_spec_closing {r : SegmentRec} (found : s.segment g = some r) (state : r.state = .closing) :
    ∃ r', SegmentLeft g s (rederive g s) r' ∧ rederived s (rederive g s) g r r' := by
  let q := s.faultRead g r
  let y := orderGates g .lower (s.withSegment g q)
  have first : SegmentLeft g s y q :=
    ⟨onlySegment_orderGates (segmentLeft_withSegment s g q).toOnlySegment .lower, State.get_withSegment s g q⟩
  have present' : y.segmentRow g = some row := first.segmentRow ▸ present
  rw [rederive_of_closing found state]
  have orders : gatesOrdered s (loweredTest g y) g .lower :=
    (onlySegment_loweredTest (.refl g y)).gatesOrdered (orderGates_orders (s.withSegment g q) g .lower)
  cases lowered : s.allGates g .lowered with
  | false =>
    have still : loweredTest g y = y :=
      loweredTest_of_still (first.segment present) (.inr (by rw [first.allGates, lowered]))
    rw [still] at orders ⊢
    refine ⟨q, first, fun e => ?_, rfl, rfl, fun _ _ => rfl, .inl rfl, ?_, ?_, ?_, fun _ _ => ⟨orders, ?_⟩, ?_, ?_⟩
    · exact absurd e (by rintro (n | n) <;> exact n rfl)
    rotate_left 3
    · rw [lowered]
      exact state
    all_goals
      rw [state]
      exact nofun
  | true =>
    have lowered' : y.allGates g .lowered = true := by rw [first.allGates, lowered]
    obtain ⟨r', last, claims, grade, fault, lead⟩ :=
      loweredTest_leaves present' (first.segment present) state lowered'
    refine ⟨r', last.toSegmentLeft.behind first.toOnlySegment, fun _ => last.told, grade, fault,
      fun _ _ => by rw [claims]; rfl, .inl lead, ?_, ?_, ?_, fun _ claimed => ⟨orders, ?_⟩, ?_, ?_⟩
    rotate_left 3
    · have closed := loweredTest_enters present' (first.segment present) state claimed lowered'
      have same := last.record.symm.trans closed.record
      cases same
      rw [lowered]
      rfl
    all_goals
      rw [state]
      exact nofun

theorem rederive_spec_reopening {r : SegmentRec} (found : s.segment g = some r) (state : r.state = .reopening) :
    ∃ r', SegmentLeft g s (rederive g s) r' ∧ rederived s (rederive g s) g r r' := by
  let q := s.faultRead g r
  let y := orderGates g .raise (s.withSegment g q)
  have first : SegmentLeft g s y q :=
    ⟨onlySegment_orderGates (segmentLeft_withSegment s g q).toOnlySegment .raise, State.get_withSegment s g q⟩
  rw [rederive_of_reopening found state]
  have orders : gatesOrdered s (raisedTest g y) g .raise :=
    (onlySegment_raisedTest (.refl g y)).gatesOrdered (orderGates_orders (s.withSegment g q) g .raise)
  cases raised : s.allGates g .raised with
  | false =>
    have still : raisedTest g y = y :=
      raisedTest_of_still (first.segment present) (.inr (by rw [first.allGates, raised]))
    rw [still] at orders ⊢
    refine ⟨q, first, fun e => ?_, rfl, rfl, fun _ _ => rfl, .inl rfl, ?_, ?_, ?_, ?_, fun _ => ⟨orders, ?_⟩, ?_⟩
    · exact absurd e (by rintro (n | n) <;> exact n rfl)
    rotate_left 4
    · rw [raised]
      exact state
    all_goals
      rw [state]
      exact nofun
  | true =>
    have run : raisedTest g y = _ :=
      raisedTest_of_raised (first.segment present) state (by rw [first.allGates, raised])
    rw [run] at orders ⊢
    have last := (enterState_enters y g { q with unannounced := false, parameter := noParameter } .opened).behind
      first.toOnlySegment
    refine ⟨_, last.toSegmentLeft, fun _ => last.told, rfl, rfl, fun _ _ => rfl, .inl rfl, ?_, ?_, ?_, ?_,
      fun _ => ⟨orders, ?_⟩, ?_⟩
    rotate_left 4
    · rw [raised]
      rfl
    all_goals
      rw [state]
      exact nofun

/-- A segment derived against the gates that have been built. -/
theorem rederive_spec {r : SegmentRec} (found : s.segment g = some r) :
    ∃ r', SegmentLeft g s (rederive g s) r' ∧ rederived s (rederive g s) g r r' := by
  cases state : r.state with
  | opened => exact rederive_spec_opened present found state
  | notice => exact rederive_spec_notice found state
  | closing => exact rederive_spec_closing present found state
  | reopening => exact rederive_spec_reopening present found state
  | closed => exact rederive_spec_closed found state

end

end Sys2Proof.Machine
end

section
/-!
SUPPORT. The built gates handed over, and GATES out of service, at the Closure Sequencer (R113).
-/

namespace Sys2Proof.Machine

/-! ### What these events leave -/

theorem sequencerKept_forEach {f : Nat → State → State} {l : List Nat} {s t : State} (h : SequencerKept s t)
    (kept : ∀ i u, SequencerKept u (f i u)) : SequencerKept s (forEach l f t) :=
  forEach_keeps (P := SequencerKept s) h fun i _ u k => k.trans (kept i u)

theorem sequencerKept_sequencerEvent {cause : SegmentCause} {f : State → State} {s : State}
    (kept : SequencerKept s (f s)) : SequencerKept s (sequencerEvent cause f s) := by
  have ended : SequencerKept s (segmentEvent cause f s) :=
    sequencerKept_forEach kept fun i u => (segmentWithheld_segmentOutcome cause s i i u).toSequencerKept
  refine sequencerKept_forEach ended fun i u => ?_
  split
  · exact (onlySegment_leadStep (.refl i u)).toSequencerKept
  · exact .refl u

theorem onlySegment_rederive (g : Nat) (s : State) : OnlySegment g s (rederive g s) := by
  cases found : s.segment g with
  | none =>
    rw [rederive_of_absent found]
    exact .refl g s
  | some r =>
    obtain ⟨row, present⟩ := Option.isSome_iff_exists.mp (State.segment_eq_some.mp found).1
    obtain ⟨r', left, -⟩ := rederive_spec present found
    exact left.toOnlySegment

/-- Orders withheld stay withheld while the segments are derived. -/
theorem withheld_rederive {g k : Nat} {s : State} (h : k ∈ s.sequencer.withheld) :
    k ∈ (rederive g s).sequencer.withheld := by
  cases found : s.segment g with
  | none => rwa [rederive_of_absent found]
  | some r =>
    cases state : r.state with
    | opened =>
      rw [rederive_of_opened found state, withheld_deriveOpen _ _ (by rw [State.faultRead, state]; exact nofun)]
      exact h
    | notice =>
      rw [rederive_of_notice found state]
      exact mem_foldl_setInsert.mpr (.inr h)
    | closing =>
      rw [rederive_of_closing found state, withheld_loweredTest]
      exact h
    | closed =>
      rw [rederive_of_closed found state]
      split
      · exact h
      · change k ∈ (enterState ..).sequencer.withheld
        rw [withheld_enterState _ _ (by rw [State.faultRead, state]; exact nofun)]
        exact h
    | reopening =>
      rw [rederive_of_reopening found state, withheld_raisedTest]
      exact h

/-! ### Gateless segments -/

theorem becomeGateless_of_absent {g : Nat} {s : State} (absent : s.segment g = none) : becomeGateless g s = s := by
  have fault : refreshGateFault g s = s := by
    unfold refreshGateFault
    rw [absent]
  have lowered : loweredTest g s = s := by
    unfold loweredTest
    rw [absent]
  unfold becomeGateless
  rw [fault, lowered]
  unfold raisedTest
  rw [absent]

theorem becomeGateless_eq {g : Nat} {s : State} {r : SegmentRec} (found : s.segment g = some r) :
    becomeGateless g s = raisedTest g (loweredTest g (s.withSegment g (s.faultRead g r))) := by
  have fault : refreshGateFault g s = s.withSegment g (s.faultRead g r) := by
    unfold refreshGateFault
    rw [found]
    rfl
  unfold becomeGateless
  rw [fault]

/-- What the loss of its gates makes of a segment's record; `v` tells of what is handed on. -/
def gateless (v : State) (g : Nat) (r r' : SegmentRec) : Prop :=
  (r.state ≠ r'.state ∨ r.parameter ≠ r'.parameter → Instr.segmentNotice g r'.state r'.parameter ∈ v.handed) ∧
  r'.gateFault = false ∧ r'.claims = r.claims ∧ r'.grade = r.grade ∧ r'.lead = r.lead ∧
  (r.state = .closing → r.claims ≠ [] → r'.state = .closed) ∧
  (r.state = .reopening → r'.state = .opened ∧ r'.unannounced = false) ∧
  (r.state ∉ [.closing, .reopening] → r'.state = r.state ∧ r'.lead = r.lead ∧ r'.grace = r.grace)

section
variable {s : State} {g : Nat} {row : SegmentRow} (present : s.segmentRow g = some row)
  (none : s.configuredGates g = [])

include none

theorem allGates_of_gateless (st : GateState) : s.allGates g st = true := by
  rw [State.allGates, none]
  rfl

theorem gateFaultOf_of_gateless : s.gateFaultOf g = false := by
  rw [State.gateFaultOf, none]
  rfl

include present

/-- The second test of a segment that has been told leaves what the first has left. -/
theorem raisedTest_leaves {t : State} {r : SegmentRec} (h : Entered g s t r) :
    ∃ r', Entered g s (raisedTest g t) r' ∧ r'.claims = r.claims ∧ r'.grade = r.grade ∧ r'.gateFault = r.gateFault ∧
      r'.lead = r.lead := by
  by_cases state : r.state = .reopening
  · rw [raisedTest_of_raised (h.segment present) state (by rw [h.allGates]; exact allGates_of_gateless none _)]
    exact ⟨_, (enterState_enters t g _ .opened).behind h.toOnlySegment, rfl, rfl, rfl, rfl⟩
  · rw [raisedTest_of_still (h.segment present) (.inl state)]
    exact ⟨r, h, rfl, rfl, rfl, rfl⟩

theorem becomeGateless_spec {r : SegmentRec} (found : s.segment g = some r) :
    ∃ r', SegmentLeft g s (becomeGateless g s) r' ∧ gateless (becomeGateless g s) g r r' := by
  let q := s.faultRead g r
  have first := segmentLeft_withSegment s g q
  have present' : (s.withSegment g q).segmentRow g = some row := present
  have lowered : (s.withSegment g q).allGates g .lowered = true := allGates_of_gateless none _
  have fault : q.gateFault = false := gateFaultOf_of_gateless none
  rw [becomeGateless_eq found]
  by_cases closing : r.state = .closing
  · obtain ⟨r1, entered, claims1, grade1, fault1, lead1⟩ :=
      loweredTest_leaves present' (first.segment present) closing lowered
    obtain ⟨r', last, claims, grade, fault', lead⟩ :=
      raisedTest_leaves present none (entered.behind first.toOnlySegment)
    refine ⟨r', last.toSegmentLeft, fun _ => last.told, (fault'.trans fault1).trans fault, claims.trans claims1,
      grade.trans grade1, lead.trans lead1, fun _ claimed => ?_, fun e => ?_, fun e => ?_⟩
    · have closed := loweredTest_enters present' (first.segment present) closing claimed lowered
      have still := raisedTest_of_still (s := loweredTest g (s.withSegment g q)) (closed.segment present')
        (.inl (by simp))
      have same := last.record.symm.trans ((congrArg (fun t : State => mapGet t.sequencer.segments g) still).trans
        closed.record)
      cases same
      rfl
    · rw [closing] at e
      cases e
    · exact absurd closing fun _ => e (by rw [closing]; exact List.mem_cons_self)
  · rw [loweredTest_of_still (first.segment present) (.inl closing)]
    by_cases reopening : r.state = .reopening
    · rw [raisedTest_of_raised (first.segment present) reopening
        (show s.allGates g .raised = true from allGates_of_gateless none _)]
      have last := (enterState_enters (s.withSegment g q) g { q with unannounced := false, parameter := noParameter }
        .opened).behind first.toOnlySegment
      refine ⟨_, last.toSegmentLeft, fun _ => last.told, fault, rfl, rfl, rfl, fun e => absurd e closing,
        fun _ => ⟨rfl, rfl⟩, fun e => ?_⟩
      exact absurd reopening fun _ => e (by rw [reopening]; exact List.mem_cons_of_mem _ List.mem_cons_self)
    · rw [raisedTest_of_still (first.segment present) (.inl reopening)]
      refine ⟨q, first, fun e => ?_, fault, rfl, rfl, rfl, fun e => absurd e closing, fun e => absurd e reopening,
        fun _ => ⟨rfl, rfl, rfl⟩⟩
      exact absurd e (by rintro (n | n) <;> exact n rfl)

end

/-! ### The two notices -/

theorem took_segmentRow {s : State} {c : Instr} (other : c ≠ .segmentsOutOfService) (g : Nat) :
    (s.took c).segmentRow g = s.segmentRow g := by
  have serves : (s.took c).serves .segments .segmentsOutOfService = s.serves .segments .segmentsOutOfService := by
    rw [Bool.eq_iff_iff, State.serves_iff, State.serves_iff]
    exact and_congr_right fun _ => not_congr (List.mem_erase_of_ne other.symm)
  rw [State.segmentRow, State.segmentRow, serves]
  rfl

/-- The Sequencer with a set of gates, or without. -/
def Sequencer.withGates (x : Sequencer) (built : Bool) (rows : Map Bytes) : Sequencer :=
  { x with gatesBuilt := built, gateRows := rows, withheld := [] }

theorem gatesBuiltNotice_derives {s : State} (steady : s.steady) (active : s.active .gates = true) :
    completes .gatesBuiltNotice s fun t =>
      t.sequencer.gatesBuilt = true ∧ t.sequencer.gateRows = s.drives.rows ∧ t.sequencer.clock = s.sequencer.clock ∧
      ∀ g, g < 8 → ∀ r ∈ s.segment g, ∀ row ∈ s.segmentRow g, ∃ r' ∈ t.segment g,
        segmentHanded t g r r' ∧ rederived t t g r r' ∧ t.gateState = s.gateState ∧ t.now = s.now := by
  let x := (s.took .gatesBuiltNotice).withSequencer (s.sequencer.withGates true s.drives.rows)
  have run : gatesBuilt (s.took .gatesBuiltNotice) = sequencerEvent .gates (forEach (List.range 8) rederive) x :=
    if_pos active
  have kept : SequencerKept x (flushReports (sequencerEvent .gates (forEach (List.range 8) rederive) x)) :=
    (sequencerKept_sequencerEvent (sequencerKept_forEach (.refl x) fun i u =>
      (onlySegment_rederive i u).toSequencerKept)).trans (sequencerKept_flushReports _)
  refine ⟨_, taken_of_steady (effect := gatesBuilt) steady, ?_⟩
  beta_reduce
  rw [run]
  refine ⟨by rw [kept.rest]; rfl, by rw [kept.rest]; rfl, kept.clock, fun g low r found row present => ?_⟩
  have found' : x.segment g = some r := (took_segment (by simp) g).trans found
  have present' : x.segmentRow g = some row := (took_segmentRow (by simp) g).trans present
  obtain ⟨u, r', first, left, last, stored, urgent⟩ := gatesEvent_spec (cause := .gates) (op := rederive)
    (fun i g n t => ⟨(onlySegment_rederive i t).beside n.symm, fun k => withheld_rederive⟩)
    (fun g u r row _ found present => by
      obtain ⟨r', left, derived⟩ := rederive_spec present found
      obtain ⟨-, -, -, -, lead, -⟩ := derived
      exact ⟨r', left, lead⟩)
    (fun g u => rederive_of_absent) low found' present'
  obtain ⟨r'', left', derived⟩ := rederive_spec (first.segmentRow ▸ present') (first.same.trans found')
  have same := left'.record.symm.trans left.record
  cases same
  have ended := rederived_congr (left.toSequencerKept.trans last.toSequencerKept) (rederived_later derived last)
  exact ⟨r', stored, ⟨ended.1, urgent⟩, ended, kept.gateState, kept.now⟩

theorem sequencerGatesOutOfService_frees {s : State} (steady : s.steady) :
    completes .sequencerGatesOutOfService s fun t =>
      t.sequencer.gatesBuilt = false ∧ t.sequencer.gateRows = [] ∧ t.sequencer.withheld = [] ∧
      t.sequencer.clock = s.sequencer.clock ∧
      ∀ g, g < 8 → ∀ r ∈ s.segment g, ∀ row ∈ s.segmentRow g, ∃ r' ∈ t.segment g,
        segmentHanded t g r r' ∧ gateless t g r r' := by
  let x := (s.took .sequencerGatesOutOfService).withSequencer (s.sequencer.withGates false [])
  have bare : ∀ {u : State}, u.sequencer.gatesBuilt = false → ∀ g, u.configuredGates g = [] := by
    intro u built g
    refine List.filter_eq_nil_iff.mpr fun k _ => ?_
    rw [State.sequencerGateRow, built]
    exact nofun
  have kept : SequencerKept x (flushReports (sequencerEvent .gates (forEach (List.range 8) becomeGateless) x)) :=
    (sequencerKept_sequencerEvent (sequencerKept_forEach (.refl x) fun i u =>
      (onlySegment_becomeGateless (.refl i u)).toSequencerKept)).trans (sequencerKept_flushReports _)
  have others : ∀ i g, i ≠ g → ∀ t, SegmentWithheld g t (becomeGateless i t) := fun i g n t =>
    segmentWithheld_of_eq ((onlySegment_becomeGateless (.refl i t)).beside n.symm) (withheld_becomeGateless ..)
  have leads : ∀ g u r row, SequencerKept x u → u.segment g = some r → u.segmentRow g = some row →
      ∃ r', SegmentLeft g u (becomeGateless g u) r' ∧ (r'.lead = r.lead ∨ r'.lead = none) := by
    intro g u r row same found present
    obtain ⟨r', left, -, -, -, -, lead, -⟩ := becomeGateless_spec present (bare (by rw [same.rest]; rfl) g) found
    exact ⟨r', left, .inl lead⟩
  have absent : ∀ g u, u.segment g = none → becomeGateless g u = u := fun g u => becomeGateless_of_absent
  refine ⟨_, taken_of_steady (effect := gatesGone) steady, ?_⟩
  beta_reduce
  rw [show gatesGone (s.took .sequencerGatesOutOfService) =
    sequencerEvent .gates (forEach (List.range 8) becomeGateless) x from rfl]
  refine ⟨by rw [kept.rest]; rfl, by rw [kept.rest]; rfl, ?_, kept.clock, fun g low r found row present => ?_⟩
  · rw [flushReports_sequencer, sequencerEvent, zeroLeads_of_none others leads absent, segmentEvent_segments]
    exact forEach_keeps (P := fun t : State => t.sequencer.withheld = []) rfl fun i _ t k =>
      (withheld_becomeGateless t i).trans k
  · have found' : x.segment g = some r := (took_segment (by simp) g).trans found
    have present' : x.segmentRow g = some row := (took_segmentRow (by simp) g).trans present
    obtain ⟨u, r', first, left, last, stored, urgent⟩ :=
      gatesEvent_spec (cause := .gates) others leads absent low found' present'
    obtain ⟨r'', left', free⟩ := becomeGateless_spec (first.segmentRow ▸ present')
      (bare (by rw [first.rest]; rfl) g) (first.same.trans found')
    have same := left'.record.symm.trans left.record
    cases same
    obtain ⟨told, rest⟩ := free
    exact ⟨r', stored, ⟨fun e => last.handed _ (told e), urgent⟩, fun e => last.handed _ (told e), rest⟩

end Sys2Proof.Machine
end

section
/-!
SUPPORT. A segment while its derivation places claims on it: closed from its start where a gate is not RAISED, else in
NOTICE from its first claim on (R99, R103, R112).
-/

namespace Sys2Proof.Machine

/-! ### Claim sets -/

/-- A claim set with a claim placed where its source has none. -/
def placedOn (now source : Nat) (urgent : Bool) (claims : Map Claim) : Map Claim :=
  if (mapGet claims source).isSome then claims else mapPut claims source { urgent := urgent, placed := now }

section
variable {now source : Nat} {urgent : Bool} {claims : Map Claim}

theorem mapGet_placedOn (i : Nat) :
    mapGet (placedOn now source urgent claims) i =
      if i = source then some ((mapGet claims source).getD { urgent := urgent, placed := now })
      else mapGet claims i := by
  unfold placedOn
  split
  · next there =>
    obtain ⟨c, found⟩ := Option.isSome_iff_exists.mp there
    split
    · next same => rw [same, found]; rfl
    · rfl
  · next absent =>
    rw [Option.not_isSome_iff_eq_none.mp absent]
    split
    · next same => rw [same]; exact mapGet_mapPut_self ..
    · next other => exact mapGet_mapPut_of_ne _ _ other

theorem mem_placedOn {e : Nat × Claim} (h : e ∈ placedOn now source urgent claims) :
    e = (source, { urgent := urgent, placed := now }) ∨ e ∈ claims := by
  unfold placedOn at h
  split at h
  · exact .inr h
  · exact mem_mapPut h

theorem mapSorted_placedOn (sorted : mapSorted claims = true) :
    mapSorted (placedOn now source urgent claims) = true := by
  unfold placedOn
  split
  · exact sorted
  · exact mapSorted_mapPut _ _ sorted

theorem placedOn_ne_nil : placedOn now source urgent claims ≠ [] := by
  intro none
  have got := mapGet_placedOn (now := now) (source := source) (urgent := urgent) (claims := claims) source
  rw [none, if_pos rfl] at got
  cases got

/-- A new claim stands in the set beside the old ones. -/
theorem any_mapPut_of_none {α : Type} {m : Map α} {i : Nat} {v : α} (p : Nat × α → Bool) (absent : mapGet m i = none) :
    (mapPut m i v).any p = (p (i, v) || m.any p) := by
  induction m with
  | nil => simp [mapPut]
  | cons e m ih =>
    obtain ⟨k, w⟩ := e
    have other : i ≠ k := by
      rintro rfl
      simp [mapGet] at absent
    have rest : mapGet m i = none := by
      rw [mapGet] at absent
      simpa [other] using absent
    unfold mapPut
    split
    · simp
    · simp only [List.any_cons, ih rest]
      cases p (k, w) <;> cases p (i, v) <;> simp

end

/-! ### The record of a segment under derivation -/

/-- The lead of the NOTICE that a claim set began. -/
def leadOf (row : SegmentRow) (claims : Map Claim) : Nat :=
  if claims.any fun e => e.2.urgent then row.urgentLead else row.normalLead

/-- The record in NOTICE under a claim set, with a given parameter. -/
def SegmentRec.noticed (q : SegmentRec) (now : Nat) (row : SegmentRow) (claims : Map Claim) (p : BitVec 16) :
    SegmentRec :=
  { q with
    state := .notice, claims := claims, lead := some (now + seconds (leadOf row claims)), parameter := p }

/-- The record that the derivation has made of `q`, OPEN and without claims, by the claims placed so far. -/
def derivedAs (x : State) (g : Nat) (row : SegmentRow) (q : SegmentRec) (claims : Map Claim) (r : SegmentRec) : Prop :=
  if x.someGateDown g then claims ≠ [] ∧ r = { q with claims := claims }.closed (x.allGates g .lowered)
  else if claims = [] then r = q
  else ∃ p, r = q.noticed x.now row claims p ∧ x.parameterOf row r = p

/-- The order that the derivation has given a segment's gates. -/
def State.derivedOrder (x : State) (g : Nat) : GateOrder := if x.someGateDown g then .lower else .raise

/-- A record of an OPEN segment without claims or timers. -/
def SegmentRec.fresh (q : SegmentRec) : Prop :=
  q.state = .opened ∧ q.claims = [] ∧ q.lead = none ∧ q.grace = none ∧ q.blocked = false ∧ q.unannounced = false ∧
    q.parameter = noParameter

/-- A segment under derivation. -/
structure Standing (x : State) (g : Nat) (row : SegmentRow) (q : SegmentRec) (claims : Map Claim) (u : State) : Prop
    extends SequencerKept x u where
  orders : gatesOrdered x u g (x.derivedOrder g)
  record : ∃ r, mapGet u.sequencer.segments g = some r ∧ derivedAs x g row q claims r

section
variable {x u v : State} {g : Nat} {row : SegmentRow} {q r : SegmentRec} {claims : Map Claim}

theorem Standing.later (h : Standing x g row q claims u) (k : SegmentKept g u v) : Standing x g row q claims v :=
  ⟨h.toSequencerKept.trans k.toSequencerKept, k.gatesOrdered h.orders, by rw [k.record]; exact h.record⟩

theorem derivedAs_down (down : x.someGateDown g = true) :
    derivedAs x g row q claims r ↔ claims ≠ [] ∧ r = { q with claims := claims }.closed (x.allGates g .lowered) := by
  unfold derivedAs
  rw [if_pos down]

theorem derivedAs_up (up : x.someGateDown g = false) :
    derivedAs x g row q claims r ↔
      (claims = [] → r = q) ∧ (claims ≠ [] → ∃ p, r = q.noticed x.now row claims p ∧ x.parameterOf row r = p) := by
  unfold derivedAs
  rw [up, if_neg Bool.false_ne_true]
  split <;> simp_all

theorem derivedAs_claims (fresh : q.fresh) (h : derivedAs x g row q claims r) : r.claims = claims := by
  cases down : x.someGateDown g with
  | true =>
    rw [((derivedAs_down down).mp h).2]
    rfl
  | false =>
    obtain ⟨empty, more⟩ := (derivedAs_up down).mp h
    by_cases none : claims = []
    · rw [empty none, none]
      exact fresh.2.1
    · obtain ⟨p, rfl, -⟩ := more none
      rfl

/-! ### The time parameter computed again -/

theorem parameterOf_again {s : State} {r r' : SegmentRec} (claims : r'.claims = r.claims) (lead : r'.lead = r.lead)
    (parameter : r'.parameter = s.parameterOf row r) : s.parameterOf row r' = s.parameterOf row r := by
  have rest : s.parameterOf row r' = s.parameterOf row { r with parameter := s.parameterOf row r } := by
    rw [← parameter]
    unfold State.parameterOf
    rw [claims, lead]
  rw [rest]
  unfold State.parameterOf
  cases s.sequencer.clock with
  | none => rfl
  | some c =>
    dsimp only
    split
    · cases s.earliestWindow row.normalLead c r.claims <;> rfl
    · rfl

theorem refreshParameter_leaves {s : State} (found : s.segment g = some r) (present : s.segmentRow g = some row)
    (notice : r.state = .notice) :
    SegmentLeft g s (refreshParameter g s) { r with parameter := s.parameterOf row r } := by
  refine ⟨onlySegment_refreshParameter (.refl g s), ?_⟩
  unfold refreshParameter
  rw [found, present]
  dsimp only
  split
  · exact State.get_withSegment ..
  · next same =>
    have equal : s.parameterOf row r = r.parameter := by
      by_contra differs
      exact same ⟨notice, differs⟩
    rw [equal]
    exact (State.segment_eq_some.mp found).2

/-! ### One claim placed -/

section
variable {source : Nat} {urgent : Bool}

theorem placeClaim_of_held {s : State} {c : Claim} (found : s.segment g = some r) (other : source ≠ 0)
    (held : mapGet r.claims source = some c) : placeClaim source urgent g s = s := by
  unfold placeClaim
  rw [found]
  dsimp only
  rw [held]
  exact if_neg fun h => other h.1

theorem placeClaim_of_new {s : State} (found : s.segment g = some r) (absent : mapGet r.claims source = none) :
    placeClaim source urgent g s = claimArrives g urgent
      (s.withSegment g { r with claims := mapPut r.claims source { urgent := urgent, placed := s.now } }) := by
  unfold placeClaim
  rw [found]
  dsimp only
  rw [absent]

theorem claimArrives_of_opened {s : State} (found : s.segment g = some r) (present : s.segmentRow g = some row)
    (state : r.state = .opened) : claimArrives g urgent s = enterNotice g row urgent r s := by
  unfold claimArrives
  rw [found, present]
  dsimp only
  rw [state]

theorem claimArrives_of_closing {s : State} (found : s.segment g = some r) (present : s.segmentRow g = some row)
    (state : r.state = .closing) : claimArrives g urgent s = s := by
  unfold claimArrives
  rw [found, present]
  dsimp only
  rw [state]

theorem claimArrives_of_closed {s : State} (found : s.segment g = some r) (present : s.segmentRow g = some row)
    (state : r.state = .closed) : claimArrives g urgent s = reopenTest g s := by
  unfold claimArrives
  rw [found, present]
  dsimp only
  rw [state]

/-- In NOTICE with a running lead. -/
theorem claimArrives_of_notice {s : State} (found : s.segment g = some r) (present : s.segmentRow g = some row)
    (state : r.state = .notice) (waitless : r.grace = none) :
    claimArrives g urgent s = refreshParameter g
      (if urgent then s.withSegment g { r with lead := shortenLead s.now row.urgentLead r.lead } else s) := by
  unfold claimArrives
  rw [found, present]
  dsimp only
  rw [state, waitless]
  cases urgent <;> rfl

end

end

end Sys2Proof.Machine
end

section
/-!
SUPPORT. The derivation of one segment, from its starting state over its standing claims to the schedule's (R112).
-/

namespace Sys2Proof.Machine

/-! ### A claim placed under derivation -/

section
variable {x u : State} {g : Nat} {row : SegmentRow} {q : SegmentRec} {claims : Map Claim} {source : Nat}
  {urgent : Bool} (present : x.segmentRow g = some row) (fresh : q.fresh)
include present fresh

theorem Standing.segment (h : Standing x g row q claims u) :
    ∃ r, u.segment g = some r ∧ u.segmentRow g = some row ∧ r.claims = claims ∧ derivedAs x g row q claims r := by
  obtain ⟨r, stored, derived⟩ := h.record
  exact ⟨r, h.segment_eq_some present stored, h.segmentRow ▸ present, derivedAs_claims fresh derived, derived⟩

/-- A claim that arrives at a segment that is closed from its start. -/
theorem claimArrives_standing_down (down : x.someGateDown g = true) (h : Standing x g row q claims u)
    (new : mapGet claims source = none) :
    Standing x g row q (mapPut claims source { urgent := urgent, placed := x.now }) (placeClaim source urgent g u) := by
  obtain ⟨r, found, present', held, derived⟩ := h.segment present fresh
  obtain ⟨-, rfl⟩ := (derivedAs_down down).mp derived
  let more := mapPut claims source { urgent := urgent, placed := x.now }
  let r' := { q with claims := more }.closed (x.allGates g .lowered)
  have claimed : more ≠ [] := fun none => by
    have put := mapGet_mapPut_self claims source { urgent := urgent, placed := x.now }
    rw [show mapPut claims source _ = [] from none] at put
    cases put
  have left : SegmentLeft g u (u.withSegment g r') r' := segmentLeft_withSegment u g r'
  have there : (u.withSegment g r').segment g = some r' := left.segment present'
  have kept : SequencerKept x (u.withSegment g r') := h.toSequencerKept.trans left.toSequencerKept
  have standing : ∀ v, SegmentLeft g (u.withSegment g r') v r' → Standing x g row q more v := fun v k =>
    ⟨kept.trans k.toSequencerKept, k.gatesOrdered (left.gatesOrdered h.orders), r', k.record,
      (derivedAs_down down).mpr ⟨claimed, rfl⟩⟩
  rw [placeClaim_of_new found (held ▸ new), h.now]
  change Standing x g row q more (claimArrives g urgent (u.withSegment g r'))
  cases lowered : x.allGates g .lowered with
  | false =>
    rw [claimArrives_of_closing there present' (by simp [r', SegmentRec.closed, lowered])]
    exact standing _ ⟨.refl .., left.record⟩
  | true =>
    have closed : r'.state = .closed := by simp [r', SegmentRec.closed, lowered]
    rw [claimArrives_of_closed there present' closed,
      reopenTest_of_blocked there present' closed (.inl claimed)]
    have same : ({ r' with blocked := r'.claims.isEmpty } : SegmentRec) = r' := by
      rw [show r'.claims.isEmpty = false by simp [r', SegmentRec.closed, claimed]]
      rfl
    rw [same]
    exact standing _ (segmentLeft_withSegment ..)

/-- The first claim takes an OPEN segment to NOTICE. -/
theorem claimArrives_standing_first (up : x.someGateDown g = false) (h : Standing x g row q [] u) :
    Standing x g row q [(source, { urgent := urgent, placed := x.now })] (placeClaim source urgent g u) := by
  obtain ⟨r, found, present', -, derived⟩ := h.segment present fresh
  obtain rfl := ((derivedAs_up up).mp derived).1 rfl
  obtain ⟨opened, bare, -, grace, -, announced, -⟩ := fresh
  let more : Map Claim := [(source, { urgent := urgent, placed := x.now })]
  rw [placeClaim_of_new found (by rw [bare]; rfl), bare, h.now]
  change Standing x g row r more (claimArrives g urgent (u.withSegment g { r with claims := more }))
  have left := segmentLeft_withSegment u g { r with claims := more }
  rw [claimArrives_of_opened (left.segment present') present' opened]
  let waiting : SegmentRec :=
    { r with
      claims := more, lead := some (x.now + seconds (if urgent then row.urgentLead else row.normalLead)), grace := none
      unannounced := false }
  have kept := h.toSequencerKept.trans left.toSequencerKept
  have entered := enterState_enters (u.withSegment g { r with claims := more }) g
    { waiting with parameter := x.parameterOf row waiting } .notice
  have run : enterNotice g row urgent { r with claims := more } (u.withSegment g { r with claims := more }) =
      enterState g { waiting with parameter := x.parameterOf row waiting } .notice
        (u.withSegment g { r with claims := more }) := by
    unfold enterNotice
    dsimp only
    rw [kept.parameterOf, kept.now]
  rw [run]
  refine ⟨kept.trans entered.toSequencerKept, entered.gatesOrdered (left.gatesOrdered h.orders), _, entered.record,
    (derivedAs_up up).mpr ⟨nofun, fun _ => ⟨x.parameterOf row waiting, ?_, ?_⟩⟩⟩
  · simp only [SegmentRec.noticed, waiting, leadOf, more, List.any_cons, List.any_nil, Bool.or_false, grace, announced]
  · exact parameterOf_again rfl rfl rfl

/-- A further claim of a segment in NOTICE; an urgent one finds an urgent lead. -/
theorem claimArrives_standing_next (up : x.someGateDown g = false) (h : Standing x g row q claims u)
    (claimed : claims ≠ []) (new : mapGet claims source = none)
    (shorter : urgent = true → (claims.any fun e => e.2.urgent) = true) :
    Standing x g row q (mapPut claims source { urgent := urgent, placed := x.now }) (placeClaim source urgent g u) := by
  obtain ⟨r, found, present', held, derived⟩ := h.segment present fresh
  obtain ⟨p, rfl, -⟩ := ((derivedAs_up up).mp derived).2 claimed
  obtain ⟨-, -, -, grace, -⟩ := fresh
  let more := mapPut claims source { urgent := urgent, placed := x.now }
  have lead : leadOf row more = leadOf row claims := by
    unfold leadOf
    rw [any_mapPut_of_none _ new]
    cases urgent with
    | false => rfl
    | true => rw [shorter rfl]; rfl
  let r' := q.noticed x.now row more p
  have shortened : urgent = true →
      ({ r' with lead := shortenLead x.now row.urgentLead r'.lead } : SegmentRec) = r' := by
    intro e
    have short : leadOf row more = row.urgentLead := by
      rw [lead, leadOf, if_pos (shorter e)]
    simp only [r', SegmentRec.noticed, shortenLead, short, Option.map_some, min_self]
  have left : SegmentLeft g u (u.withSegment g r') r' := segmentLeft_withSegment u g r'
  have start : ({ q.noticed x.now row claims p with claims := more } : SegmentRec) = r' := by
    simp only [r', SegmentRec.noticed, lead]
  rw [placeClaim_of_new found (held ▸ new), h.now]
  change Standing x g row q more
    (claimArrives g urgent (u.withSegment g { q.noticed x.now row claims p with claims := more }))
  rw [start, claimArrives_of_notice (left.segment present') present' rfl grace]
  have again : ∀ v, SegmentLeft g u v r' → Standing x g row q more (refreshParameter g v) := fun v k => by
    have kept := h.toSequencerKept.trans k.toSequencerKept
    have last := refreshParameter_leaves (k.segment present') (k.segmentRow ▸ present') rfl
    refine ⟨kept.trans last.toSequencerKept, last.gatesOrdered (k.gatesOrdered h.orders), _, last.record,
      (derivedAs_up up).mpr ⟨fun none => ?_, fun _ => ⟨v.parameterOf row r', rfl, ?_⟩⟩⟩
    · have put := mapGet_mapPut_self claims source { urgent := urgent, placed := x.now }
      rw [show mapPut claims source _ = [] from none] at put
      cases put
    · rw [kept.parameterOf]
      exact parameterOf_again rfl rfl rfl
  cases hurry : urgent with
  | false => exact again _ left
  | true =>
    have same := shortened hurry
    rw [if_pos rfl, show (u.withSegment g r').now = x.now from h.now, same]
    exact again _ ((segmentLeft_withSegment ..).behind left.toOnlySegment)

/-- A claim placed on a segment under derivation. -/
theorem placeClaim_standing (h : Standing x g row q claims u) (other : source ≠ 0)
    (shorter : urgent = true → ∀ e ∈ claims, e.2.urgent = true) :
    Standing x g row q (placedOn x.now source urgent claims) (placeClaim source urgent g u) := by
  unfold placedOn
  cases there : mapGet claims source with
  | some c =>
    obtain ⟨r, found, -, held, -⟩ := h.segment present fresh
    rw [placeClaim_of_held found other (held ▸ there)]
    exact h
  | none =>
    rw [if_neg (by simp)]
    cases down : x.someGateDown g with
    | true => exact claimArrives_standing_down present fresh down h there
    | false =>
      cases claims with
      | nil => exact claimArrives_standing_first present fresh down h
      | cons e l =>
        refine claimArrives_standing_next present fresh down h (by simp) there fun hurry => ?_
        rw [List.any_cons, shorter hurry e List.mem_cons_self]
        rfl

end

end Sys2Proof.Machine
end

section
/-!
SUPPORT. The stages of a derivation: starting state, standing claims, schedule, urgency notice (R112).
-/

namespace Sys2Proof.Machine

/-! ### One segment's part of a stage -/

/-- A segment without a record passes a stage untouched. -/
theorem segmentKept_of_absent {x s : State} {g : Nat} {op : Nat → State → State} {l : List Nat}
    (kept : SegmentKept g x s) (only : ∀ i t, OnlySegment i t (op i t))
    (absent : ∀ t, t.segment g = none → op g t = t) (none : x.segment g = none) :
    SegmentKept g x (forEach l op s) := by
  refine forEach_keeps (P := SegmentKept g x) kept fun i _ t k => ?_
  by_cases own : i = g
  · subst own
    rwa [absent t (k.same.trans none)]
  · exact k.trans ((only i t).beside fun e => own e.symm)

/-- One segment's part in a stage that acts on every segment. -/
theorem forEach_own {op : Nat → State → State} (only : ∀ i t, OnlySegment i t (op i t)) {g : Nat} (low : g < 8)
    (s : State) : ∃ u, SegmentKept g s u ∧ SegmentKept g (op g u) (forEach (List.range 8) op s) :=
  forEach_at (.refl g) .trans List.nodup_range (List.mem_range.mpr low)
    (fun j _ other t => (only j t).beside fun e => other e.symm) s

section
variable {g : Nat} {s : State} (absent : s.segment g = none)
include absent

theorem deriveStart_of_absent : deriveStart g s = s := by
  unfold deriveStart
  rw [absent]

theorem deriveClaims_of_absent : deriveClaims g s = s := by
  unfold deriveClaims
  rw [absent]

theorem evaluatePair_of_absent (e : Nat) : evaluatePair e g s = s := by
  unfold evaluatePair
  rw [absent]
  split
  · next nothing => cases nothing
  · rfl

end

/-! ### The claims of each stage -/

theorem SequencerKept.claimingPaths {s t : State} (h : SequencerKept s t) : t.claimingPaths = s.claimingPaths := by
  funext g
  have row : t.pathRow = s.pathRow := by
    funext p
    rw [State.pathRow, State.pathRow, h.serves .paths rfl, h.monitor]
  rw [State.claimingPaths, State.claimingPaths, row, h.monitor]

/-- The standing claims of a segment: GRADE's, then the paths'. -/
def State.standingClaims (x : State) (g : Nat) (row : SegmentRow) (grade : Nat) (claims : Map Claim) : Map Claim :=
  (x.claimingPaths g).foldl (fun c p => placedOn x.now (sourcePath0 + p) true c)
    (if grade = 5 ∧ row.gradeCloses = true then placedOn x.now sourceGrade true claims else claims)

/-- A schedule entry's claim is due on a segment whose bit it has. -/
def State.entryDue (x : State) (g : Nat) (row : SegmentRow) (e : Nat) : Bool :=
  (x.scheduleRow e).any fun y => maskHas y.mask g && claimDue y row.normalLead x.sequencer.clock

/-- The schedule's claims over those that stand. -/
def State.scheduledClaims (x : State) (g : Nat) (row : SegmentRow) (n : Nat) (claims : Map Claim) : Map Claim :=
  (List.range n).foldl
    (fun c e => if x.entryDue g row e then placedOn x.now (sourceSchedule0 + e) false c else c) claims

/-- Several claims placed in turn. -/
theorem mapGet_foldl_placedOn {now : Nat} {urgent : Bool} {f : Nat → Nat} (p : Nat → Bool) (l : List Nat)
    (claims : Map Claim) (i : Nat) :
    mapGet (l.foldl (fun c e => if p e then placedOn now (f e) urgent c else c) claims) i =
      if ∃ e ∈ l, p e = true ∧ f e = i then some ((mapGet claims i).getD { urgent := urgent, placed := now })
      else mapGet claims i := by
  induction l generalizing claims with
  | nil => simp
  | cons e l ih =>
    rw [List.foldl_cons, ih]
    by_cases here : p e = true
    · rw [if_pos here, mapGet_placedOn]
      by_cases same : i = f e
      · subst same
        simp [here]
      · have other : f e ≠ i := fun h => same h.symm
        simp [same, other]
    · simp [here]

theorem mapGet_foldl_placed {now : Nat} {urgent : Bool} {f : Nat → Nat} (l : List Nat) (claims : Map Claim) (i : Nat) :
    mapGet (l.foldl (fun c e => placedOn now (f e) urgent c) claims) i =
      if ∃ e ∈ l, f e = i then some ((mapGet claims i).getD { urgent := urgent, placed := now })
      else mapGet claims i := by
  have all := mapGet_foldl_placedOn (now := now) (urgent := urgent) (f := f) (fun _ => true) l claims i
  simpa using all

/-! ### The stages -/

section
variable {x u : State} {g : Nat} {row : SegmentRow} {q : SegmentRec} {claims : Map Claim}

/-- The claim set of a starting state. -/
def State.startClaims (x : State) (g : Nat) : Map Claim :=
  if x.someGateDown g then [(sourceRestart, { urgent := true, placed := x.now })] else []

theorem derivedAs_keeps {r : SegmentRec} (h : derivedAs x g row q claims r) :
    r.grade = q.grade ∧ r.gateFault = q.gateFault := by
  cases down : x.someGateDown g with
  | true =>
    rw [((derivedAs_down down).mp h).2]
    exact ⟨rfl, rfl⟩
  | false =>
    obtain ⟨empty, more⟩ := (derivedAs_up down).mp h
    by_cases none : claims = []
    · rw [empty none]
      exact ⟨rfl, rfl⟩
    · obtain ⟨p, rfl, -⟩ := more none
      exact ⟨rfl, rfl⟩

/-- The claims of the entries not yet evaluated are absent. -/
theorem unplaced_scheduledClaims {n e : Nat} (later : n ≤ e) (unplaced : mapGet claims (sourceSchedule0 + e) = none) :
    mapGet (x.scheduledClaims g row n claims) (sourceSchedule0 + e) = none := by
  unfold State.scheduledClaims
  rw [mapGet_foldl_placedOn (x.entryDue g row) (List.range n) claims, if_neg]
  · exact unplaced
  · rintro ⟨k, mem, -, same⟩
    have low := List.mem_range.mp mem
    omega

variable (present : x.segmentRow g = some row)
include present

theorem deriveStart_standing {n : Nat} (k : SegmentKept g x u)
    (record : mapGet x.sequencer.segments g = some (.built n)) :
    Standing x g row (x.faultRead g (.built n)) (x.startClaims g) (deriveStart g u) := by
  let q := x.faultRead g (.built n)
  have present' : u.segmentRow g = some row := k.segmentRow ▸ present
  have found : u.segment g = some (.built n) :=
    State.segment_eq_some.mpr ⟨by rw [present']; rfl, k.record.trans record⟩
  have left := segmentLeft_withSegment u g q
  have kept := k.toSequencerKept.trans left.toSequencerKept
  have run : deriveStart g u = deriveOpen g q (u.withSegment g q) := by
    unfold deriveStart
    rw [found]
    simp only [q, State.faultRead, k.gateFaultOf]
  have same : (u.withSegment g q).someGateDown g = x.someGateDown g := by
    rw [State.someGateDown, State.someGateDown, kept.configuredGates, kept.gateState]
  rw [run]
  unfold deriveOpen
  rw [same]
  cases down : x.someGateDown g with
  | true =>
    have one : mapPut q.claims sourceRestart { urgent := true, placed := (u.withSegment g q).now } =
        x.startClaims g := by
      rw [State.startClaims, down, if_pos rfl, kept.now]
      rfl
    have claimed : x.startClaims g ≠ [] := by
      rw [State.startClaims, down]
      exact nofun
    rw [if_pos rfl, one]
    have entered := enterClosing_enters (s := u.withSegment g q) (g := g) present'
      (r := { q with claims := x.startClaims g }) claimed
    have orders := enterClosing_orders (u.withSegment g q) g (r := { q with claims := x.startClaims g }) rfl
    unfold gatesOrdered at orders
    rw [kept.configuredGates] at orders
    refine ⟨kept.trans entered.toSequencerKept, ?_, _, entered.record, (derivedAs_down down).mpr ⟨claimed, ?_⟩⟩
    · rw [State.derivedOrder, down]
      exact orders
    · rw [kept.allGates]
  | false =>
    rw [if_neg Bool.false_ne_true]
    have orders := orderGates_orders (u.withSegment g q) g .raise
    unfold gatesOrdered at orders
    rw [kept.configuredGates] at orders
    have none : x.startClaims g = [] := by rw [State.startClaims, down]; rfl
    refine ⟨kept.trans (onlySegment_orderGates (.refl g _) .raise).toSequencerKept, ?_, q, left.record, ?_⟩
    · rw [State.derivedOrder, down]
      exact orders
    · rw [none, derivedAs_up down]
      exact ⟨fun _ => rfl, fun h => absurd rfl h⟩

variable (fresh : q.fresh)
include fresh

/-- Several urgent claims placed in turn. -/
theorem forEach_placeClaim_standing {f : Nat → Nat} (nonzero : ∀ p, f p ≠ 0) (l : List Nat)
    (h : Standing x g row q claims u) (all : ∀ e ∈ claims, e.2.urgent = true) :
    Standing x g row q (l.foldl (fun c p => placedOn x.now (f p) true c) claims)
      (forEach l (fun p => placeClaim (f p) true g) u) := by
  induction l generalizing claims u with
  | nil => exact h
  | cons p l ih =>
    rw [forEach_cons, List.foldl_cons]
    refine ih (placeClaim_standing present fresh h (nonzero p) fun _ => all) fun e mem => ?_
    rcases mem_placedOn mem with rfl | old
    · rfl
    · exact all e old

theorem deriveClaims_standing (h : Standing x g row q claims u) (all : ∀ e ∈ claims, e.2.urgent = true) :
    Standing x g row q (x.standingClaims g row q.grade claims) (deriveClaims g u) := by
  obtain ⟨r, found, present', -, derived⟩ := h.segment present fresh
  obtain ⟨grade, -⟩ := derivedAs_keeps derived
  have graded : Standing x g row q
        (if q.grade = 5 ∧ row.gradeCloses = true then placedOn x.now sourceGrade true claims else claims)
        (if r.grade = 5 ∧ row.gradeCloses = true then placeClaim sourceGrade true g u else u) ∧
      ∀ e ∈ (if q.grade = 5 ∧ row.gradeCloses = true then placedOn x.now sourceGrade true claims else claims),
        e.2.urgent = true := by
    rw [grade]
    split
    · refine ⟨placeClaim_standing present fresh h (by decide) fun _ => all, fun e mem => ?_⟩
      rcases mem_placedOn mem with rfl | old
      · rfl
      · exact all e old
    · exact ⟨h, all⟩
  have run : deriveClaims g u = forEach (x.claimingPaths g) (fun p => placeClaim (sourcePath0 + p) true g)
      (if r.grade = 5 ∧ row.gradeCloses = true then placeClaim sourceGrade true g u else u) := by
    unfold deriveClaims
    rw [found, present']
    dsimp only
    rw [graded.1.claimingPaths]
  rw [run]
  exact forEach_placeClaim_standing present fresh (fun p => by simp [sourcePath0]) _ graded.1 graded.2

/-- One entry at one segment. -/
theorem evaluatePair_standing (h : Standing x g row q claims u) {e : Nat}
    (unplaced : mapGet claims (sourceSchedule0 + e) = none) :
    Standing x g row q
      (if x.entryDue g row e then placedOn x.now (sourceSchedule0 + e) false claims else claims)
      (evaluatePair e g u) := by
  obtain ⟨r, found, present', held, -⟩ := h.segment present fresh
  unfold evaluatePair
  rw [found, present', h.scheduleRow, h.clock]
  cases entry : x.scheduleRow e with
  | none =>
    have never : x.entryDue g row e = false := by
      rw [State.entryDue, entry]
      rfl
    rw [never]
    exact h
  | some y =>
    have value : x.entryDue g row e = (maskHas y.mask g && claimDue y row.normalLead x.sequencer.clock) := by
      rw [State.entryDue, entry]
      rfl
    rw [value]
    dsimp only
    cases maskHas y.mask g with
    | false => exact h
    | true =>
      cases claimDue y row.normalLead x.sequencer.clock with
      | true => exact placeClaim_standing present fresh h (by simp [sourceSchedule0]) nofun
      | false =>
        have still : (mapGet r.claims (sourceSchedule0 + e)).isSome = false := by rw [held, unplaced]; rfl
        rw [still]
        exact h

theorem evaluateSchedule_standing (low : g < 8) (h : Standing x g row q claims u)
    (unplaced : ∀ e, mapGet claims (sourceSchedule0 + e) = none) :
    Standing x g row q (x.scheduledClaims g row 32 claims) (evaluateSchedule u) := by
  have upTo : ∀ n, Standing x g row q (x.scheduledClaims g row n claims)
      (forEach (List.range n) (fun e => forEach (List.range 8) (evaluatePair e)) u) := by
    intro n
    induction n with
    | zero => exact h
    | succ n ih =>
      have split : forEach (List.range (n + 1)) (fun e => forEach (List.range 8) (evaluatePair e)) u =
          forEach (List.range 8) (evaluatePair n)
            (forEach (List.range n) (fun e => forEach (List.range 8) (evaluatePair e)) u) := by
        rw [List.range_succ]
        exact List.foldl_append
      have claims' : x.scheduledClaims g row (n + 1) claims =
          if x.entryDue g row n then placedOn x.now (sourceSchedule0 + n) false (x.scheduledClaims g row n claims)
          else x.scheduledClaims g row n claims := by
        unfold State.scheduledClaims
        rw [List.range_succ]
        exact List.foldl_append
      rw [split, claims']
      obtain ⟨v, first, last⟩ := forEach_own (fun i t => onlySegment_evaluatePair (.refl i t) n) low
        (forEach (List.range n) (fun e => forEach (List.range 8) (evaluatePair e)) u)
      exact (evaluatePair_standing present fresh (ih.later first)
        (unplaced_scheduledClaims (Nat.le_refl n) (unplaced n))).later last
  exact upTo 32

end

end Sys2Proof.Machine
end

section
/-!
SUPPORT. The lead that a derived segment's first claim sets, and what a lead of 0 decides at once (R103, R104).
-/

namespace Sys2Proof.Machine

/-! ### The approach signs (R104) -/

theorem mem_approachSigns {s : State} {g i : Nat} {y : SignRow} :
    (i, y) ∈ s.approachSigns g ↔
      i < 24 ∧ (s.reference .signs i).map Machine.signRow = some y ∧ y.segment = g ∧ y.approach = true := by
  unfold State.approachSigns
  rw [List.mem_filterMap]
  constructor
  · rintro ⟨j, mem, found⟩
    cases row : (s.reference .signs j).map Machine.signRow with
    | none =>
      rw [row] at found
      cases found
    | some z =>
      rw [row] at found
      dsimp only at found
      split at found
      · next own =>
        cases found
        exact ⟨List.mem_range.mp mem, row, own⟩
      · cases found
  · rintro ⟨low, row, own⟩
    refine ⟨i, List.mem_range.mpr low, ?_⟩
    rw [row]
    exact if_pos own

theorem signConfirmed_iff {s : State} {i : Nat} {y : SignRow} :
    s.signConfirmed (i, y) = true ↔
      ∃ z ∈ s.sign i, z.status = .confirmed ∧ ∃ f ∈ z.confirmed, (f.1 = y.notice ∨ f.1 = y.closed) ∧ f.1 ≠ 0 := by
  simp only [State.signConfirmed, faceCounts, Option.any_eq_true, Bool.and_eq_true, Bool.or_eq_true, beq_iff_eq,
    bne_iff_ne, Option.mem_def]

/-- A segment's lead decides for CLOSING at once, as far as its signs tell. -/
def State.signsReady (s : State) (g : Nat) : Bool :=
  (s.approachSigns g).isEmpty || (s.approachSigns g).any s.signConfirmed

theorem signsReady_iff (s : State) (g : Nat) : s.signsReady g = true ↔ signsAllow s g := by
  unfold State.signsReady signsAllow
  rw [Bool.or_eq_true, List.isEmpty_iff, List.eq_nil_iff_forall_not_mem, List.any_eq_true]
  refine or_congr ⟨fun none i low y row own => ?_, fun none e mem => ?_⟩ ⟨?_, ?_⟩
  · exact none (i, y) (mem_approachSigns.mpr ⟨low, row, own⟩)
  · obtain ⟨low, row, own⟩ := mem_approachSigns.mp mem
    exact none e.1 low e.2 row own
  · rintro ⟨e, mem, confirmed⟩
    obtain ⟨low, row, segment, approach⟩ := mem_approachSigns.mp mem
    exact ⟨e.1, low, e.2, row, segment, approach, signConfirmed_iff.mp confirmed⟩
  · rintro ⟨i, low, y, row, segment, approach, confirmed⟩
    exact ⟨(i, y), mem_approachSigns.mpr ⟨low, row, segment, approach⟩, signConfirmed_iff.mpr confirmed⟩

theorem SequencerKept.signsReady {s t : State} (h : SequencerKept s t) : t.signsReady = s.signsReady := by
  funext g
  have signs : t.approachSigns = s.approachSigns := by
    funext g
    rw [State.approachSigns, State.approachSigns, h.reference]
  have confirmed : t.signConfirmed = s.signConfirmed := by
    funext e
    rw [State.signConfirmed, State.signConfirmed, h.sign]
  rw [State.signsReady, State.signsReady, signs, confirmed]

/-! ### The expiry of a lead (R104) -/

/-- The end of an event leaves every record. -/
theorem segmentKept_segmentEvent (cause : SegmentCause) (f : State → State) (s : State) (g : Nat) :
    SegmentKept g (f s) (segmentEvent cause f s) :=
  forEach_keeps (P := SegmentKept g (f s)) (.refl g _) fun _ _ _ k =>
    k.trans (segmentWithheld_segmentOutcome ..).toSegmentKept

theorem SegmentLeft.later {g : Nat} {s t u : State} {r : SegmentRec} (h : SegmentLeft g s t r)
    (k : SegmentKept g t u) (only : OnlySegment g s u) : SegmentLeft g s u r := ⟨only, k.record.trans h.record⟩

section
variable {s : State} {g : Nat} {row : SegmentRow} {r : SegmentRec} (present : s.segmentRow g = some row)
  (found : s.segment g = some r) (notice : r.state = .notice) (claimed : r.claims ≠ [])
include present found notice

/-- What a running lead decides. -/
theorem leadDecision_eq (running : r.lead.isSome = true) :
    leadDecision g s = if r.urgent || s.signsReady g then enterClosing g r s
      else s.withSegment g { r with lead := none, grace := some (s.now + seconds row.grace) } := by
  unfold leadDecision
  rw [found, present]
  dsimp only
  rw [if_pos ⟨notice, running⟩, State.signsReady, ← Bool.or_assoc]

include claimed

/-- The expiry of a lead that does not wait. -/
theorem leadStep_closes (running : r.lead.isSome = true) (ready : (r.urgent || s.signsReady g) = true) :
    SegmentLeft g s (leadStep g s) (r.closed (s.allGates g .lowered)) ∧ gatesOrdered s (leadStep g s) g .lower := by
  have decided : leadDecision g s = enterClosing g r s := by
    rw [leadDecision_eq present found notice running, if_pos ready]
  have entered := enterClosing_enters (g := g) present claimed
  have orders := enterClosing_orders s g (r := r) (by rw [notice]; rfl)
  have kept := segmentKept_segmentEvent .leadExpiry (leadDecision g) s g
  rw [decided] at kept
  have still : leadStep g s = segmentEvent .leadExpiry (leadDecision g) s := by
    unfold leadStep
    refine if_neg ?_
    rw [kept.same, entered.segment present]
    exact nofun
  rw [still]
  refine ⟨entered.toSegmentLeft.later kept ?_, kept.gatesOrdered orders⟩
  exact onlySegment_segmentEvent (.refl g s) _ (onlySegment_leadDecision (.refl g s))

/-- The expiry of a lead that waits for its signs. -/
theorem leadStep_waits (running : r.lead.isSome = true) (waits : (r.urgent || s.signsReady g) = false) :
    (1 ≤ row.grace → SegmentLeft g s (leadStep g s)
      { r with lead := none, grace := some (s.now + seconds row.grace) }) ∧
    (row.grace = 0 → SegmentLeft g s (leadStep g s) ({ r with unannounced := true }.closed (s.allGates g .lowered)) ∧
      gatesOrdered s (leadStep g s) g .lower) := by
  let waiting : SegmentRec := { r with lead := none, grace := some (s.now + seconds row.grace) }
  have decided : leadDecision g s = s.withSegment g waiting := by
    rw [leadDecision_eq present found notice running, waits]
    rfl
  have kept := segmentKept_segmentEvent .leadExpiry (leadDecision g) s g
  rw [decided] at kept
  have only : OnlySegment g s (segmentEvent .leadExpiry (leadDecision g) s) :=
    onlySegment_segmentEvent (.refl g s) _ (onlySegment_leadDecision (.refl g s))
  have left : SegmentLeft g s (segmentEvent .leadExpiry (leadDecision g) s) waiting :=
    (segmentLeft_withSegment s g waiting).later kept only
  have there := left.segment present
  generalize event : segmentEvent .leadExpiry (leadDecision g) s = t at only left there
  have atOnce : graceAtOnce (t.segment g) t.now = decide (row.grace = 0) := by
    rw [there, left.now, graceAtOnce, Option.any_some]
    simp only [waiting, Option.any_some, seconds, decide_eq_decide]
    omega
  have step : leadStep g s = if row.grace = 0 then graceStep g t else t := by
    unfold leadStep
    rw [event]
    dsimp only
    rw [atOnce]
    by_cases none : row.grace = 0 <;> simp [none]
  refine ⟨fun some => ?_, fun none => ?_⟩
  · rw [step, if_neg (by omega)]
    exact left
  · rw [step, if_pos none]
    have present' : t.segmentRow g = some row := left.segmentRow ▸ present
    have closes : graceDecision g t = enterClosing g { waiting with unannounced := true } t := by
      unfold graceDecision
      rw [there]
      exact if_pos ⟨notice, rfl⟩
    have entered := enterClosing_enters present' (r := { waiting with unannounced := true }) claimed
    have orders := enterClosing_orders t g (r := { waiting with unannounced := true })
      (by rw [show ({ waiting with unannounced := true } : SegmentRec).state = .notice from notice]; rfl)
    have kept := segmentKept_segmentEvent .unannounced (graceDecision g) t g
    rw [closes] at kept
    have last := entered.toSegmentLeft.later kept (onlySegment_graceStep (.refl g t))
    have ordered := kept.gatesOrdered orders
    rw [left.allGates] at last
    unfold gatesOrdered at ordered
    rw [left.configuredGates] at ordered
    exact ⟨last.behind left.toOnlySegment, ordered⟩

end

/-! ### The notice that a derivation begins -/

theorem noticeBegins_later {x v w : State} {g : Nat} {row : SegmentRow} {urgent : Bool} {r : SegmentRec}
    (h : noticeBegins x v g row urgent r) (k : SequencerKept v w) : noticeBegins x w g row urgent r := by
  have closes : closesTo x v g r → closesTo x w g r := fun ⟨a, b, c, d, orders⟩ => ⟨a, b, c, d, k.gatesOrdered orders⟩
  have spoken : parameterSays v row r → parameterSays w row r := fun h => by
    unfold parameterSays at h ⊢
    rwa [k.clock, k.scheduleRow, k.now]
  obtain ⟨runs, ready, waits, ends⟩ := h
  unfold noticeBegins
  rw [k.now]
  refine ⟨fun a => ?_, fun a b => ?_, fun a b c => ?_, fun a b c => ?_⟩
  · obtain ⟨state, lead, grace, announced, parameter⟩ := runs a
    exact ⟨state, lead, grace, announced, spoken parameter⟩
  · exact ⟨closes (ready a b).1, (ready a b).2⟩
  · obtain ⟨state, lead, announced, grace, parameter⟩ := waits a b c
    exact ⟨state, lead, announced, grace, spoken parameter⟩
  · exact ⟨closes (ends a b c).1, (ends a b c).2⟩

/-- The lead of a segment that claims have brought into NOTICE, run out where it is 0. -/
def leadRun (g : Nat) (u : State) : State :=
  if leadAtOnce none (u.segment g) u.now then leadStep g u else u

theorem onlySegment_leadRun (g : Nat) (u : State) : OnlySegment g u (leadRun g u) := by
  unfold leadRun
  split
  · exact onlySegment_leadStep (.refl g u)
  · exact .refl g u

section
variable {x u : State} {g : Nat} {row : SegmentRow} {q : SegmentRec} {claims : Map Claim}
  (present : x.segmentRow g = some row) (fresh : q.fresh) (h : Standing x g row q claims u)
include present fresh h

/-- A segment without a lead to run. -/
theorem leadRun_of_still (still : x.someGateDown g = true ∨ claims = []) : leadRun g u = u := by
  obtain ⟨r, found, -, -, derived⟩ := h.segment present fresh
  refine if_neg ?_
  rw [found]
  have none : r.lead = none := by
    cases down : x.someGateDown g with
    | true =>
      rw [((derivedAs_down down).mp derived).2]
      rfl
    | false =>
      rw [((derivedAs_up down).mp derived).1 (still.resolve_left (by simp [down]))]
      exact fresh.2.2.1
  rw [leadAtOnce, Option.any_some, none]
  exact nofun

/-- The NOTICE that the claims of a derivation begin. -/
theorem leadRun_begins (up : x.someGateDown g = false) (claimed : claims ≠ []) (sorted : mapSorted claims = true)
    (few : ∀ e ∈ claims, e.1 ≤ 50) :
    ∃ r', mapGet (leadRun g u).sequencer.segments g = some r' ∧ r'.claims = claims ∧ r'.grade = q.grade ∧
      r'.gateFault = q.gateFault ∧ r'.state ≠ .opened ∧ r'.state ≠ .reopening ∧
      noticeBegins x (leadRun g u) g row r'.urgent r' := by
  obtain ⟨r, found, present', -, derived⟩ := h.segment present fresh
  obtain ⟨p, rfl, computed⟩ := ((derivedAs_up up).mp derived).2 claimed
  obtain ⟨-, -, -, grace, -, announced, -⟩ := fresh
  let r := q.noticed x.now row claims p
  let ready := r.urgent || u.signsReady g
  have lead : leadOf row claims = if r.urgent = true then row.urgentLead else row.normalLead := rfl
  have kept := (onlySegment_leadRun g u).toSequencerKept
  have spoken : ∀ r' : SegmentRec, r'.claims = r.claims → r'.parameter = r.parameter →
      (r'.lead.map fun e => e - (leadRun g u).now).getD 0 = (r.lead.map fun e => e - (leadRun g u).now).getD 0 →
      parameterSays (leadRun g u) row r' := fun r' same parameter remaining =>
    parameterSays_of_computed (s := x) (kept.clock.trans h.clock) (kept.scheduleRow.trans h.scheduleRow)
      (kept.now.trans h.now) sorted few computed.symm same parameter remaining
  have atOnce : leadAtOnce none (u.segment g) u.now = decide (leadOf row claims = 0) := by
    rw [found, h.now]
    simp only [leadAtOnce, SegmentRec.noticed, Option.any_some, seconds, Option.bind_none, ne_eq, reduceCtorEq,
      not_false_eq_true, decide_true, Bool.and_true, decide_eq_decide]
    omega
  have waits : (r.urgent = false ∧ ¬ signsAllow x g) ↔ ready = false := by
    rw [← signsReady_iff, Bool.or_eq_false_iff, h.signsReady, Bool.not_eq_true]
  have run : leadRun g u = if leadOf row claims = 0 then leadStep g u else u := by
    unfold leadRun
    rw [atOnce]
    by_cases none : leadOf row claims = 0 <;> simp [none]
  by_cases none : leadOf row claims = 0
  · rw [if_pos none] at run
    have closing : ∀ r' : SegmentRec, gatesOrdered u (leadStep g u) g .lower →
        closesTo x (leadRun g u) g (r'.closed (u.allGates g .lowered)) := fun r' orders => by
      rw [run, h.allGates]
      unfold gatesOrdered at orders
      rw [h.configuredGates] at orders
      exact ⟨rfl, rfl, rfl, rfl, orders⟩
    have shut : ∀ r' : SegmentRec, (r'.closed (u.allGates g .lowered)).state ≠ .opened ∧
        (r'.closed (u.allGates g .lowered)).state ≠ .reopening := fun r' => by
      unfold SegmentRec.closed
      dsimp only
      split <;> exact ⟨nofun, nofun⟩
    have zero : ¬ 1 ≤ (if r.urgent = true then row.urgentLead else row.normalLead) := by
      rw [← lead, none]
      exact Nat.not_succ_le_zero 0
    cases decided : ready with
    | true =>
      obtain ⟨left, orders⟩ := leadStep_closes present' found rfl claimed rfl decided
      have waitless : ¬ (r.urgent = false ∧ ¬ signsAllow x g) := fun w => by
        rw [waits.mp w] at decided
        cases decided
      exact ⟨r.closed _, by rw [run]; exact left.record, rfl, rfl, rfl, (shut r).1, (shut r).2,
        fun some => absurd some zero,
        fun _ _ => ⟨closing r orders, announced⟩, fun _ w => absurd w waitless, fun _ w => absurd w waitless⟩
    | false =>
      obtain ⟨grants, ends⟩ := leadStep_waits present' found rfl claimed rfl decided
      have waiting := waits.mpr decided
      by_cases brief : row.grace = 0
      · obtain ⟨left, orders⟩ := ends brief
        exact ⟨{ r with unannounced := true }.closed _, by rw [run]; exact left.record, rfl, rfl, rfl, (shut _).1,
          (shut _).2, fun some => absurd some zero,
          fun _ w => absurd waiting w, fun _ _ some => absurd brief (Nat.ne_of_gt some),
          fun _ _ _ => ⟨closing _ orders, rfl⟩⟩
      · have left := grants (Nat.pos_of_ne_zero brief)
        have graced : ({ r with lead := .none, grace := some (u.now + seconds row.grace) } : SegmentRec).grace =
            some ((leadRun g u).now + 10 * row.grace) := by rw [kept.now]; rfl
        refine ⟨{ r with lead := .none, grace := some (u.now + seconds row.grace) },
          by rw [run]; exact left.record, rfl, rfl, rfl, nofun, nofun, fun some => absurd some zero,
          fun _ w => absurd waiting w, fun _ _ _ => ⟨rfl, rfl, announced, graced, spoken _ rfl rfl ?_⟩,
          fun _ _ e => absurd e brief⟩
        change 0 = x.now + seconds (leadOf row claims) - (leadRun g u).now
        rw [none, kept.now, h.now]
        exact (Nat.sub_self _).symm
  · rw [if_neg none] at run
    have runs : (if r.urgent = true then row.urgentLead else row.normalLead) ≠ 0 := by
      rw [← lead]
      exact none
    have timed : r.lead =
        some ((leadRun g u).now + 10 * (if r.urgent = true then row.urgentLead else row.normalLead)) := by
      rw [kept.now, h.now, ← lead]
      rfl
    exact ⟨r, by rw [run]; exact (State.segment_eq_some.mp found).2, rfl, rfl, rfl, nofun, nofun,
      fun _ => ⟨rfl, timed, grace, announced, spoken r rfl rfl rfl⟩, fun e => absurd e runs, fun e => absurd e runs,
      fun e => absurd e runs⟩

end

end Sys2Proof.Machine
end

section
/-!
SUPPORT. SEGMENTS into service: the claims that stand after the derivation, and each segment's record (R112).
-/

namespace Sys2Proof.Machine

/-! ### The claims that stand -/

theorem mapGet_startClaims (x : State) (g i : Nat) :
    mapGet (x.startClaims g) i =
      if i = 1 ∧ x.someGateDown g = true then some { urgent := true, placed := x.now } else none := by
  unfold State.startClaims
  cases down : x.someGateDown g with
  | false => simp
  | true =>
    by_cases one : i = 1
    · rw [if_pos rfl, if_pos ⟨one, rfl⟩, one]
      rfl
    · rw [if_pos rfl, if_neg fun h => one h.1]
      exact mapGet_mapPut_of_ne [] _ one

/-- Every standing claim is urgent and was placed now. -/
theorem mapGet_standingClaims (x : State) (g : Nat) (row : SegmentRow) (grade i : Nat) :
    mapGet (x.standingClaims g row grade (x.startClaims g)) i =
      if (∃ p ∈ x.claimingPaths g, 3 + p = i) ∨ (i = 2 ∧ grade = 5 ∧ row.gradeCloses = true) ∨
          (i = 1 ∧ x.someGateDown g = true) then
        some { urgent := true, placed := x.now }
      else none := by
  have graded : mapGet (if grade = 5 ∧ row.gradeCloses = true then placedOn x.now sourceGrade true (x.startClaims g)
        else x.startClaims g) i =
      if (i = 2 ∧ grade = 5 ∧ row.gradeCloses = true) ∨ (i = 1 ∧ x.someGateDown g = true) then
        some { urgent := true, placed := x.now } else none := by
    by_cases closes : grade = 5 ∧ row.gradeCloses = true
    · rw [if_pos closes, mapGet_placedOn]
      by_cases two : i = sourceGrade
      · rw [if_pos two, if_pos (.inl ⟨two, closes⟩), mapGet_startClaims, if_neg fun h => absurd h.1 (by decide)]
        rfl
      · have other : i ≠ 2 := two
        rw [if_neg two, mapGet_startClaims]
        simp [other]
    · rw [if_neg closes, mapGet_startClaims]
      simp [closes]
  unfold State.standingClaims
  rw [mapGet_foldl_placed, graded]
  change (if ∃ p ∈ x.claimingPaths g, 3 + p = i then _ else _) = _
  by_cases path : ∃ p ∈ x.claimingPaths g, 3 + p = i
  · simp only [path, if_true, true_or]
    split <;> rfl
  · simp only [path, if_false, false_or]

theorem mapGet_scheduledClaims (x : State) (g : Nat) (row : SegmentRow) (claims : Map Claim) (i : Nat) :
    mapGet (x.scheduledClaims g row 32 claims) i =
      if ∃ e ∈ List.range 32, x.entryDue g row e = true ∧ 19 + e = i then
        some ((mapGet claims i).getD { urgent := false, placed := x.now })
      else mapGet claims i := by
  unfold State.scheduledClaims
  exact mapGet_foldl_placedOn (x.entryDue g row) (List.range 32) claims i

/-- Claims in order of their sources, none beyond the last. -/
def claimsOk (claims : Map Claim) : Prop := mapSorted claims = true ∧ ∀ e ∈ claims, e.1 ≤ 50

theorem claimsOk_placedOn {now source : Nat} {urgent : Bool} {claims : Map Claim} (ok : claimsOk claims)
    (low : source ≤ 50) : claimsOk (placedOn now source urgent claims) := by
  refine ⟨mapSorted_placedOn ok.1, fun e mem => ?_⟩
  rcases mem_placedOn mem with rfl | old
  · exact low
  · exact ok.2 e old

theorem claimsOk_foldl {f : Map Claim → Nat → Map Claim} (l : List Nat) {claims : Map Claim} (ok : claimsOk claims)
    (keeps : ∀ c, ∀ i ∈ l, claimsOk c → claimsOk (f c i)) : claimsOk (l.foldl f claims) := by
  induction l generalizing claims with
  | nil => exact ok
  | cons i l ih =>
    exact ih (keeps _ i List.mem_cons_self ok) fun c j mem => keeps c j (List.mem_cons_of_mem _ mem)

/-- The claim set of a segment at the end of its derivation. -/
def State.derivedClaims (x : State) (g : Nat) (row : SegmentRow) (grade : Nat) : Map Claim :=
  x.scheduledClaims g row 32 (x.standingClaims g row grade (x.startClaims g))

theorem claimsOk_derivedClaims {x : State} {g : Nat} {row : SegmentRow} {grade : Nat}
    (paths : ∀ p ∈ x.claimingPaths g, p < 16) : claimsOk (x.derivedClaims g row grade) := by
  have start : claimsOk (x.startClaims g) := by
    unfold State.startClaims
    split
    · exact ⟨rfl, by simp [sourceRestart, sourceNum]⟩
    · exact ⟨rfl, nofun⟩
  refine claimsOk_foldl _ (claimsOk_foldl _ ?_ fun c p mem ok => claimsOk_placedOn ok ?_) fun c e mem ok => ?_
  · split
    · exact claimsOk_placedOn start (by decide)
    · exact start
  · have low := paths p mem
    unfold sourcePath0
    omega
  · have low := List.mem_range.mp mem
    split
    · exact claimsOk_placedOn ok (by unfold sourceSchedule0; omega)
    · exact ok

/-! ### The stages of a building -/

/-- The segments with their starting states, their standing claims and the schedule's. -/
def State.claimed (x : State) : State :=
  evaluateSchedule (forEach (List.range 8) deriveClaims (forEach (List.range 8) deriveStart x))

/-- The same with the urgency notices and reports. -/
def State.outcome (x : State) : State := forEach (List.range 8) deriveOutcome x.claimed

theorem buildSegments_eq (s : State) :
    buildSegments s = forEach (List.range 8) leadRun (makeSegments s).outcome := by
  have bare : ∀ g, (s.withSequencer { s.sequencer with segments := [] }).segment g = none := fun g => by
    unfold State.segment
    split <;> rfl
  change forEach (List.range 8) (fun g t => if leadAtOnce
    ((s.withSequencer { s.sequencer with segments := [] }).segment g) (t.segment g) t.now then leadStep g t else t)
      (makeSegments s).outcome = _
  simp only [bare]
  rfl

/-- The urgency notices and reports leave every record. -/
theorem segmentKept_deriveOutcome (i g : Nat) (s : State) : SegmentKept g s (deriveOutcome i s) :=
  (onlySegment_deriveOutcome (.refl (g + 1) s) i).beside (by omega)

theorem segmentKept_buildSegments_of_absent {s : State} {g : Nat} (none : (makeSegments s).segment g = none) :
    SegmentKept g (makeSegments s) (buildSegments s) := by
  let x := makeSegments s
  have starts : SegmentKept g x (forEach (List.range 8) deriveStart x) :=
    segmentKept_of_absent (.refl g x) (fun i t => onlySegment_deriveStart (.refl i t))
      (fun t => deriveStart_of_absent) none
  have claims := segmentKept_of_absent (l := List.range 8) starts (fun i t => onlySegment_deriveClaims (.refl i t))
    (fun t => deriveClaims_of_absent) none
  have evaluated : SegmentKept g x x.claimed :=
    forEach_keeps (P := SegmentKept g x) claims fun e _ t k =>
      segmentKept_of_absent k (fun i t => onlySegment_evaluatePair (.refl i t) e)
        (fun t absent => evaluatePair_of_absent absent e) none
  have told : SegmentKept g x x.outcome :=
    forEach_keeps (P := SegmentKept g x) evaluated fun i _ t k => k.trans (segmentKept_deriveOutcome i g t)
  rw [buildSegments_eq]
  refine segmentKept_of_absent told onlySegment_leadRun (fun t absent => if_neg ?_) none
  rw [absent]
  exact nofun

section
variable {s : State} {g : Nat} {row : SegmentRow} (low : g < 8) (present : (makeSegments s).segmentRow g = some row)
  (built : mapGet (makeSegments s).sequencer.segments g = some (.built (s.readGrade g)))
  (paths : ∀ p ∈ (makeSegments s).claimingPaths g, p < 16)
include low present built paths

/-- The derivation up to the schedule's claims. -/
theorem claimed_standing :
    Standing (makeSegments s) g row ((makeSegments s).faultRead g (.built (s.readGrade g)))
      ((makeSegments s).derivedClaims g row (s.readGrade g)) (makeSegments s).claimed := by
  let x := makeSegments s
  let q := x.faultRead g (.built (s.readGrade g))
  have fresh : q.fresh := ⟨rfl, rfl, rfl, rfl, rfl, rfl, rfl⟩
  obtain ⟨u, first, last⟩ := forEach_own (fun i t => onlySegment_deriveStart (.refl i t)) low x
  have started := (deriveStart_standing present first built).later last
  obtain ⟨u, first, last⟩ := forEach_own (fun i t => onlySegment_deriveClaims (.refl i t)) low
    (forEach (List.range 8) deriveStart x)
  have urgent : ∀ e ∈ x.startClaims g, e.2.urgent = true := by
    unfold State.startClaims
    split
    · intro e mem
      rw [List.mem_singleton.mp mem]
    · exact nofun
  have claimed := (deriveClaims_standing present fresh (started.later first) urgent).later last
  refine evaluateSchedule_standing present fresh low claimed fun e => ?_
  rw [mapGet_standingClaims, if_neg]
  rintro (⟨p, mem, same⟩ | ⟨same, -⟩ | ⟨same, -⟩)
  · have few := paths p mem
    unfold sourceSchedule0 at same
    omega
  · unfold sourceSchedule0 at same
    omega
  · unfold sourceSchedule0 at same
    omega

/-- The derivation with its urgency notices. -/
theorem outcome_standing :
    let x := makeSegments s
    let claims := x.derivedClaims g row (s.readGrade g)
    Standing x g row (x.faultRead g (.built (s.readGrade g))) claims x.outcome ∧
      ((claims.any fun e => e.2.urgent) = true → .urgencyNotice g true ∈ x.outcome.handed) := by
  intro x claims
  have standing := claimed_standing low present built paths
  have kept : SegmentKept g x.claimed x.outcome :=
    forEach_keeps (P := SegmentKept g x.claimed) (.refl ..) fun i _ t k => k.trans (segmentKept_deriveOutcome i g t)
  refine ⟨standing.later kept, fun hurry => ?_⟩
  obtain ⟨u, first, last⟩ := forEach_at (K := SegmentKept g) (.refl g) .trans (f := deriveOutcome)
    List.nodup_range (List.mem_range.mpr low) (fun j _ _ t => segmentKept_deriveOutcome j g t) x.claimed
  obtain ⟨r, found, -, held, -⟩ := (standing.later first).segment present ⟨rfl, rfl, rfl, rfl, rfl, rfl, rfl⟩
  refine last.handed _ ?_
  have urgent : r.urgent = true := by
    rw [SegmentRec.urgent, held]
    exact hurry
  unfold deriveOutcome
  rw [found]
  dsimp only
  rw [if_pos urgent]
  split <;> exact List.mem_append_right _ List.mem_cons_self

end

end Sys2Proof.Machine
end

section
/-!
OBLIGATION. SEGMENTS in and out of service, and the gates of its segments (R112, R113).
-/

namespace Sys2Proof.Machine

/-! ### What a building reads -/

theorem mem_claimingPaths {s : State} (ok : PathsOk s) {g p : Nat} :
    p ∈ s.claimingPaths g ↔ (∃ y ∈ mapGet s.monitor.paths p, y.decision = .claimed) ∧
      ∃ y ∈ s.pathRow p, maskHas y.mask g = true := by
  obtain ⟨-, -, sorted, -⟩ := ok
  simp only [State.claimingPaths, List.mem_filter, mem_mapKeys sorted, Bool.and_eq_true, Option.any_eq_true, beq_iff_eq,
    Option.mem_def]
  exact ⟨fun h => h.2, fun h => ⟨⟨_, h.1.choose_spec.1⟩, h⟩⟩

theorem low_of_claimingPaths {s : State} (ok : PathsOk s) {g p : Nat} (mem : p ∈ s.claimingPaths g) : p < 16 := by
  obtain ⟨⟨y, found, -⟩, -⟩ := (mem_claimingPaths ok).mp mem
  obtain ⟨-, -, -, each⟩ := ok
  exact (each _ (mem_of_mapGet found)).1

theorem took_claimingPaths {s : State} {c : Instr} (other : c ≠ .pathsOutOfService) (g : Nat) :
    (s.took c).claimingPaths g = s.claimingPaths g := by
  have serves : (s.took c).serves .paths .pathsOutOfService = s.serves .paths .pathsOutOfService := by
    rw [Bool.eq_iff_iff, State.serves_iff, State.serves_iff]
    exact and_congr_right fun _ => not_congr (List.mem_erase_of_ne other.symm)
  have row : (s.took c).pathRow = s.pathRow := by
    funext p
    rw [State.pathRow, State.pathRow, serves]
    rfl
  rw [State.claimingPaths, State.claimingPaths, row]
  rfl

theorem took_readGrade {s : State} {c : Instr} (other : c ≠ .graderSegmentsOutOfService) (g : Nat) :
    (s.took c).readGrade g = s.readGrade g := by
  rw [State.readGrade, State.readGrade, took_gradeRecord other]

/-- The grade of a segment in service is read from the Evaluator unless its notice of a clear waits. -/
theorem readGrade_of_active {s : State} (active : s.active .segments = true) (g : Nat) :
    s.readGrade g = if .graderSegmentsOutOfService ∈ s.handed then 0
      else ((mapGet s.grader.segments g).map GradeRec.effective).getD 0 := by
  unfold State.readGrade State.gradeRecord State.found State.serves
  by_cases waits : .graderSegmentsOutOfService ∈ s.handed <;> simp [active, waits]

/-! ### A segment built -/

section
variable {s : State} {g : Nat}

theorem makeSegments_record (s : State) (g : Nat) :
    mapGet (makeSegments s).sequencer.segments g = (s.reference .segments g).map fun _ => .built (s.readGrade g) := by
  rw [← mapGet_serviceRows]
  exact mapGet_map_values (s.serviceRows .segments) (fun e => SegmentRec.built (s.readGrade e.1)) g

/-- A segment with a row has been built. -/
theorem makeSegments_built {row : SegmentRow} (present : (makeSegments s).segmentRow g = some row) :
    mapGet (makeSegments s).sequencer.segments g = some (.built (s.readGrade g)) := by
  rw [makeSegments_record, ← mapGet_serviceRows]
  unfold State.segmentRow at present
  split at present
  · obtain ⟨bytes, found, -⟩ := Option.map_eq_some_iff.mp present
    rw [show mapGet (s.serviceRows .segments) g = some bytes from found]
    rfl
  · cases present

/-- A segment's record is there exactly where its row is present. -/
theorem buildSegments_isSome (s : State) {g : Nat} (low : g < 8)
    (paths : ∀ p ∈ (makeSegments s).claimingPaths g, p < 16) :
    (mapGet (buildSegments s).sequencer.segments g).isSome = (s.reference .segments g).isSome := by
  cases row : (makeSegments s).segmentRow g with
  | none =>
    have none : (makeSegments s).segment g = none := by rw [State.segment, row]; rfl
    rw [(segmentKept_buildSegments_of_absent none).record, makeSegments_record, Option.isSome_map]
  | some row' =>
    have built := makeSegments_built row
    obtain ⟨standing, -⟩ := outcome_standing low row built paths
    obtain ⟨u, first, last⟩ := forEach_own onlySegment_leadRun low (makeSegments s).outcome
    have there : (mapGet (leadRun g u).sequencer.segments g).isSome = true := by
      have fresh : ((makeSegments s).faultRead g (.built (s.readGrade g))).fresh := ⟨rfl, rfl, rfl, rfl, rfl, rfl, rfl⟩
      obtain ⟨r, stored, -⟩ := (standing.later first).record
      by_cases still : (makeSegments s).someGateDown g = true ∨
          (makeSegments s).derivedClaims g row' (s.readGrade g) = []
      · rw [leadRun_of_still row fresh (standing.later first) still, stored]
        rfl
      · obtain ⟨up, claimed⟩ := not_or.mp still
        obtain ⟨r', made, -⟩ := leadRun_begins row fresh (standing.later first) (by simpa using up) claimed
          (claimsOk_derivedClaims paths).1 (claimsOk_derivedClaims paths).2
        rw [made]
        rfl
    rw [buildSegments_eq, last.record, there]
    rw [makeSegments_record] at built
    cases present : s.reference .segments g with
    | none =>
      rw [present] at built
      cases built
    | some bytes => rfl

/-- A record without claims, state, timers or flags. -/
theorem fresh_eq {q : SegmentRec} (fresh : q.fresh) :
    q = { q with state := .opened, lead := none, grace := none, parameter := 0xFFFF
                 blocked := false, unannounced := false } := by
  obtain ⟨state, -, lead, grace, blocked, announced, parameter⟩ := fresh
  cases q
  simp_all [noParameter]

/-- What a derivation has made of a segment; `x` tells of the gates and the time. -/
def derivedIn (x t : State) (g : Nat) (row : SegmentRow) (r : SegmentRec) : Prop :=
  (x.someGateDown g = true → closesTo x t g r) ∧
  (x.someGateDown g = false → gatesOrdered x t g .raise) ∧
  (r.claims = [] → r = { r with state := .opened, lead := none, grace := none, parameter := 0xFFFF
                                blocked := false, unannounced := false }) ∧
  (r.claims ≠ [] → r.state ≠ .opened ∧ r.state ≠ .reopening) ∧
  (x.someGateDown g = false → r.claims ≠ [] → noticeBegins x t g row r.urgent r) ∧
  (r.urgent = true → Instr.urgencyNotice g true ∈ t.handed)

theorem derivedIn_later {x t u : State} {row : SegmentRow} {r : SegmentRec} (h : derivedIn x t g row r)
    (k : SequencerKept t u) : derivedIn x u g row r := by
  obtain ⟨down, up, bare, entered, begins, urgent⟩ := h
  refine ⟨fun e => ?_, fun e => k.gatesOrdered (up e), bare, entered, fun e d => noticeBegins_later (begins e d) k,
    fun e => k.handed _ (urgent e)⟩
  obtain ⟨state, lead, grace, parameter, orders⟩ := down e
  exact ⟨state, lead, grace, parameter, k.gatesOrdered orders⟩

/-- The record of a segment at the end of its building. -/
theorem buildSegments_derives {row : SegmentRow} (low : g < 8) (present : (makeSegments s).segmentRow g = some row)
    (paths : ∀ p ∈ (makeSegments s).claimingPaths g, p < 16) :
    let x := makeSegments s
    ∃ r, mapGet (buildSegments s).sequencer.segments g = some r ∧
      r.claims = x.derivedClaims g row (s.readGrade g) ∧ r.grade = s.readGrade g ∧ r.gateFault = x.gateFaultOf g ∧
      derivedIn x (buildSegments s) g row r := by
  intro x
  let q := x.faultRead g (.built (s.readGrade g))
  have fresh : q.fresh := ⟨rfl, rfl, rfl, rfl, rfl, rfl, rfl⟩
  obtain ⟨standing, told⟩ := outcome_standing low present (makeSegments_built present) paths
  obtain ⟨sorted, few⟩ := claimsOk_derivedClaims (row := row) (grade := s.readGrade g) paths
  obtain ⟨u, first, last⟩ := forEach_own onlySegment_leadRun low x.outcome
  rw [← buildSegments_eq s] at last
  have standing' := standing.later first
  have kept := (onlySegment_leadRun g u).toSequencerKept
  have urgent : ∀ r : SegmentRec, r.claims = x.derivedClaims g row (s.readGrade g) → r.urgent = true →
      Instr.urgencyNotice g true ∈ (leadRun g u).handed := fun r same hurry => by
    rw [SegmentRec.urgent, same] at hurry
    exact kept.handed _ (first.handed _ (told hurry))
  have orders := kept.gatesOrdered standing'.orders
  suffices h : ∃ r, mapGet (leadRun g u).sequencer.segments g = some r ∧
      r.claims = x.derivedClaims g row (s.readGrade g) ∧ r.grade = s.readGrade g ∧ r.gateFault = x.gateFaultOf g ∧
      derivedIn x (leadRun g u) g row r by
    obtain ⟨r, stored, claims, grade, fault, derived⟩ := h
    exact ⟨r, last.record.trans stored, claims, grade, fault, derivedIn_later derived last.toSequencerKept⟩
  cases down : x.someGateDown g with
  | true =>
    obtain ⟨r, stored, derived⟩ := standing'.record
    obtain ⟨claimed, rfl⟩ := (derivedAs_down down).mp derived
    rw [State.derivedOrder, down] at orders
    rw [leadRun_of_still present fresh standing' (.inl down)] at orders urgent ⊢
    have shut : ∀ b : Bool, (q.closed b).state ≠ .opened ∧ (q.closed b).state ≠ .reopening := fun b => by
      cases b <;> exact ⟨nofun, nofun⟩
    exact ⟨_, stored, rfl, rfl, rfl, fun _ => ⟨rfl, rfl, rfl, rfl, orders⟩, fun e => absurd (down.symm.trans e) nofun,
      fun none => absurd none claimed, fun _ => shut _, fun e => absurd (down.symm.trans e) nofun, urgent _ rfl⟩
  | false =>
    rw [State.derivedOrder, down] at orders
    by_cases claimed : x.derivedClaims g row (s.readGrade g) = []
    · obtain ⟨r, stored, derived⟩ := standing'.record
      obtain rfl := ((derivedAs_up down).mp derived).1 claimed
      rw [leadRun_of_still present fresh standing' (.inr claimed)] at orders urgent ⊢
      exact ⟨q, stored, claimed.symm, rfl, rfl, fun e => absurd (down.symm.trans e) nofun, fun _ => orders,
        fun _ => fresh_eq fresh, fun some => absurd rfl some, fun _ some => absurd rfl some, nofun⟩
    · obtain ⟨r', made, claims, grade, fault, opened, reopening, begins⟩ :=
        leadRun_begins present fresh standing' down claimed sorted few
      exact ⟨r', made, claims, grade, fault, fun e => absurd (down.symm.trans e) nofun, fun _ => orders,
        fun none => absurd (claims.symm.trans none) claimed, fun _ => ⟨opened, reopening⟩, fun _ _ => begins,
        urgent r' claims⟩

end

/-! ### The whole region -/

theorem sequencerKept_buildSegments (s : State) : SequencerKept (makeSegments s) (buildSegments s) := by
  rw [buildSegments_eq]
  refine sequencerKept_forEach (sequencerKept_forEach (sequencerKept_forEach (sequencerKept_forEach
    (sequencerKept_forEach (.refl _) ?_) ?_) ?_) ?_) ?_
  · exact fun i u => (onlySegment_deriveStart (.refl i u)).toSequencerKept
  · exact fun i u => (onlySegment_deriveClaims (.refl i u)).toSequencerKept
  · exact fun e u => sequencerKept_forEach (.refl u) fun i v =>
      (onlySegment_evaluatePair (.refl i v) e).toSequencerKept
  · exact fun i u => (onlySegment_deriveOutcome (.refl i u) i).toSequencerKept
  · exact fun i u => (onlySegment_leadRun i u).toSequencerKept

/-- The state in which the segments are built. -/
def State.segmentsTaken (s : State) : State := makeSegments (s.took .segmentsIntoService)

theorem signsAllow_taken (s : State) (g : Nat) : signsAllow s.segmentsTaken g ↔ signsAllow s g := by
  have sign : s.segmentsTaken.sign = s.sign := by
    funext i
    exact (sameService_took s (c := .segmentsIntoService) (by simp)).sign rfl
  unfold signsAllow
  rw [sign]
  rfl

theorem noticeBegins_taken {s t : State} {g : Nat} {row : SegmentRow} {urgent : Bool} {r : SegmentRec}
    (h : noticeBegins s.segmentsTaken t g row urgent r) : noticeBegins s t g row urgent r := by
  have allow := signsAllow_taken s g
  unfold noticeBegins at h ⊢
  rw [allow] at h
  exact h

theorem taken_claimingPaths (s : State) (g : Nat) : s.segmentsTaken.claimingPaths g = s.claimingPaths g :=
  (show s.segmentsTaken.claimingPaths g = (s.took .segmentsIntoService).claimingPaths g from rfl).trans
    (took_claimingPaths (by simp) g)

theorem segmentsIntoService_derives {s : State} (steady : s.steady) (paths : PathsOk s)
    (active : s.active .segments = true) :
    completes .segmentsIntoService s fun t =>
      t.sequencer.inService = true ∧ t.sequencer.clock = s.sequencer.clock ∧ t.time = s.time ∧
      ∀ g, g < 8 → (mapGet t.sequencer.segments g).isSome = (s.reference .segments g).isSome ∧
        ∀ r ∈ t.segment g, ∀ row ∈ t.segmentRow g,
          let x := s.segmentsTaken
          r.claims = x.derivedClaims g row (s.readGrade g) ∧ r.grade = s.readGrade g ∧
            r.gateFault = x.gateFaultOf g ∧ derivedIn x t g row r ∧ SequencerKept x t := by
  let x := s.segmentsTaken
  have kept : SequencerKept x (flushReports (buildSegments (s.took .segmentsIntoService))) :=
    (sequencerKept_buildSegments _).trans (sequencerKept_flushReports _)
  have sent := sequencerKept_flushReports (buildSegments (s.took .segmentsIntoService))
  have run : segmentsEnter (s.took .segmentsIntoService) = buildSegments (s.took .segmentsIntoService) :=
    if_pos active
  have few : ∀ g, ∀ p ∈ x.claimingPaths g, p < 16 := fun g p mem =>
    low_of_claimingPaths paths (taken_claimingPaths s g ▸ mem)
  refine ⟨_, taken_of_steady (effect := segmentsEnter) steady, ?_⟩
  beta_reduce
  rw [run]
  refine ⟨by rw [kept.rest]; rfl, kept.clock, kept.time, fun g low => ⟨?_, fun r found row present => ?_⟩⟩
  · rw [flushReports_sequencer]
    exact buildSegments_isSome _ low (few g)
  · have present' : x.segmentRow g = some row := kept.segmentRow ▸ present
    obtain ⟨r', stored, claims, grade, fault, derived⟩ := buildSegments_derives low present' (few g)
    rw [took_readGrade (by simp)] at claims grade
    have row' : (buildSegments (s.took .segmentsIntoService)).segmentRow g = some row := by
      rw [(sequencerKept_buildSegments _).segmentRow]
      exact present'
    have there := sent.segment_eq_some row' (r := r') (by rw [flushReports_sequencer]; exact stored)
    obtain rfl : r = r' := Option.some.inj (found.symm.trans there)
    exact ⟨claims, grade, fault, derivedIn_later derived sent, kept⟩

/-- The schedule's claims of a segment just built. -/
theorem scheduleEvaluated_derived {x t : State} {g : Nat} {row : SegmentRow} {grade : Nat} {r : SegmentRec}
    (few : ∀ p ∈ x.claimingPaths g, p < 16) (kept : SequencerKept x t)
    (claims : r.claims = x.derivedClaims g row grade) :
    scheduleEvaluated t g row { r with claims := [] } r := by
  intro e low y found start finish short second names
  rw [kept.scheduleRow] at found
  rw [kept.clock] at second ⊢
  have due : x.entryDue g row e = claimDue y row.normalLead x.sequencer.clock := by
    rw [State.entryDue, show x.scheduleRow e = some y from found, Option.any_some, names, Bool.true_and]
  have none : mapGet (x.standingClaims g row grade (x.startClaims g)) (19 + e) = none := by
    rw [mapGet_standingClaims, if_neg]
    rintro (⟨p, mem, same⟩ | ⟨same, -⟩ | ⟨same, -⟩)
    · have := few p mem
      omega
    all_goals omega
  rw [claims, State.derivedClaims, mapGet_scheduledClaims, none, kept.now,
    ← claimDue_iff start finish short second, ← due]
  constructor
  · intro yes
    exact if_pos ⟨e, List.mem_range.mpr low, yes, rfl⟩
  · intro no
    refine if_neg ?_
    rintro ⟨k, -, yes, same⟩
    obtain rfl : k = e := by omega
    exact no yes

/-- A claim below the schedule's is a standing one. -/
theorem derivedClaims_standing (x : State) {g i : Nat} (row : SegmentRow) (grade : Nat) (low : i < 19) :
    mapGet (x.derivedClaims g row grade) i = mapGet (x.standingClaims g row grade (x.startClaims g)) i := by
  rw [State.derivedClaims, mapGet_scheduledClaims, if_neg]
  rintro ⟨e, -, -, same⟩
  omega

/-- Settles O44: each segment is derived by itself, and what the others do leaves it. -/
theorem segmentsComeAndGoWithTheirGates : Obligations.SegmentsComeAndGoWithTheirGates := by
  refine ⟨fun s steady _ paths => ⟨fun inactive => ?_, fun active => ?_, ?_⟩, fun s steady _ =>
    ⟨fun inactive => ?_, fun active => ?_, ?_⟩⟩
  · refine taken_eq (effect := segmentsEnter) steady ?_ steady.2
    exact if_neg fun h : (s.took _).active .segments = true => absurd (inactive.symm.trans h) nofun
  · refine completes_mono (segmentsIntoService_derives steady paths active) ?_
    rintro t ⟨inService, clock, time, each⟩
    refine ⟨inService, clock, time, fun g low => ⟨(each g low).1, fun r found row present => ?_⟩⟩
    obtain ⟨claims, grade, fault, ⟨closes, orders, bare, entered, begins, urgent⟩, kept⟩ :=
      (each g low).2 r found row present
    have few : ∀ p ∈ s.segmentsTaken.claimingPaths g, p < 16 := fun p mem =>
      low_of_claimingPaths paths (taken_claimingPaths s g ▸ mem)
    have claim : ∀ i, i < 19 → mapGet r.claims i = _ := fun i low =>
      (congrArg (mapGet · i) claims).trans
        ((derivedClaims_standing _ row _ low).trans (mapGet_standingClaims s.segmentsTaken g row (s.readGrade g) i))
    have down : s.segmentsTaken.someGateDown g = true ↔ ∃ k ∈ s.configuredGates g, s.gateState k ≠ .raised :=
      someGateDown_iff s g
    refine ⟨grade.trans (readGrade_of_active active g), ?_, fun low => ⟨?_, closes (down.mpr low)⟩,
      fun raised => ⟨?_, orders ?_⟩, ?_, ?_, fun p _ => ?_, scheduleEvaluated_derived few kept claims, bare, entered,
      fun raised some => noticeBegins_taken (begins ?_ some), urgent⟩
    · rw [fault]
      exact gateFaultOf_iff s g
    · rw [claim 1 (by decide)]
      exact if_pos (.inr (.inr ⟨rfl, down.mpr low⟩))
    · rw [claim 1 (by decide)]
      refine if_neg ?_
      rintro (⟨p, -, same⟩ | ⟨same, -⟩ | ⟨-, low⟩)
      · omega
      · omega
      · exact raised (down.mp low)
    · exact Bool.not_eq_true _ ▸ fun low => raised (down.mp low)
    · rw [claim 0 (by decide)]
      refine if_neg ?_
      rintro (⟨p, -, same⟩ | ⟨same, -⟩ | ⟨same, -⟩) <;> omega
    · rw [claim 2 (by decide), grade]
      by_cases five : s.readGrade g = 5 ∧ row.gradeCloses = true
      · rw [if_pos five]
        exact if_pos (.inr (.inl ⟨rfl, five⟩))
      · rw [if_neg five]
        refine if_neg ?_
        rintro (⟨p, -, same⟩ | ⟨-, closing⟩ | ⟨same, -⟩)
        · omega
        · exact five closing
        · omega
    · have claiming : p ∈ s.segmentsTaken.claimingPaths g ↔ (∃ y ∈ mapGet s.monitor.paths p, y.decision = .claimed) ∧
          ∃ y ∈ s.pathRow p, maskHas y.mask g = true := by
        rw [taken_claimingPaths]
        exact mem_claimingPaths paths
      rw [claim (3 + p) (by omega)]
      by_cases claims : p ∈ s.segmentsTaken.claimingPaths g
      · rw [if_pos (claiming.mp claims)]
        exact if_pos (.inl ⟨p, claims, rfl⟩)
      · rw [if_neg fun h => claims (claiming.mpr h)]
        refine if_neg ?_
        rintro (⟨k, mem, same⟩ | ⟨same, -⟩ | ⟨same, -⟩)
        · obtain rfl : k = p := by omega
          exact claims mem
        all_goals omega
    · exact Bool.not_eq_true _ ▸ fun low => raised (down.mp low)
  · exact ⟨_, taken_eq (effect := dropSegments) steady rfl steady.2, rfl⟩
  · refine taken_eq (effect := gatesBuilt) steady ?_ steady.2
    exact if_neg fun h : (s.took _).active .gates = true => absurd (inactive.symm.trans h) nofun
  · refine completes_mono (gatesBuiltNotice_derives steady active) ?_
    rintro t ⟨built, rows, clock, each⟩
    refine ⟨built, rows, clock, fun g low r found row present => ?_⟩
    obtain ⟨r', there, handed, derived, states, now⟩ := each g low r found row present
    obtain ⟨-, grade, fault, claims, -, down, up, notice, closing, reopening, closed⟩ := derived
    rw [states] at down up notice
    rw [now] at down
    refine ⟨r', there, handed, grade, ?_, fun i _ => claims i, down, up, notice, closing, reopening, closed⟩
    rw [fault, gateFaultOf_iff, states]
  · refine completes_mono (sequencerGatesOutOfService_frees steady) ?_
    rintro t ⟨built, rows, withheld, clock, each⟩
    refine ⟨built, rows, withheld, clock, fun g low r found row present => ?_⟩
    obtain ⟨r', there, handed, -, fault, claims, grade, -, closing, reopening, rest⟩ := each g low r found row present
    exact ⟨r', there, handed, fault, claims, grade, closing, reopening, rest⟩

end Sys2Proof.Machine
end

section
/-!
SUPPORT. The clear of one region and CLEAR REGION (R31, R32).
-/

namespace Sys2Proof.Machine

/-! ### The interlocks (R32) -/

theorem interlocked_iff (s : State) (r : Region) :
    s.interlocked r = true ↔ s.active r = true ∧
      ((r = .segments ∧ ∃ e ∈ s.sequencer.segments, e.2.state ≠ .opened) ∨
        (r = .gates ∧ ∃ e ∈ s.drives.gates, e.2.admission = .held)) := by
  cases r <;> simp [State.interlocked]

/-! ### What the clear of a region leaves -/

/-- A state in which a region has been cleared. -/
structure Clears (r : Region) (s t : State) : Prop where
  region : t.region r = { header := { state := .empty, count := 0, check := 0 }, rows := [] }
  others : ∀ q ∈ regionOrder, q ≠ r → t.region q = s.region q
  site : t.store.site = s.store.site
  startList : t.store.startList = s.store.startList.filter fun q => q != r

/-- The table with a region cleared. -/
def TableStore.without (x : TableStore) (r : Region) : TableStore :=
  { x with regions := x.regions.set r cleared, startList := x.startList.filter fun q => q != r }

theorem clears_of_store {r : Region} {s t : State} (regions : t.store.regions = (s.store.without r).regions)
    (site : t.store.site = s.store.site) (startList : t.store.startList = (s.store.without r).startList) :
    Clears r s t where
  region := by
    rw [State.region, regions]
    exact Regions.get_set ..
  others q _ other := by
    rw [State.region, regions]
    exact Regions.get_set_of_ne _ _ other
  site := site
  startList := startList

/-- The state before a region's job is told of its clear. -/
def State.emptied (s : State) (r : Region) : State := s.withStore (s.store.without r)

theorem clearOne_eq (r : Region) (s : State) :
    clearOne r s =
      if s.active r then (flushReports (convertRegion r (s.emptied r))).handAll (exitNotices r) else s.emptied r :=
  rfl

/-- The notices of a clear, of a region in service only. -/
def clearNotices (s : State) (r : Region) : List Instr := if s.active r = true then exitNotices r else []

theorem clearNotices_of_idle {s : State} {r : Region} (idle : s.active r = false) : clearNotices s r = [] := by
  rw [clearNotices, idle, if_neg Bool.false_ne_true]

theorem clearNotices_of_active {s : State} {r : Region} (live : s.active r = true) :
    clearNotices s r = exitNotices r := if_pos live

section
variable {r : Region} {s : State}

theorem clearOne_of_idle (idle : s.active r = false) : clearOne r s = s.emptied r := by
  rw [clearOne_eq, idle]
  rfl

theorem clearOne_of_active (active : s.active r = true) :
    clearOne r s = (flushReports (convertRegion r (s.emptied r))).handAll (exitNotices r) := by
  rw [clearOne_eq, if_pos active]

theorem convertRegion_of_plain (plain : r ∉ [Region.paths, .schedule]) (u : State) : convertRegion r u = u := by
  cases r with
  | paths => exact absurd (List.mem_cons_self ..) plain
  | schedule => exact absurd (List.mem_cons_of_mem _ (List.mem_cons_self ..)) plain
  | _ => rfl

/-- The clear of a region whose claims are nowhere. -/
theorem clearOne_of_plain (active : s.active r = true) (plain : r ∉ [Region.paths, .schedule])
    (quiet : s.reports = []) :
    clearOne r s = (s.emptied r).handAll (exitNotices r) := by
  have same : convertRegion r (s.emptied r) = s.emptied r := convertRegion_of_plain plain _
  have none : (s.emptied r).reports = [] := quiet
  rw [clearOne_of_active active, same, flushReports_of_nil none]

theorem clearOne_store : (clearOne r s).store = s.store.without r := by
  rw [clearOne_eq]
  split
  · exact (inUse_handAll (inUse_flushReports (inUse_convertRegion (.refl (s.emptied r)) r)) _).store
  · rfl

theorem clearOne_reports (quiet : s.reports = []) : (clearOne r s).reports = [] := by
  rw [clearOne_eq]
  split
  · exact flushReports_reports _
  · exact quiet

theorem clearOne_tells (active : s.active r = true) : ∀ e ∈ exitNotices r, e ∈ (clearOne r s).handed :=
  fun e mem => by
  rw [clearOne_of_active active]
  exact List.mem_append_right _ mem

/-- What a clear without a conversion does beside the table. -/
theorem clearOne_plain (quiet : s.reports = [])
    (plain : ¬ (s.active r = true ∧ r ∈ [Region.paths, .schedule])) :
    clearOne r s = (s.emptied r).withHanded (s.handed ++ clearNotices s r) := by
  cases active : s.active r with
  | false =>
    rw [clearOne_of_idle active, clearNotices_of_idle active, List.append_nil]
    rfl
  | true =>
    rw [clearNotices_of_active active]
    exact clearOne_of_plain active (fun mem => plain ⟨active, mem⟩) quiet

end

theorem exitNotices_noSpace (r : Region) : .spaceSignal .v ∉ exitNotices r := by cases r <;> decide

theorem clearNotices_noSpace (s : State) (r : Region) : .spaceSignal .v ∉ clearNotices s r := by
  unfold clearNotices
  split
  · exact exitNotices_noSpace r
  · exact List.not_mem_nil

/-! ### CLEAR REGION -/

/-- The header's part of a cleared region's report. -/
theorem regionData_cleared (r : Region) :
    regionData r { state := .empty, count := 0, check := 0 } .cleared =
      byteOf (Region.number r) ++ [0, 0, 0, 0, 1] := by
  cases r <;> rfl

theorem clearRequest_free {tag : Byte} {r : Region} {s : State} (free : s.interlocked r = false)
    (quiet : s.reports = []) :
    clearRequest tag r s = ((clearOne r s).reply 0x06 tag done []).withReports
      [{ kind := reportRegionState, data := byteOf (Region.number r) ++ [0, 0, 0, 0, 1] }] := by
  have reports : ((clearOne r s).reply 0x06 tag done []).reports = [] :=
    (reply_reports ..).trans (clearOne_reports quiet)
  have header : ((clearOne r s).reply 0x06 tag done []).region r =
      { header := { state := .empty, count := 0, check := 0 }, rows := [] } := by
    rw [reply_region]
    exact (clears_of_store (s := s) (by rw [clearOne_store]) (by rw [clearOne_store]; rfl)
      (by rw [clearOne_store])).region
  rw [clearRequest, free, if_neg Bool.false_ne_true, regionReport, State.report, reports, List.nil_append, header,
    regionData_cleared]

section
variable (tag region : Byte) {s : State} (steady : s.steady) (free : s.store.clearing = none) {r : Region}
  (number : region.toNat = Region.number r)
include steady free number

/-- CLEAR REGION of a region that nothing holds. -/
theorem clearRegion_clears (unlocked : s.interlocked r = false) :
    ∃ t, exec (.clearRegion tag region) s = .next t ∧
      Answered (clearOne r (s.took (.clearRegion tag region)))
        ((clearOne r (s.took (.clearRegion tag region))).replyFrame 0x06 tag done [])
        [(clearOne r (s.took (.clearRegion tag region))).reportFrame 0x02
          (byteOf (Region.number r) ++ [0, 0, 0, 0, 1])] t := by
  refine ⟨_, taken_onRegion steady free number, ?_⟩
  have unlocked' : (s.took (.clearRegion tag region)).interlocked r = false := by rw [← unlocked]; cases r <;> rfl
  rw [clearRequest_free unlocked' steady.2]
  exact answered_reports (clearOne r (s.took (.clearRegion tag region))) 0x06 tag done []
    [{ kind := reportRegionState, data := byteOf (Region.number r) ++ [0, 0, 0, 0, 1] }]

end

theorem mem_of_besideSpace {s t : State} {e : Instr} (same : t.besideSpace = s.besideSpace) (mem : e ∈ s.handed)
    (other : e ≠ .spaceSignal .v) : e ∈ t.handed := by
  have there : e ∈ t.besideSpace := by
    rw [same]
    exact List.mem_filter.mpr ⟨mem, bne_iff_ne.mpr other⟩
  exact (List.mem_filter.mp there).1

theorem replyFrame_congr {s t : State} (store : t.store.site = s.store.site) (code tag result : Byte) (data : Bytes) :
    t.replyFrame code tag result data = s.replyFrame code tag result data := by
  simp [State.replyFrame, State.compose, State.ownAddress, store]

theorem reportFrame_congr_site {s t : State} (time : t.time = s.time) (site : t.store.site = s.store.site)
    (clock : t.sequencer.clock = s.sequencer.clock) (kind : Byte) (data : Bytes) :
    t.reportFrame kind data = s.reportFrame kind data := by
  simp [State.reportFrame, State.compose, State.ownAddress, State.now, time, site, clock]

/-- CLEAR REGION, its notices told by `exitNotices`. -/
theorem clearRegion_spec (tag region : Byte) {s : State} (steady : s.steady) (free : s.store.clearing = none)
    {r : Region} (number : region.toNat = Region.number r) (unlocked : s.interlocked r = false) :
    let c := Instr.clearRegion tag region
    let converts := s.active r = true ∧ r ∈ [Region.paths, .schedule]
    completes c s fun t =>
      Clears r s t ∧
      (s.active r = false → t.besideSpace = (s.took c).besideSpace ∧ (s.room 1 → t.handed = (s.took c).handed)) ∧
      (s.active r = true → ∀ e ∈ exitNotices r, e ∈ t.handed) ∧
      (s.active r = true → ¬ converts → t.besideSpace = (s.took c).besideSpace ++ exitNotices r ∧
        (s.room 1 → t.handed = (s.took c).handed ++ exitNotices r)) ∧
      (¬ converts → t.sequencer = s.sequencer ∧ (s.room 1 → leadsV s t (s.replyFrame 0x06 tag done [])) ∧
        (s.room 2 → addedV s t
          [s.replyFrame 0x06 tag done [],
            s.reportFrame 0x02 (byteOf (Region.number r) ++ [0, 0, 0, 0, 1])])) := by
  intro c converts
  obtain ⟨t, run, answered⟩ := clearRegion_clears tag region steady free number unlocked
  let u := clearOne r (s.took c)
  have active : (s.took c).active r = s.active r := rfl
  have site : u.store.site = s.store.site := by rw [clearOne_store]; rfl
  have handed : ¬ converts → u.handed = (s.took c).handed ++ clearNotices s r :=
    fun plain => congrArg State.handed (clearOne_plain (s := s.took c) steady.2 plain)
  have line : ¬ converts → u.line = s.line := fun plain => by
    rw [show u = _ from clearOne_plain (s := s.took c) steady.2 plain]
    rfl
  have time : ¬ converts → u.time = s.time := fun plain => by
    rw [show u = _ from clearOne_plain (s := s.took c) steady.2 plain]
    rfl
  have sequencer : ¬ converts → u.sequencer = s.sequencer := fun plain => by
    rw [show u = _ from clearOne_plain (s := s.took c) steady.2 plain]
    rfl
  have room : ¬ converts → ∀ n, s.room n → u.room n := fun plain n h => by
    rw [State.room, line plain]
    exact h
  have beside : ¬ converts → t.besideSpace =
      (s.took c).besideSpace ++ clearNotices s r := fun plain => by
    rw [answered.beside, State.besideSpace, handed plain, List.filter_append]
    congr 1
    exact List.filter_eq_self.mpr fun e mem => bne_iff_ne.mpr fun same => clearNotices_noSpace s r (same ▸ mem)
  have told : ¬ converts → s.room 1 →
      t.handed = (s.took c).handed ++ clearNotices s r := fun plain places =>
    (answered.handed (room plain 1 places)).trans (handed plain)
  refine ⟨t, run, clears_of_store ?_ ?_ ?_, fun idle => ?_, fun live e mem => ?_, fun live plain => ?_, fun plain => ?_⟩
  · rw [answered.store, clearOne_store]
    rfl
  · rw [answered.store, site]
  · rw [answered.store, clearOne_store]
    rfl
  · have plain : ¬ converts := fun h => by
      obtain ⟨live, -⟩ := h
      rw [idle] at live
      cases live
    have besides := beside plain
    have tells := told plain
    rw [clearNotices_of_idle idle, List.append_nil] at besides tells
    exact ⟨besides, tells⟩
  · exact mem_of_besideSpace answered.beside (clearOne_tells (s := s.took c) live e mem)
      fun same => exitNotices_noSpace r (same ▸ mem)
  · have besides := beside plain
    have tells := told plain
    rw [clearNotices_of_active live] at besides tells
    exact ⟨besides, tells⟩
  · have leads := answered.leads
    have added := answered.added
    rw [replyFrame_congr site] at leads added
    rw [reportFrame_congr_site (time plain) site (by rw [sequencer plain])] at added
    unfold leadsV at leads ⊢
    unfold addedV at added ⊢
    rw [line plain] at leads added
    exact ⟨answered.sequencer.trans (sequencer plain), fun places => leads (room plain 1 places),
      fun places => added (room plain 2 places)⟩

end Sys2Proof.Machine
end

section
/-!
SUPPORT. CLEAR REGION whole, the beginning of a CLEAR ALL, and what waits for its end (R22, R31 to R33).
-/

namespace Sys2Proof.Machine

/-! ### CLEAR REGION refused (R22, R32) -/

theorem took_interlocked (s : State) (c : Instr) (r : Region) : (s.took c).interlocked r = s.interlocked r := by
  cases r <;> rfl

theorem clearRegion_refused (tag region : Byte) {s : State} (steady : s.steady) (free : s.store.clearing = none)
    {r : Region} (number : region.toNat = Region.number r) (locked : s.interlocked r = true) :
    exec (.clearRegion tag region) s =
      .next ((s.took (.clearRegion tag region)).reply 0x06 tag wrongState (byteOf (Region.number r))) :=
  taken_regionAnswers (c := .clearRegion tag region) (f := clearRequest tag) steady free number
    (if_pos ((took_interlocked ..).trans locked))

/-! ### A CLEAR ALL that begins (R33) -/

theorem interlocked_other (s : State) {r : Region} (segments : r ≠ .segments) (gates : r ≠ .gates) :
    s.interlocked r = false := by
  cases r with
  | segments => exact absurd rfl segments
  | gates => exact absurd rfl gates
  | _ => rfl

/-- The region that stops a CLEAR ALL at its beginning: only SEGMENTS and GATES have an interlock. -/
theorem firstInterlocked (s : State) :
    regionOrder.find? s.interlocked =
      if s.interlocked .segments then some .segments else if s.interlocked .gates then some .gates else none := by
  have other : ∀ {r}, r ≠ .segments → r ≠ .gates → s.interlocked r = false := interlocked_other s
  cases segments : s.interlocked .segments <;> cases gates : s.interlocked .gates <;>
    simp [regionOrder, List.find?, other, segments, gates]

section
variable (tag : Byte) {s : State} (steady : s.steady) (free : s.store.clearing = none)
include steady free

/-- CLEAR ALL refused whole. -/
theorem clearAll_refused {r : Region} (first : regionOrder.find? s.interlocked = some r) :
    exec (.clearAll tag) s =
      .next ((s.took (.clearAll tag)).reply 0x07 tag wrongState (byteOf (Region.number r))) := by
  refine taken_answers (c := .clearAll tag) (f := beginClearAll tag) steady free ?_
  have there : regionOrder.find? (s.took (.clearAll tag)).interlocked = some r := first
  rw [beginClearAll, there]

/-- CLEAR ALL begins with the clear of CHANNELS. -/
theorem clearAll_begins (first : regionOrder.find? s.interlocked = none) :
    exec (.clearAll tag) s =
      .next (clearAndGoOn { tag := tag, cleared := 0 } .channels (s.took (.clearAll tag))) := by
  have there : regionOrder.find? (s.took (.clearAll tag)).interlocked = none := first
  exact taken_whenFree (c := .clearAll tag) (f := beginClearAll tag) steady free (by rw [beginClearAll, there])
    (clearOne_reports (s := s.took (.clearAll tag)) steady.2)

end

theorem clears_clearAndGoOn {s : State} (run : ClearRun) (r : Region) : Clears r s (clearAndGoOn run r s) := by
  have store : (clearAndGoOn run r s).store =
      { s.store.without r with clearing := some { run with cleared := run.cleared + 1 } } := by
    rw [clearAndGoOn, State.withClearing, State.withStore_store, clearOne_store]
  exact clears_of_store (by rw [store]) (by rw [store]; rfl) (by rw [store])

theorem clearAndGoOn_clearing (s : State) (run : ClearRun) (r : Region) :
    (clearAndGoOn run r s).store.clearing = some { run with cleared := run.cleared + 1 } := rfl

theorem clearAndGoOn_line (s : State) (run : ClearRun) (r : Region) :
    (clearAndGoOn run r s).line = (clearOne r s).line := rfl

theorem clearAndGoOn_handed (s : State) (run : ClearRun) (r : Region) :
    (clearAndGoOn run r s).handed = (clearOne r s).handed := rfl

/-! ### Requests that wait (R22, R33) -/

/-- A table request that finds a CLEAR ALL under way waits, whatever it asks for. -/
theorem tableRequest_waits {d : Instr} (table : waitsForClearAll d = true) {s : State} (steady : s.steady)
    {run : ClearRun} (under : s.store.clearing = some run) :
    exec d s = .next ((s.took d).withWaiting (s.waiting ++ [d])) := by
  have waits : ∀ f : State → State, taken d (whenFree d f) s = .next ((s.took d).withWaiting (s.waiting ++ [d])) :=
    fun f => taken_eq steady (whenFree_of_clearing (s := s.took d) under) steady.2
  cases d with
  | openRegion tag region count => exact waits _
  | writeRows tag region first count rows => exact waits _
  | readRows tag region first count => exact waits _
  | blankCheck tag region => exact waits _
  | activateRegion tag region check => exact waits _
  | clearRegion tag region => exact waits _
  | clearAll tag => exact waits _
  | siteWrite tag field value => exact waits _
  | siteRead tag => exact waits _
  | _ => cases table

end Sys2Proof.Machine
end

section
/-!
SUPPORT. The table requests hand on no further table request, and a clear leaves the requests that wait (R22, R33).
-/

namespace Sys2Proof.Machine

/-! ### What the table requests hand on -/

/-- No table request is handed on. -/
structure TableQuiet (s t : State) : Prop where
  before : ∀ e, waitsForClearAll e = true → e ∈ t.handed → e ∈ s.handed

theorem TableQuiet.refl (s : State) : TableQuiet s s := ⟨fun _ _ => id⟩

theorem TableQuiet.trans {s t u : State} (h : TableQuiet s t) (k : TableQuiet t u) : TableQuiet s u :=
  ⟨fun e table mem => h.before e table (k.before e table mem)⟩

theorem TableQuiet.beside {s t u : State} (h : TableQuiet s t) (same : u.handed = t.handed) : TableQuiet s u :=
  h.trans ⟨fun e _ mem => by rwa [← same]⟩

theorem fromSequencer_of_table {e : Instr} (table : waitsForClearAll e = true) : fromSequencer e = false := by
  cases e with
  | orderEvent k o => cases table
  | segmentNotice g st n => cases table
  | urgencyNotice g u => cases table
  | spaceSignal p => cases table
  | _ => rfl

theorem SequencerKept.tableQuiet {s t : State} (h : SequencerKept s t) : TableQuiet s t :=
  ⟨fun e table => (h.other e (fromSequencer_of_table table)).mp⟩

theorem tableQuiet_of_besideSpace {s t : State} (same : t.besideSpace = s.besideSpace) : TableQuiet s t :=
  ⟨fun e table mem => mem_of_besideSpace same.symm mem fun signal => by rw [signal] at table; cases table⟩

section
variable {s t : State} (h : TableQuiet s t)
include h

theorem tableQuiet_reply (code tag result : Byte) (data : Bytes) : TableQuiet s (t.reply code tag result data) :=
  h.trans (tableQuiet_of_besideSpace (besideSpace_reply ..))

theorem tableQuiet_flushReports : TableQuiet s (flushReports t) :=
  h.trans (tableQuiet_of_besideSpace (besideSpace_flushReports t))

theorem tableQuiet_handAll {l : List Instr} (other : ∀ e ∈ l, waitsForClearAll e = false) :
    TableQuiet s (t.handAll l) where
  before e table mem := (List.mem_append.mp mem).elim (h.before e table) fun own => by
    rw [other e own] at table
    cases table

end

theorem entryNotices_tables (r : Region) : ∀ e ∈ entryNotices r, waitsForClearAll e = false := by
  cases r <;> decide

theorem exitNotices_tables (r : Region) : ∀ e ∈ exitNotices r, waitsForClearAll e = false := by cases r <;> decide

/-! ### The conversion -/

theorem onlySegment_convertAt (lo hi g : Nat) (s : State) : OnlySegment g s (convertAt lo hi g s) := by
  unfold convertAt
  split
  · exact .refl g s
  · split
    · exact onlySegment_refreshParameter (onlySegment_withSegment (.refl g s) _)
    · exact .refl g s

theorem sequencerKept_segmentEvent {cause : SegmentCause} {f : State → State} {s : State}
    (kept : SequencerKept s (f s)) : SequencerKept s (segmentEvent cause f s) :=
  sequencerKept_forEach kept fun i u => (segmentWithheld_segmentOutcome cause s i i u).toSequencerKept

theorem sequencerKept_convertSources (lo hi : Nat) (s : State) : SequencerKept s (convertSources lo hi s) :=
  sequencerKept_segmentEvent
    (sequencerKept_forEach (.refl s) fun i u => (onlySegment_convertAt lo hi i u).toSequencerKept)

theorem sequencerKept_takeClaimEvent (s : State) (c : Instr) : SequencerKept s (takeClaimEvent s c) := by
  unfold takeClaimEvent
  split
  · exact sequencerKept_sequencerEvent
      (sequencerKept_forEach (.refl s) fun i u => (onlySegment_placeClaim (.refl i u) ..).toSequencerKept)
  · exact sequencerKept_sequencerEvent
      (sequencerKept_forEach (.refl s) fun i u => (onlySegment_removeClaims (.refl i u) _).toSequencerKept)
  · exact .refl s

theorem tableQuiet_takeWaitingClaims (s : State) : TableQuiet s (takeWaitingClaims s) := by
  have taking : ∀ (l : List Instr) (u : State), TableQuiet s u → TableQuiet s (l.foldl takeClaimEvent u) := by
    intro l
    induction l with
    | nil => exact fun _ k => k
    | cons c l ih => exact fun u k => ih _ (k.trans (sequencerKept_takeClaimEvent u c).tableQuiet)
  exact taking _ _ ⟨fun e _ mem => (List.mem_filter.mp mem).1⟩

theorem tableQuiet_convertRegion (r : Region) (s : State) : TableQuiet s (convertRegion r s) := by
  cases r with
  | paths => exact (tableQuiet_takeWaitingClaims s).trans (sequencerKept_convertSources ..).tableQuiet
  | schedule => exact (sequencerKept_convertSources _ _ s).tableQuiet.beside rfl
  | _ => exact .refl s

theorem tableQuiet_clearOne (r : Region) (s : State) : TableQuiet s (clearOne r s) := by
  have emptied : TableQuiet s (s.emptied r) := (TableQuiet.refl s).beside rfl
  rw [clearOne_eq]
  split
  · exact tableQuiet_handAll (tableQuiet_flushReports (emptied.trans (tableQuiet_convertRegion r (s.emptied r))))
      (exitNotices_tables r)
  · exact emptied

/-! ### The requests -/

theorem tableQuiet_whenFree {c : Instr} {f : State → State} {s : State} (h : TableQuiet s (f s)) :
    TableQuiet s (whenFree c f s) := by
  unfold whenFree
  split
  · exact (TableQuiet.refl s).beside rfl
  · exact h

theorem tableQuiet_onRegion {code tag region : Byte} {f : Region → State → State} {s : State}
    (h : ∀ r, TableQuiet s (f r s)) : TableQuiet s (onRegion code tag region f s) := by
  unfold onRegion
  split
  · exact tableQuiet_reply (.refl s) ..
  · exact h _

theorem tableQuiet_writeRows (r : Region) (i : Nat) (rows : List Bytes) (s : State) :
    TableQuiet s (writeRows r i rows s).1 := by
  induction rows generalizing i s with
  | nil => exact .refl s
  | cons row rest ih =>
    unfold writeRows
    split
    · exact .refl s
    · exact ((TableQuiet.refl s).beside (u := s.withRow r i row) rfl).trans (ih _ _)

theorem tableQuiet_siteChanged (f : SiteField) (s : State) : TableQuiet s (siteChanged f s) := by
  rcases siteChanged_cases f s with same | ⟨cause, a, -, changed⟩
  · rw [same]
    exact .refl s
  · rw [changed]
    refine ⟨fun e table => ((besideAllocator_recompute cause s a).handed e ?_ ?_ ?_).mp⟩ <;>
      (intro _ _ same; rw [same] at table; cases table)

section
variable (s : State)

theorem tableQuiet_takeOpen (tag region count : Byte) : TableQuiet s (takeOpen tag region count s) := by
  refine tableQuiet_whenFree (tableQuiet_onRegion fun r => ?_)
  unfold openRegion
  split
  · exact tableQuiet_reply (.refl s) ..
  · split
    · exact tableQuiet_reply (.refl s) ..
    · exact tableQuiet_reply ((TableQuiet.refl s).beside (u := s.withHeader r _) rfl) ..

theorem tableQuiet_takeWrite (tag region first count : Byte) (rows : List Bytes) :
    TableQuiet s (takeWrite tag region first count rows s) := by
  refine tableQuiet_whenFree (tableQuiet_onRegion fun r => ?_)
  have written := tableQuiet_writeRows r first.toNat (rows.take count.toNat) s
  unfold writeRequest
  split
  · exact tableQuiet_reply (.refl s) ..
  · split
    · exact tableQuiet_reply (.refl s) ..
    · split
      · next e => rw [e] at written; exact tableQuiet_reply written ..
      · next e => rw [e] at written; exact tableQuiet_reply written ..

theorem tableQuiet_takeRead (tag region first count : Byte) : TableQuiet s (takeRead tag region first count s) := by
  refine tableQuiet_whenFree (tableQuiet_onRegion fun r => ?_)
  unfold readRequest
  split <;> exact tableQuiet_reply (.refl s) ..

theorem tableQuiet_takeBlank (tag region : Byte) : TableQuiet s (takeBlank tag region s) := by
  refine tableQuiet_whenFree (tableQuiet_onRegion fun r => ?_)
  unfold blankRequest
  split <;> exact tableQuiet_reply (.refl s) ..

theorem tableQuiet_takeActivate (tag region : Byte) (check : BitVec 16) :
    TableQuiet s (takeActivate tag region check s) := by
  refine tableQuiet_whenFree (tableQuiet_onRegion fun r => ?_)
  unfold activateRequest
  split
  · exact tableQuiet_reply (.refl s) ..
  · exact (tableQuiet_reply (tableQuiet_handAll ((TableQuiet.refl s).beside (u := s.withRegion r _) rfl)
      (entryNotices_tables r)) ..).beside rfl

theorem tableQuiet_takeClear (tag region : Byte) : TableQuiet s (takeClear tag region s) := by
  refine tableQuiet_whenFree (tableQuiet_onRegion fun r => ?_)
  unfold clearRequest
  split
  · exact tableQuiet_reply (.refl s) ..
  · exact (tableQuiet_reply (tableQuiet_clearOne r s) ..).beside rfl

theorem tableQuiet_takeClearAll (tag : Byte) : TableQuiet s (takeClearAll tag s) := by
  refine tableQuiet_whenFree ?_
  unfold beginClearAll
  split
  · exact tableQuiet_reply (.refl s) ..
  · exact (tableQuiet_clearOne .channels s).beside rfl

theorem tableQuiet_takeSiteWrite (tag field : Byte) (value : BitVec 16) :
    TableQuiet s (takeSiteWrite tag field value s) := by
  refine tableQuiet_whenFree ?_
  unfold siteWrite
  split
  · exact tableQuiet_reply (.refl s) ..
  · next f _ =>
    have answered := tableQuiet_reply (.refl s) 0x08 tag done ([field] ++ be 2 (clampSite f value).toNat)
    have stored : TableQuiet s ((s.reply 0x08 tag done ([field] ++ be 2 (clampSite f value).toNat)).withField f
        (clampSite f value)) := answered.beside rfl
    exact stored.trans (tableQuiet_siteChanged ..)

theorem tableQuiet_tableRequest {c : Instr} {f : State → State} (e : tableRequest c = some f) :
    TableQuiet s (f s) := by
  unfold tableRequest at e
  split at e <;> cases e
  · exact tableQuiet_takeOpen ..
  · exact tableQuiet_takeWrite ..
  · exact tableQuiet_takeRead ..
  · exact tableQuiet_takeBlank ..
  · exact tableQuiet_takeActivate ..
  · exact tableQuiet_takeClear ..
  · exact tableQuiet_takeClearAll ..
  · exact tableQuiet_takeSiteWrite ..
  · exact tableQuiet_whenFree (tableQuiet_reply (.refl s) ..)

end

/-! ### The requests that wait beside a clear -/

section
variable (s : State) (l : List Instr)

@[simp] theorem withWaiting_convertAt (lo hi g : Nat) :
    convertAt lo hi g (s.withWaiting l) = (convertAt lo hi g s).withWaiting l := by
  rcases found : s.segment g with _ | r
  · simp [convertAt, found]
  · by_cases some : (r.claims.any fun e => within e.1 lo hi) = true <;> simp [convertAt, found, some]

@[simp] theorem withWaiting_convertSources (lo hi : Nat) :
    convertSources lo hi (s.withWaiting l) = (convertSources lo hi s).withWaiting l :=
  withWaiting_segmentEvent s l _ (withWaiting_forEach s l (fun g u => withWaiting_convertAt u l lo hi g) _)

theorem withWaiting_sequencerEvent (cause : SegmentCause) {f : State → State}
    (h : f (s.withWaiting l) = (f s).withWaiting l) :
    sequencerEvent cause f (s.withWaiting l) = (sequencerEvent cause f s).withWaiting l := by
  rw [sequencerEvent, withWaiting_segmentEvent s l cause h, withWaiting_zeroLeads, sequencerEvent]

theorem withWaiting_takeClaimEvent (c : Instr) :
    takeClaimEvent (s.withWaiting l) c = (takeClaimEvent s c).withWaiting l := by
  unfold takeClaimEvent
  split
  · exact withWaiting_sequencerEvent s l _ (withWaiting_forEach s l (fun g u => withWaiting_placeClaim u l _ _ g) _)
  · exact withWaiting_sequencerEvent s l _ (withWaiting_forEach s l (fun g u => withWaiting_removeClaims u l _ g) _)
  · rfl

@[simp] theorem withWaiting_takeWaitingClaims :
    takeWaitingClaims (s.withWaiting l) = (takeWaitingClaims s).withWaiting l := by
  have taking : ∀ (cs : List Instr) (u : State),
      cs.foldl takeClaimEvent (u.withWaiting l) = (cs.foldl takeClaimEvent u).withWaiting l := by
    intro cs
    induction cs with
    | nil => exact fun _ => rfl
    | cons c cs ih =>
      intro u
      rw [List.foldl_cons, withWaiting_takeClaimEvent, ih, List.foldl_cons]
  exact taking _ (s.withHanded _)

@[simp] theorem withWaiting_convertRegion (r : Region) :
    convertRegion r (s.withWaiting l) = (convertRegion r s).withWaiting l := by
  cases r with
  | paths => simp [convertRegion, convertPaths]
  | schedule => simp [convertRegion, convertSchedule]
  | _ => rfl

@[simp] theorem withWaiting_clearOne (r : Region) :
    clearOne r (s.withWaiting l) = (clearOne r s).withWaiting l := by
  have emptied : (s.withWaiting l).emptied r = (s.emptied r).withWaiting l := rfl
  rw [clearOne_eq, clearOne_eq, emptied]
  by_cases live : s.active r = true
  · simp [live]
  · simp [live]

end

theorem clearOne_waiting (r : Region) (s : State) : (clearOne r s).waiting = s.waiting := by
  have beside : clearOne r s = (clearOne r s).withWaiting s.waiting := withWaiting_clearOne s s.waiting r
  rw [beside]
  rfl

end Sys2Proof.Machine
end

section
/-!
SUPPORT. The further steps of a CLEAR ALL, its end, and the table requests that have waited for it (R22, R33, R169).
-/

namespace Sys2Proof.Machine

/-! ### The step -/

/-- With no command and no event that waits, a CLEAR ALL under way goes on. -/
theorem step_clearing {s : State} (steady : s.steady) (alone : s.pending = []) (quiet : s.handed = []) {run : ClearRun}
    (under : s.store.clearing = some run) : step s = .next (flushReports (clearNext run s)) := by
  have none : nextEvent s = none := by
    rw [nextEvent, quiet]
    exact if_pos (by rw [under]; rfl)
  have goes : onItsOwn s = clearGoesOn s := by
    rw [onItsOwn, if_neg (by rw [steady.1]; decide), if_pos (by rw [under]; rfl)]
  rw [step, alone]
  dsimp only
  rw [idle, none]
  dsimp only
  rw [goes, clearGoesOn_of_clearing under]

/-- The REPLY and the reports of a CLEAR ALL that ends with its first `n` regions cleared. -/
def clearAllEnded (tag result : Byte) (data : Bytes) (n : Nat) (s : State) : State :=
  (regionOrder.take n).foldl (regionReport .cleared) ((s.withClearing none).reply 0x07 tag result data)

theorem endClearAll_eq (tag result : Byte) (data : Bytes) (n : Nat) (s : State) :
    endClearAll tag result data n s = takeWaiting tableRequest (clearAllEnded tag result data n s) := rfl

section
variable {run : ClearRun} {s : State} {r : Region} (here : regionOrder[run.cleared]? = some r)
include here

theorem clearNext_of_locked (locked : s.interlocked r = true) :
    clearNext run s = takeWaiting tableRequest
      (clearAllEnded run.tag wrongState (byteOf (Region.number r)) run.cleared s) := by
  rw [clearNext, here]
  exact if_pos locked

theorem clearNext_of_more (unlocked : s.interlocked r = false) (more : run.cleared ≤ 5) :
    clearNext run s = clearAndGoOn run r s := by
  rw [clearNext, here]
  dsimp only
  rw [unlocked, if_neg Bool.false_ne_true, if_pos (by change run.cleared + 1 < 7; omega)]

theorem clearNext_of_last (unlocked : s.interlocked r = false) (last : run.cleared = 6) :
    clearNext run s = takeWaiting tableRequest (clearAllEnded run.tag done [] 7 (clearOne r s)) := by
  rw [clearNext, here]
  dsimp only
  rw [unlocked, if_neg Bool.false_ne_true, if_neg (by rw [last]; decide), last]
  rfl

end

/-! ### What an end leaves -/

theorem clearAllEnded_withReports (tag result : Byte) (data : Bytes) (n : Nat) {u : State} (quiet : u.reports = []) :
    clearAllEnded tag result data n u = ((u.withClearing none).reply 0x07 tag result data).withReports
      ((regionOrder.take n).map fun r =>
        { kind := reportRegionState, data := regionData r (u.region r).header .cleared }) := by
  have none : ((u.withClearing none).reply 0x07 tag result data).reports = [] := (reply_reports ..).trans quiet
  have regions : ∀ r, ((u.withClearing .none).reply 0x07 tag result data).region r = u.region r := fun r =>
    (reply_region ..).trans (by cases r <;> rfl)
  rw [clearAllEnded, regionReports_eq, none, List.nil_append]
  simp only [regions]

/-- The REPLY and a report for each region cleared. -/
theorem clearAllEnded_answered (tag result : Byte) (data : Bytes) (n : Nat) {u : State} (quiet : u.reports = [])
    (empty : ∀ q ∈ regionOrder.take n, (u.region q).header = { state := .empty, count := 0, check := 0 }) :
    Answered (u.withClearing none) (u.replyFrame 0x07 tag result data)
      ((regionOrder.take n).map fun r => u.reportFrame 0x02 (byteOf (Region.number r) ++ [0, 0, 0, 0, 1]))
      (flushReports (clearAllEnded tag result data n u)) := by
  have requests : ((regionOrder.take n).map fun r =>
      ({ kind := reportRegionState, data := regionData r (u.region r).header .cleared } : ReportRequest)) =
      (regionOrder.take n).map fun r =>
        { kind := reportRegionState, data := byteOf (Region.number r) ++ [0, 0, 0, 0, 1] } :=
    List.map_congr_left fun r mem => by rw [empty r mem, regionData_cleared]
  have answered := answered_reports (u.withClearing none) 0x07 tag result data ((regionOrder.take n).map fun r =>
    { kind := reportRegionState, data := byteOf (Region.number r) ++ [0, 0, 0, 0, 1] })
  rw [List.map_map] at answered
  rw [clearAllEnded_withReports _ _ _ _ quiet, requests]
  exact answered

theorem withWaiting_clearAllEnded (s : State) (l : List Instr) (tag result : Byte) (data : Bytes) (n : Nat) :
    clearAllEnded tag result data n (s.withWaiting l) = (clearAllEnded tag result data n s).withWaiting l := by
  have replied : ((s.withWaiting l).withClearing none).reply 0x07 tag result data =
      ((s.withClearing none).reply 0x07 tag result data).withWaiting l :=
    congrArg Prod.fst (withWaiting_offer (s.withClearing none) l .v _)
  rw [clearAllEnded, replied, regionReports_eq, clearAllEnded, regionReports_eq]
  rfl

theorem clearAllEnded_waiting (tag result : Byte) (data : Bytes) (n : Nat) (s : State) :
    (clearAllEnded tag result data n s).waiting = s.waiting := by
  have beside : clearAllEnded tag result data n s = (clearAllEnded tag result data n s).withWaiting s.waiting :=
    withWaiting_clearAllEnded s s.waiting ..
  rw [beside]
  rfl

theorem tableQuiet_clearAllEnded (tag result : Byte) (data : Bytes) (n : Nat) (s : State) :
    TableQuiet s (clearAllEnded tag result data n s) := by
  have replied : TableQuiet s ((s.withClearing none).reply 0x07 tag result data) :=
    tableQuiet_reply ((TableQuiet.refl s).beside (u := s.withClearing none) rfl) ..
  rw [clearAllEnded, regionReports_eq]
  exact replied.beside rfl

/-! ### The requests that have waited -/

theorem tableRequest_isSome (x : Instr) : (tableRequest x).isSome = waitsForClearAll x := by cases x <;> rfl

theorem tableRequest_isNone (x : Instr) : (tableRequest x).isNone = !waitsForClearAll x := by cases x <;> rfl

theorem exec_of_tableRequest {x : Instr} {f : State → State} (e : tableRequest x = some f) (s : State) :
    exec x s = taken x f s := by
  unfold tableRequest at e
  split at e <;> cases e <;> rfl

/-- With no table request among those that wait, an end leaves the REPLY and the reports alone. -/
theorem takesNone {v : State} (unasked : ∀ x ∈ v.waiting, waitsForClearAll x = false) :
    flushReports (takeWaiting tableRequest v) = (flushReports v).withWaiting v.waiting := by
  have none : (v.waiting.filter fun c => (tableRequest c).isSome) = [] :=
    List.filter_eq_nil_iff.mpr fun x mem => by
      rw [tableRequest_isSome, unasked x mem]
      exact Bool.false_ne_true
  have all : (v.waiting.filter fun c => (tableRequest c).isNone) = v.waiting :=
    List.filter_eq_self.mpr fun x mem => by
      rw [tableRequest_isNone, unasked x mem]
      rfl
  rw [takeWaiting_eq, none, all, List.foldl_nil, withWaiting_flushReports, flushReports_again]

/-- The table requests taken at an end are commands run after it. -/
theorem tableRequests_run (xs : List Instr) (t : State) (steady : t.steady)
    (mine : ∀ x ∈ xs, waitsForClearAll x = true) (fresh : ∀ x, waitsForClearAll x = true → x ∉ t.handed) :
    runsAll xs (.next t) = .next (xs.foldl (takeRequest tableRequest) t) ∧
      (xs.foldl (takeRequest tableRequest) t).reports = [] := by
  induction xs generalizing t with
  | nil => exact ⟨rfl, steady.2⟩
  | cons x xs ih =>
    have table := mine x List.mem_cons_self
    obtain ⟨f, request⟩ := Option.isSome_iff_exists.mp ((tableRequest_isSome x).trans table)
    have alone : t.took x = t := congrArg t.withHanded (List.erase_of_not_mem (fresh x table))
    have runsOne : exec x t = .next (flushReports (f t)) := by
      rw [exec_of_tableRequest request, taken_of_steady steady, alone]
    have offers : Offers .storeAndJobs (fun _ => True) t (flushReports (f t)) :=
      offers_flushReports (offers_tableRequest .refl trivial request) trivial
    have asks : TableQuiet t (flushReports (f t)) := tableQuiet_flushReports (tableQuiet_tableRequest t request)
    rw [List.foldl_cons, takeRequest_of_own request]
    obtain ⟨all, quiet⟩ := ih (flushReports (f t))
      ⟨(power_of_leavesOthers (by decide) offers.others).trans steady.1, flushReports_reports _⟩
      (fun y mem => mine y (List.mem_cons_of_mem _ mem)) fun y table mem => fresh y table (asks.before y table mem)
    refine ⟨?_, quiet⟩
    calc runsAll (x :: xs) (.next t) = runsAll xs (exec x t) := rfl
      _ = _ := by rw [runsOne, all]

/-- The end of a CLEAR ALL, and its table requests run on from it one after another. -/
theorem end_takesRequests {ended : State → State}
    (beside : ∀ l u, ended (State.withWaiting u l) = (ended u).withWaiting l) {s : State}
    (steady : s.steady) (handed : s.handed = [])
    (offers : Offers .storeAndJobs (fun _ => True) s (ended s)) (asks : TableQuiet s (ended s)) :
    (.next (flushReports (takeWaiting tableRequest (ended s))) : Host.Outcome State Fault Refusal) =
      runsAll (s.waiting.filter waitsForClearAll) (.next (flushReports (takeWaiting tableRequest
        (ended (s.withWaiting (s.waiting.filter fun x => !waitsForClearAll x)))))) := by
  generalize mineEq : s.waiting.filter waitsForClearAll = mine
  generalize othersEq : (s.waiting.filter fun x => !waitsForClearAll x) = others
  have table : ∀ x ∈ mine, waitsForClearAll x = true := fun x mem => by
    rw [← mineEq] at mem
    exact (List.mem_filter.mp mem).2
  have notTable : ∀ x ∈ others, waitsForClearAll x = false := fun x mem => by
    rw [← othersEq] at mem
    simpa using (List.mem_filter.mp mem).2
  have waiting : (ended s).waiting = s.waiting := by
    rw [show ended s = (ended s).withWaiting s.waiting from beside s.waiting s]
    rfl
  have quiet : ((flushReports (ended s)).withWaiting others).reports = [] := flushReports_reports _
  have power : (flushReports (ended s)).power = s.power :=
    power_of_leavesOthers (b := .storeAndJobs) (by decide) (offers_flushReports offers trivial).others
  obtain ⟨run, noReports⟩ := tableRequests_run mine ((flushReports (ended s)).withWaiting others)
    ⟨power.trans steady.1, quiet⟩ table fun x isTable mem => by
      have before := (tableQuiet_flushReports asks).before x isTable mem
      rw [handed] at before
      cases before
  have here : takeWaiting tableRequest (ended s) =
      mine.foldl (takeRequest tableRequest) ((flushReports (ended s)).withWaiting others) := by
    rw [takeWaiting_eq, waiting]
    simp only [tableRequest_isSome, tableRequest_isNone]
    rw [mineEq, othersEq]
  have there : flushReports (takeWaiting tableRequest (ended (s.withWaiting others))) =
      (flushReports (ended s)).withWaiting others := by
    rw [takesNone (by rw [beside]; exact notTable), beside, withWaiting_flushReports]
    rfl
  rw [here, there, run, flushReports_of_nil noReports]

end Sys2Proof.Machine
end

section
/-!
SUPPORT. The steps of a CLEAR ALL as R33 says them: the next clear, the end at a region found blocked, the last clear,
and the requests that follow.
-/

namespace Sys2Proof.Machine

/-! ### The end, whole -/

theorem offers_clearAllEnded (tag result : Byte) (data : Bytes) (n : Nat) (s : State) :
    Offers .storeAndJobs (fun _ => True) s (clearAllEnded tag result data n s) :=
  offers_foldl (offers_reply (.mono storeAndJobs_covers_store (offers_withStore .refl _)) trivial ..)
    fun r _ k => offers_regionReport k _ r

theorem offers_clearOne_jobs (r : Region) (s : State) : Offers .storeAndJobs (fun _ => True) s (clearOne r s) :=
  .mono storeAndJobs_covers_storeAndSequencer (offers_clearOne .refl trivial r)

/-- What the clear of GATES, the last of a CLEAR ALL, leaves before its end. -/
structure LastCleared (s u : State) : Prop where
  store : u.store = s.store.without .gates
  line : u.line = s.line
  time : u.time = s.time
  clock : u.sequencer.clock = s.sequencer.clock
  told : u.handed = clearNotices s .gates
  noReports : u.reports = []

/-- The end with DONE. -/
theorem lastClear_answered {s u : State} (h : LastCleared s u) (tag : Byte) (l : List Instr)
    (headers : ∀ q ∈ regionOrder.take 7, (u.region q).header = { state := .empty, count := 0, check := 0 }) :
    let t := (flushReports (clearAllEnded tag done [] 7 u)).withWaiting l
    Clears .gates s t ∧ t.store.clearing = none ∧ t.besideSpace = clearNotices s .gates ∧
      (s.room 1 → t.handed = clearNotices s .gates) ∧
      (s.room 8 → addedV s t (s.replyFrame 0x07 tag done [] ::
        regionOrder.map fun q => s.reportFrame 0x02 (byteOf (Region.number q) ++ [0, 0, 0, 0, 1]))) := by
  intro t
  have answered := clearAllEnded_answered tag done [] 7 h.noReports headers
  have stored : t.store = { s.store.without .gates with clearing := none } := by
    rw [← h.store]
    exact answered.store
  have site : u.store.site = s.store.site := by rw [h.store]; rfl
  have room : ∀ n, s.room n → (u.withClearing none).room n := fun n places => by
    rw [State.room, State.withClearing, State.withStore_line, h.line]
    exact places
  have told : (u.withClearing none).handed = clearNotices s .gates := h.told
  refine ⟨clears_of_store ?_ ?_ ?_, ?_, answered.beside.trans ?_,
    fun places => (answered.handed (room 1 places)).trans told, fun places => ?_⟩
  · rw [stored]
  · rw [stored]
    rfl
  · rw [stored]
  · rw [stored]
  · rw [State.besideSpace, told]
    exact List.filter_eq_self.mpr fun e mem => bne_iff_ne.mpr fun same => clearNotices_noSpace s .gates (same ▸ mem)
  · have added := answered.added (room 8 places)
    simp only [replyFrame_congr site, reportFrame_congr_site h.time site h.clock] at added
    unfold addedV at added ⊢
    rw [← h.line]
    exact added

section
variable {s : State} (steady : s.steady) (alone : s.pending = []) (handed : s.handed = []) {run : ClearRun}
  (under : s.store.clearing = some run) {r : Region} (here : regionOrder[run.cleared]? = some r)
include steady alone handed under here

/-- The table requests that have waited for the end of a CLEAR ALL are taken as if they came after it. -/
theorem step_takesRequests (ends : run.cleared = 6 ∨ s.interlocked r = true) :
    step s = runsAll (s.waiting.filter waitsForClearAll)
      (step (s.withWaiting (s.waiting.filter fun x => !waitsForClearAll x))) := by
  have waits : ∀ l, step (s.withWaiting l) = .next (flushReports (clearNext run (s.withWaiting l))) := fun l =>
    step_clearing (s := s.withWaiting l) steady alone handed under
  rw [step_clearing steady alone handed under, waits]
  have same : ∀ l, (s.withWaiting l).interlocked r = s.interlocked r := fun l => by cases r <;> rfl
  cases locked : s.interlocked r with
  | true =>
    rw [clearNext_of_locked here locked, clearNext_of_locked here ((same _).trans locked)]
    exact end_takesRequests (fun l u => withWaiting_clearAllEnded u l ..) steady handed (offers_clearAllEnded ..)
      (tableQuiet_clearAllEnded ..)
  | false =>
    have last : run.cleared = 6 := ends.resolve_right (by rw [locked]; exact Bool.false_ne_true)
    rw [clearNext_of_last here locked last, clearNext_of_last here ((same _).trans locked) last]
    exact end_takesRequests (ended := fun u => clearAllEnded run.tag done [] 7 (clearOne r u))
      (fun l u => by rw [withWaiting_clearOne, withWaiting_clearAllEnded]) steady handed
      ((offers_clearOne_jobs r s).trans (offers_clearAllEnded ..))
      ((tableQuiet_clearOne r s).trans (tableQuiet_clearAllEnded ..))

/-- A region found blocked at its own clear ends the CLEAR ALL (R33). -/
theorem step_locked (locked : s.interlocked r = true)
    (empty : ∀ q ∈ regionOrder.take run.cleared, (s.region q).header = { state := .empty, count := 0, check := 0 })
    (unasked : ∀ x ∈ s.waiting, waitsForClearAll x = false) {t : State} (next : step s = .next t) :
    t.store = { s.store with clearing := none } ∧ t.besideSpace = [] ∧ (s.room 1 → t.handed = []) ∧
      (s.room (run.cleared + 1) → addedV s t
        (s.replyFrame 0x07 run.tag wrongState (byteOf (Region.number r)) ::
          (regionOrder.take run.cleared).map fun q =>
            s.reportFrame 0x02 (byteOf (Region.number q) ++ [0, 0, 0, 0, 1]))) := by
  rw [step_clearing steady alone handed under, clearNext_of_locked here locked,
    takesNone (by rw [clearAllEnded_waiting]; exact unasked)] at next
  cases next
  have answered := clearAllEnded_answered run.tag wrongState (byteOf (Region.number r)) run.cleared steady.2 empty
  refine ⟨answered.store, answered.beside.trans ?_, fun room => (answered.handed room).trans handed, fun room => ?_⟩
  · change s.handed.filter _ = []
    rw [handed]
    rfl
  · have long : ((regionOrder.take run.cleared).map fun q =>
        s.reportFrame 0x02 (byteOf (Region.number q) ++ [0, 0, 0, 0, 1])).length ≤ run.cleared := by
      rw [List.length_map]
      exact List.length_take_le ..
    exact answered.added (room_mono room (Nat.succ_le_succ long))

/-- The next clear, others to follow: the requests wait on. -/
theorem step_goesOn (unlocked : s.interlocked r = false) (more : run.cleared ≤ 5) {t : State}
    (next : step s = .next t) :
    Clears r s t ∧ t.store.clearing = some { run with cleared := run.cleared + 1 } ∧ t.waiting = s.waiting ∧
      (∀ e ∈ clearNotices s r, e ∈ t.handed) ∧
      (¬ (s.active r = true ∧ r ∈ [Region.paths, .schedule]) → t.line = s.line ∧ t.handed = clearNotices s r) := by
  have noReports : (clearAndGoOn run r s).reports = [] := clearOne_reports steady.2
  rw [step_clearing steady alone handed under, clearNext_of_more here unlocked more,
    flushReports_of_nil noReports] at next
  cases next
  refine ⟨clears_clearAndGoOn run r, rfl, clearOne_waiting r s, fun e mem => ?_, fun plain => ?_⟩
  · cases live : s.active r with
    | true =>
      rw [clearNotices_of_active live] at mem
      exact clearOne_tells live e mem
    | false =>
      rw [clearNotices_of_idle live] at mem
      cases mem
  · rw [clearAndGoOn_line, clearAndGoOn_handed, clearOne_plain steady.2 plain, State.withHanded_handed, handed]
    exact ⟨rfl, List.nil_append _⟩

/-- The seventh clear ends the CLEAR ALL with DONE. -/
theorem step_last (unlocked : s.interlocked r = false) (last : run.cleared = 6)
    (empty : ∀ q ∈ regionOrder.take run.cleared, (s.region q).header = { state := .empty, count := 0, check := 0 })
    (unasked : ∀ x ∈ s.waiting, waitsForClearAll x = false) {t : State} (next : step s = .next t) :
    Clears .gates s t ∧ t.store.clearing = none ∧ t.besideSpace = clearNotices s .gates ∧
      (s.room 1 → t.handed = clearNotices s .gates) ∧
      (s.room 8 → addedV s t (s.replyFrame 0x07 run.tag done [] ::
        regionOrder.map fun q => s.reportFrame 0x02 (byteOf (Region.number q) ++ [0, 0, 0, 0, 1]))) := by
  have gates : r = .gates := by
    rw [last] at here
    exact (Option.some.inj here).symm
  subst gates
  have plain : ¬ (s.active .gates = true ∧ Region.gates ∈ [Region.paths, .schedule]) := by
    rintro ⟨-, mem⟩
    revert mem
    decide
  have headers : ∀ q ∈ regionOrder.take 7,
      ((clearOne .gates s).region q).header = { state := .empty, count := 0, check := 0 } := fun q mem => by
    have clears : Clears .gates s (clearOne .gates s) :=
      clears_of_store (by rw [clearOne_store]) (by rw [clearOne_store]; rfl) (by rw [clearOne_store])
    by_cases same : q = .gates
    · rw [same, clears.region]
    · rw [clears.others q mem same]
      refine empty q ?_
      rw [last]
      revert same mem
      cases q <;> decide
  have store : (clearOne .gates s).store = s.store.without .gates := clearOne_store
  have left := clearOne_plain (s := s) steady.2 plain
  rw [handed, List.nil_append] at left
  have line : (clearOne .gates s).line = s.line := by rw [left]; rfl
  have time : (clearOne .gates s).time = s.time := by rw [left]; rfl
  have clock : (clearOne .gates s).sequencer.clock = s.sequencer.clock := by rw [left]; rfl
  have told : (clearOne .gates s).handed = clearNotices s .gates := by rw [left]; rfl
  have noReports : (clearOne .gates s).reports = [] := clearOne_reports steady.2
  have waiting : (clearOne .gates s).waiting = s.waiting := clearOne_waiting .gates s
  rw [step_clearing steady alone handed under, clearNext_of_last here unlocked last] at next
  rw [takesNone (by rw [clearAllEnded_waiting, waiting]; exact unasked)] at next
  cases next
  exact lastClear_answered ⟨store, line, time, clock, told, noReports⟩ run.tag _ headers

end

end Sys2Proof.Machine
end

section
/-!
SUPPORT. A claim set whose claims of some sources are turned into one CENTRE claim (R34).
-/

namespace Sys2Proof.Machine

theorem mapGet_filter_keys {α : Type} (m : Map α) (p : Nat → Bool) (i : Nat) :
    mapGet (m.filter fun e => p e.1) i = if p i = true then mapGet m i else none := by
  induction m with
  | nil => simp [mapGet]
  | cons e m ih =>
    obtain ⟨k, v⟩ := e
    by_cases keeps : p k = true <;> by_cases same : i = k <;> simp_all [mapGet]

/-- The least of the times of placement. -/
theorem leastOf_fold (l : Map Claim) (acc : Option Nat) (some : acc.isSome = true ∨ l ≠ []) :
    ∃ n, l.foldl (fun acc e => leastOf acc e.2.placed) acc = .some n ∧ (∀ e ∈ l, n ≤ e.2.placed) ∧
      (∀ a ∈ acc, n ≤ a) ∧ (n ∈ acc ∨ ∃ e ∈ l, e.2.placed = n) := by
  induction l generalizing acc with
  | nil =>
    obtain ⟨n, rfl⟩ := Option.isSome_iff_exists.mp (some.resolve_right fun h => h rfl)
    exact ⟨n, rfl, fun e mem => (List.not_mem_nil mem).elim, fun a mem => by cases mem; exact Nat.le_refl n, .inl rfl⟩
  | cons e l ih =>
    obtain ⟨n, fold, below, low, from'⟩ := ih (leastOf acc e.2.placed) (.inl rfl)
    have least := low _ rfl
    refine ⟨n, fold, fun x mem => ?_, fun a mem => ?_, ?_⟩
    · rcases List.mem_cons.mp mem with rfl | mem
      · cases acc with
        | none => exact least
        | some a => exact least.trans (Nat.min_le_right ..)
      · exact below x mem
    · cases mem
      exact least.trans (Nat.min_le_left ..)
    · rcases from' with mem | ⟨x, mem, placed⟩
      · cases acc with
        | none =>
          cases mem
          exact .inr ⟨e, List.mem_cons_self, rfl⟩
        | some a =>
          cases mem
          rcases Nat.le_total a e.2.placed with le | le
          · exact .inl (congrArg Option.some (Nat.min_eq_left le).symm)
          · exact .inr ⟨e, List.mem_cons_self, (Nat.min_eq_right le).symm⟩
      · exact .inr ⟨x, List.mem_cons_of_mem _ mem, placed⟩

section
variable {lo hi : Nat} {m : Map Claim}

/-- A set without claims of the sources stays whole. -/
theorem convertClaims_of_none (none : (m.any fun e => within e.1 lo hi) = false) : convertClaims lo hi m = m := by
  have empty : (m.filter fun e => within e.1 lo hi) = [] :=
    List.filter_eq_nil_iff.mpr fun e mem => List.any_eq_false.mp none e mem
  rw [convertClaims, empty]
  rfl

theorem convertClaims_of_some (some : (m.any fun e => within e.1 lo hi) = true) :
    convertClaims lo hi m = mapPut (m.filter fun e => !within e.1 lo hi) sourceCentre
      (convertedClaim (mapGet m sourceCentre) (m.filter fun e => within e.1 lo hi)) := by
  obtain ⟨e, mem, inside⟩ := List.any_eq_true.mp some
  have there : e ∈ m.filter fun e => within e.1 lo hi := List.mem_filter.mpr ⟨mem, inside⟩
  have full : (m.filter fun e => within e.1 lo hi).isEmpty = false :=
    List.isEmpty_eq_false_iff.mpr (List.ne_nil_of_mem there)
  rw [convertClaims, full, if_neg Bool.false_ne_true]

theorem mapSorted_convertClaims (sorted : mapSorted m = true) : mapSorted (convertClaims lo hi m) = true := by
  cases some : m.any fun e => within e.1 lo hi with
  | false => rwa [convertClaims_of_none some]
  | true =>
    rw [convertClaims_of_some some]
    exact mapSorted_mapPut _ _ (mapSorted_filter _ sorted)

theorem sources_convertClaims (few : ∀ e ∈ m, e.1 ≤ 50) : ∀ e ∈ convertClaims lo hi m, e.1 ≤ 50 := by
  cases some : m.any fun e => within e.1 lo hi with
  | false => rwa [convertClaims_of_none some]
  | true =>
    rw [convertClaims_of_some some]
    intro e mem
    rcases mem_mapPut mem with rfl | mem
    · exact Nat.zero_le _
    · exact few e (List.mem_filter.mp mem).1

/-- The CENTRE claim that stands for the claims converted. -/
theorem centre_convertClaims (some : (m.any fun e => within e.1 lo hi) = true) :
    ∃ b, mapGet (convertClaims lo hi m) 0 = .some b ∧
      (∀ e ∈ m, within e.1 lo hi = true → e.2.urgent = true → b.urgent = true) ∧
      (∀ z ∈ mapGet m 0, b.placed = z.placed ∧ (z.urgent = true → b.urgent = true)) ∧
      (mapGet m 0 = none → (∀ e ∈ m, within e.1 lo hi = true → b.placed ≤ e.2.placed) ∧
        ∃ e ∈ m, within e.1 lo hi = true ∧ e.2.placed = b.placed) ∧
      (b.urgent = true → ∃ e ∈ m, (within e.1 lo hi = true ∨ e.1 = 0) ∧ e.2.urgent = true) := by
  obtain ⟨x, mem, inside⟩ := List.any_eq_true.mp some
  have there : x ∈ m.filter fun e => within e.1 lo hi := List.mem_filter.mpr ⟨mem, inside⟩
  have urgents : ((m.filter fun e => within e.1 lo hi).any fun e => e.2.urgent) = true ↔
      ∃ e ∈ m, within e.1 lo hi = true ∧ e.2.urgent = true := by
    simp [List.any_eq_true]
  refine ⟨_, by rw [convertClaims_of_some some]; exact mapGet_mapPut_self .., ?_⟩
  change _ ∧ (∀ z ∈ mapGet m sourceCentre, _) ∧ (mapGet m sourceCentre = none → _) ∧ _
  cases centre : mapGet m sourceCentre with
  | some z =>
    refine ⟨fun e own inside urgent => ?_, fun y own => ?_, nofun, fun urgent => ?_⟩
    · exact Bool.or_eq_true _ _ |>.mpr (.inr (urgents.mpr ⟨e, own, inside, urgent⟩))
    · cases own
      exact ⟨rfl, fun urgent => Bool.or_eq_true _ _ |>.mpr (.inl urgent)⟩
    · rcases (Bool.or_eq_true _ _).mp urgent with urgent | urgent
      · exact ⟨_, mem_of_mapGet centre, .inr rfl, urgent⟩
      · obtain ⟨e, own, inside, urgent⟩ := urgents.mp urgent
        exact ⟨e, own, .inl inside, urgent⟩
  | none =>
    obtain ⟨n, least, below, -, from'⟩ :=
      leastOf_fold (m.filter fun e => within e.1 lo hi) none (.inr (List.ne_nil_of_mem there))
    have placed : (convertedClaim none (m.filter fun e => within e.1 lo hi)).placed = n := by
      rw [convertedClaim]
      exact congrArg (fun o : Option Nat => o.getD 0) least
    refine ⟨fun e own inside urgent => urgents.mpr ⟨e, own, inside, urgent⟩, nofun, fun _ => ⟨?_, ?_⟩, fun urgent => ?_⟩
    · intro e own inside
      rw [placed]
      exact below e (List.mem_filter.mpr ⟨own, inside⟩)
    · obtain ⟨e, own, same⟩ := from'.resolve_left nofun
      obtain ⟨own, inside⟩ := List.mem_filter.mp own
      exact ⟨e, own, inside, same.trans placed.symm⟩
    · obtain ⟨e, own, inside, urgent⟩ := urgents.mp urgent
      exact ⟨e, own, .inl inside, urgent⟩

/-- What is left of the claims beside the CENTRE claim. -/
theorem mapGet_convertClaims {i : Nat} (other : 1 ≤ i) :
    mapGet (convertClaims lo hi m) i = if lo ≤ i ∧ i ≤ hi then none else mapGet m i := by
  cases some : m.any fun e => within e.1 lo hi with
  | false =>
    rw [convertClaims_of_none some]
    split
    · next inside =>
      by_contra found
      obtain ⟨c, found⟩ := Option.ne_none_iff_exists'.mp found
      exact List.any_eq_false.mp some _ (mem_of_mapGet found) ((within_iff ..).mpr inside)
    · rfl
  | true =>
    rw [convertClaims_of_some some, mapGet_mapPut_of_ne _ _ (by change i ≠ 0; omega),
      mapGet_filter_keys m (fun k => !within k lo hi) i]
    by_cases inside : lo ≤ i ∧ i ≤ hi
    · rw [if_pos inside, if_neg (by rw [(within_iff ..).mpr inside]; decide)]
    · rw [if_neg inside, if_pos (by rw [Bool.not_eq_true', ← Bool.not_eq_true, within_iff]; exact inside)]

/-- A conversion keeps whether a claim of a set is urgent. -/
theorem urgent_convertClaims (sorted : mapSorted m = true) :
    ((convertClaims lo hi m).any fun e => e.2.urgent) = m.any fun e => e.2.urgent := by
  cases some : m.any fun e => within e.1 lo hi with
  | false => rw [convertClaims_of_none some]
  | true =>
    obtain ⟨b, centre, given, own, -, back⟩ := centre_convertClaims some
    have sorted' := mapSorted_convertClaims (lo := lo) (hi := hi) sorted
    rw [Bool.eq_iff_iff, List.any_eq_true, List.any_eq_true]
    constructor
    · rintro ⟨e, mem, urgent⟩
      have found := mapGet_of_mem sorted' mem
      by_cases zero : e.1 = 0
      · rw [zero, centre] at found
        obtain ⟨x, there, -, urgent'⟩ := back (by rw [Option.some.inj found]; exact urgent)
        exact ⟨x, there, urgent'⟩
      · rw [mapGet_convertClaims (by omega)] at found
        split at found
        · cases found
        · exact ⟨_, mem_of_mapGet found, urgent⟩
    · rintro ⟨e, mem, urgent⟩
      have found := mapGet_of_mem sorted mem
      by_cases zero : e.1 = 0
      · rw [zero] at found
        exact ⟨_, mem_of_mapGet centre, (own _ found).2 urgent⟩
      · by_cases inside : lo ≤ e.1 ∧ e.1 ≤ hi
        · exact ⟨_, mem_of_mapGet centre, given e mem ((within_iff ..).mpr inside) urgent⟩
        · have kept : mapGet (convertClaims lo hi m) e.1 = .some e.2 := by
            rw [mapGet_convertClaims (by omega), if_neg inside, found]
          exact ⟨_, mem_of_mapGet kept, urgent⟩

end

end Sys2Proof.Machine
end

section
/-!
SUPPORT. The conversion of claims at the segments, and the SEGMENT reports of an event (R34, R109, R115).
-/

namespace Sys2Proof.Machine

/-! ### The reports of an event -/

/-- What an event's end asks to be reported of one segment. -/
def outcomeReports (cause : SegmentCause) (before s : State) (g : Nat) : List ReportRequest :=
  match before.segment g, s.segment g with
  | some old, some new =>
    if segmentChanged old new = true then
      [{ kind := reportSegment, data := segmentData s g old.state new cause }]
    else []
  | _, _ => []

theorem outcomeReports_congr {cause : SegmentCause} {before s t : State} {g : Nat} (kept : SegmentKept g s t) :
    outcomeReports cause before t g = outcomeReports cause before s g := by
  have data : ∀ st r, segmentData t g st r cause = segmentData s g st r cause := fun st r => by
    simp only [segmentData, State.remaining, kept.now]
  unfold outcomeReports
  rw [kept.same]
  simp only [data]

theorem segmentOutcome_reports (cause : SegmentCause) (before : State) (g : Nat) (s : State) :
    (segmentOutcome cause before g s).reports = s.reports ++ outcomeReports cause before s g := by
  unfold segmentOutcome outcomeReports
  cases before.segment g with
  | none => exact (List.append_nil _).symm
  | some old =>
    cases s.segment g with
    | none => exact (List.append_nil _).symm
    | some new =>
      dsimp only
      by_cases changed : segmentChanged old new = true
      · rw [if_pos changed, if_pos changed]
        split <;> rfl
      · rw [if_neg changed, if_neg changed, List.append_nil]
        split <;> rfl

/-- The reports of an event, those of several segments one after another. -/
theorem segmentOutcomes_reports (cause : SegmentCause) (before : State) (l : List Nat) (s : State) :
    (forEach l (segmentOutcome cause before) s).reports =
      s.reports ++ l.flatMap (outcomeReports cause before s) := by
  induction l generalizing s with
  | nil => exact (List.append_nil _).symm
  | cons g l ih =>
    have same : outcomeReports cause before (segmentOutcome cause before g s) = outcomeReports cause before s :=
      funext fun i => outcomeReports_congr (segmentWithheld_segmentOutcome cause before g i s).toSegmentKept
    rw [forEach_cons, ih, same, segmentOutcome_reports, List.flatMap_cons, List.append_assoc]

theorem segmentChanged_iff (old new : SegmentRec) :
    segmentChanged old new = true ↔ ¬ (old.state = new.state ∧ old.claims = new.claims ∧
      old.gateFault = new.gateFault ∧ old.blocked = new.blocked ∧ old.unannounced = new.unannounced) := by
  simp only [segmentChanged, Bool.or_eq_true, bne_iff_ne]
  tauto

/-- The reports of an event as they are offered. -/
theorem outcomeReports_frames {cause : SegmentCause} {before s : State} {g : Nat} {old new : SegmentRec}
    (was : before.segment g = some old) (is : s.segment g = some new) (time : s.time = before.time) :
    (outcomeReports cause before s g).map (fun r => before.reportFrame r.kind r.data) =
      before.segmentReports g old new (BitVec.ofNat 8 (SegmentCause.num cause)) := by
  have now : s.now = before.now := congrArg (· / 2) time
  unfold outcomeReports State.segmentReports
  rw [was, is]
  dsimp only
  by_cases changed : segmentChanged old new = true
  · rw [if_pos changed, if_neg ((segmentChanged_iff old new).mp changed)]
    simp only [segmentData, State.remaining, now]
    rfl
  · rw [if_neg changed, if_pos (not_not.mp fun n => changed ((segmentChanged_iff old new).mpr n))]
    rfl

/-! ### The conversion at one segment -/

/-- A record with the claims of the sources `lo` to `hi` converted, a NOTICE parameter computed afresh where there were
some. -/
def State.converted (s : State) (row : SegmentRow) (lo hi : Nat) (r : SegmentRec) : SegmentRec :=
  if r.state = .notice ∧ (r.claims.any fun e => within e.1 lo hi) = true then
    { r with
      claims := convertClaims lo hi r.claims
      parameter := s.parameterOf row { r with claims := convertClaims lo hi r.claims } }
  else { r with claims := convertClaims lo hi r.claims }

section
variable {s : State} {row : SegmentRow} {lo hi : Nat} {r : SegmentRec}

theorem converted_state : (s.converted row lo hi r).state = r.state := by unfold State.converted; split <;> rfl

theorem converted_lead : (s.converted row lo hi r).lead = r.lead := by unfold State.converted; split <;> rfl

theorem converted_grace : (s.converted row lo hi r).grace = r.grace := by unfold State.converted; split <;> rfl

theorem converted_claims : (s.converted row lo hi r).claims = convertClaims lo hi r.claims := by
  unfold State.converted
  split <;> rfl

theorem converted_urgent (sorted : mapSorted r.claims = true) : (s.converted row lo hi r).urgent = r.urgent := by
  rw [SegmentRec.urgent, converted_claims, urgent_convertClaims sorted, SegmentRec.urgent]

theorem converted_of_none (none : (r.claims.any fun e => within e.1 lo hi) = false) :
    s.converted row lo hi r = r := by
  rw [State.converted, none, convertClaims_of_none none, if_neg fun h => Bool.false_ne_true h.2]

theorem converted_of_notice (notice : r.state = .notice) (some : (r.claims.any fun e => within e.1 lo hi) = true) :
    s.converted row lo hi r =
      { r with
        claims := convertClaims lo hi r.claims
        parameter := s.parameterOf row { r with claims := convertClaims lo hi r.claims } } :=
  if_pos ⟨notice, some⟩

theorem converted_of_other (other : r.state ≠ .notice) :
    s.converted row lo hi r = { r with claims := convertClaims lo hi r.claims } := if_neg fun h => other h.1

theorem converted_congr {t : State} (h : t.parameterOf = s.parameterOf) :
    t.converted row lo hi r = s.converted row lo hi r := by rw [State.converted, h, State.converted]

/-- Only a NOTICE has its parameter changed. -/
theorem converted_parameter (turns : (s.converted row lo hi r).parameter ≠ r.parameter) : r.state = .notice := by
  by_contra other
  exact turns (by rw [converted_of_other other])

variable {g : Nat} (found : s.segment g = some r) (present : s.segmentRow g = some row)
include found present

theorem refreshParameter_tells (notice : r.state = .notice) (turns : s.parameterOf row r ≠ r.parameter) :
    .segmentNotice g .notice (s.parameterOf row r) ∈ (refreshParameter g s).handed := by
  unfold refreshParameter
  rw [found, present]
  dsimp only
  rw [if_pos ⟨notice, turns⟩]
  exact List.mem_append_right _ List.mem_cons_self

theorem refreshParameter_of_other (other : r.state ≠ .notice) : refreshParameter g s = s := by
  unfold refreshParameter
  rw [found, present]
  exact if_neg fun h => other h.1

/-- The conversion at one segment leaves the record converted, a changed parameter told. -/
theorem convertAt_leaves :
    SegmentLeft g s (convertAt lo hi g s) (s.converted row lo hi r) ∧
      ((s.converted row lo hi r).parameter ≠ r.parameter →
        .segmentNotice g .notice (s.converted row lo hi r).parameter ∈ (convertAt lo hi g s).handed) := by
  have run : convertAt lo hi g s =
      if (r.claims.any fun e => within e.1 lo hi) = true then
        refreshParameter g (s.withSegment g { r with claims := convertClaims lo hi r.claims })
      else s := by rw [convertAt, found]
  let q : SegmentRec := { r with claims := convertClaims lo hi r.claims }
  have placed : SegmentLeft g s (s.withSegment g q) q := segmentLeft_withSegment s g q
  have there : (s.withSegment g q).segment g = some q := placed.segment present
  have row' : (s.withSegment g q).segmentRow g = some row := by rw [placed.segmentRow]; exact present
  cases some : r.claims.any fun e => within e.1 lo hi with
  | false =>
    rw [run, some, if_neg Bool.false_ne_true, converted_of_none some]
    exact ⟨⟨.refl g s, (State.segment_eq_some.mp found).2⟩, fun turns => absurd rfl turns⟩
  | true =>
    rw [run, some, if_pos rfl]
    by_cases notice : r.state = .notice
    · have same : (s.withSegment g q).parameterOf row q = s.parameterOf row q := by rw [placed.parameterOf]
      have left := (refreshParameter_leaves there row' notice).behind placed.toOnlySegment
      have told := refreshParameter_tells there row' notice
      rw [same] at left told
      rw [converted_of_notice notice some]
      exact ⟨left, told⟩
    · rw [refreshParameter_of_other there row' notice, converted_of_other notice]
      exact ⟨placed, fun turns => absurd rfl turns⟩

/-- The conversion at all segments, of one of them. -/
theorem convertSources_leaves (low : g < 8) :
    (convertSources lo hi s).segment g = some (s.converted row lo hi r) ∧
      ((s.converted row lo hi r).parameter ≠ r.parameter →
        .segmentNotice g .notice (s.converted row lo hi r).parameter ∈ (convertSources lo hi s).handed) := by
  obtain ⟨u, first, last⟩ := forEach_own (onlySegment_convertAt lo hi) low s
  have present' : u.segmentRow g = some row := by rw [first.segmentRow]; exact present
  obtain ⟨left, told⟩ := convertAt_leaves (lo := lo) (hi := hi) (first.same.trans found) present'
  rw [converted_congr first.parameterOf] at left told
  have ended : SegmentWithheld g (forEach (List.range 8) (convertAt lo hi) s) (convertSources lo hi s) :=
    forEach_keeps (P := SegmentWithheld g _) (.refl g _) fun i _ t k =>
      k.trans (segmentWithheld_segmentOutcome ..)
  exact ⟨(ended.same.trans last.same).trans (left.segment present'),
    fun turns => ended.handed _ (last.handed _ (told turns))⟩

end

/-- The reports of a conversion. -/
theorem convertSources_reports (lo hi : Nat) {s : State} (quiet : s.reports = []) :
    (convertSources lo hi s).reports =
      (List.range 8).flatMap (outcomeReports .conversion s (convertSources lo hi s)) := by
  have none : (forEach (List.range 8) (convertAt lo hi) s).reports = [] :=
    forEach_keeps (P := fun t => t.reports = []) quiet fun g _ t k => by
      unfold convertAt refreshParameter
      split
      · exact k
      · split
        · split
          · split
            · exact k
            · exact k
          · exact k
        · exact k
  have same : outcomeReports .conversion s (convertSources lo hi s) =
      outcomeReports .conversion s (forEach (List.range 8) (convertAt lo hi) s) :=
    funext fun g => outcomeReports_congr (forEach_keeps (P := SegmentWithheld g _) (.refl g _) fun i _ t k =>
      k.trans (segmentWithheld_segmentOutcome ..)).toSegmentKept
  rw [same, convertSources, segmentEvent, segmentOutcomes_reports, none, List.nil_append]

end Sys2Proof.Machine
end

section
/-!
SUPPORT. CLEAR REGION of an ACTIVE PATHS or SCHEDULE: the segments and the reports of the conversion (R34, R109, R115,
R176).
-/

namespace Sys2Proof.Machine

/-! ### What the clear leaves of the segments' rows -/

theorem segmentRow_congr {s t : State} (inService : t.sequencer.inService = s.sequencer.inService)
    (rows : t.sequencer.segmentRows = s.sequencer.segmentRows) (region : t.region .segments = s.region .segments)
    (told : .segmentsOutOfService ∈ t.handed ↔ .segmentsOutOfService ∈ s.handed) : t.segmentRow = s.segmentRow := by
  have serves : t.serves .segments .segmentsOutOfService = s.serves .segments .segmentsOutOfService := by
    rw [Bool.eq_iff_iff, State.serves_iff, State.serves_iff, State.active, State.active, region, told]
  funext g
  rw [State.segmentRow, State.segmentRow, inService, rows, serves]

theorem segment_congr {s t : State} (rows : t.segmentRow = s.segmentRow)
    (records : t.sequencer.segments = s.sequencer.segments) : t.segment = s.segment := by
  funext g
  rw [State.segment, State.segment, rows, records]

/-- The parameter of a set with a CENTRE claim depends on the clock and the time alone. -/
theorem parameterOf_of_centre {s t : State} {row : SegmentRow} {r r' : SegmentRec}
    (clock : t.sequencer.clock = s.sequencer.clock) (now : t.now = s.now) (claims : r'.claims = r.claims)
    (lead : r'.lead = r.lead) {b : Claim} (centre : mapGet r.claims 0 = some b) :
    t.parameterOf row r' = s.parameterOf row r := by
  have mixed : ¬ (r.claims.all fun e => decide (sourceSchedule0 ≤ e.1)) = true := fun all =>
    absurd (of_decide_eq_true (List.all_eq_true.mp all _ (mem_of_mapGet centre))) (Nat.not_succ_le_zero 18)
  unfold State.parameterOf
  rw [clock, claims, lead, State.remaining, State.remaining, now]
  cases s.sequencer.clock with
  | none => rfl
  | some c =>
    dsimp only
    rw [if_neg mixed, if_neg mixed]

/-! ### The conversion of a region's claims -/

/-- `v` is `w` with the claims of the sources `lo` to `hi` converted. -/
structure Conversion (lo hi : Nat) (w v : State) : Prop where
  line : v.line = w.line
  time : v.time = w.time
  store : v.store = w.store
  reports : v.reports = (convertSources lo hi w).reports
  handed : v.handed = (convertSources lo hi w).handed
  segments : v.sequencer.segments = (convertSources lo hi w).sequencer.segments
  segmentRows : v.sequencer.segmentRows = w.sequencer.segmentRows
  inService : v.sequencer.inService = w.sequencer.inService
  clock : v.sequencer.clock = w.sequencer.clock

theorem conversion_convertSources (lo hi : Nat) (w : State) : Conversion lo hi w (convertSources lo hi w) := by
  have kept := sequencerKept_convertSources lo hi w
  exact ⟨Offers.line_of_none (offers_convertSources .refl lo hi), kept.time, kept.store, rfl, rfl, rfl,
    by rw [kept.rest], by rw [kept.rest], kept.clock⟩

theorem takeWaitingClaims_of_none {w : State} (none : ∀ c ∈ w.handed, isPathClaim c = false) :
    takeWaitingClaims w = w := by
  have waiting : w.handed.filter isPathClaim = [] :=
    List.filter_eq_nil_iff.mpr fun c mem => by rw [none c mem]; exact Bool.false_ne_true
  have others : (w.handed.filter fun c => !isPathClaim c) = w.handed :=
    List.filter_eq_self.mpr fun c mem => by rw [none c mem]; rfl
  rw [takeWaitingClaims, waiting, others]
  rfl

/-- The regions whose clear converts claims, with their sources. -/
def converting : List (Region × Nat × Nat) := [(.paths, 3, 18), (.schedule, 19, 50)]

theorem conversion_convertRegion {r : Region} {lo hi : Nat} (mem : (r, lo, hi) ∈ converting) {w : State}
    (none : ∀ c ∈ w.handed, isPathClaim c = false) : Conversion lo hi w (convertRegion r w) := by
  rcases List.mem_cons.mp mem with same | mem
  · cases same
    have run : convertRegion .paths w = convertSources 3 18 w :=
      congrArg (convertSources 3 18) (takeWaitingClaims_of_none none)
    rw [run]
    exact conversion_convertSources 3 18 w
  · cases List.mem_singleton.mp mem
    obtain ⟨line, time, store, reports, handed, segments, rows, inService, clock⟩ := conversion_convertSources 19 50 w
    exact ⟨line, time, store, reports, handed, segments, rows, inService, clock⟩

theorem exitNotices_other {r : Region} {lo hi : Nat} (mem : (r, lo, hi) ∈ converting) :
    r ≠ .segments ∧ .segmentsOutOfService ∉ exitNotices r := by
  rcases List.mem_cons.mp mem with same | mem
  · cases same
    exact ⟨nofun, by decide⟩
  · cases List.mem_singleton.mp mem
    exact ⟨nofun, by decide⟩

/-- The frames of a conversion at one segment. -/
def conversionFrames (s t : State) (g : Nat) : List LocalFrame :=
  match s.segment g, t.segment g with
  | some x, some y => s.segmentReports g x y 7
  | _, _ => []

/-- What CLEAR REGION with a conversion leaves. -/
structure Converted (lo hi : Nat) (s t : State) (answers : List LocalFrame) : Prop where
  segment : ∀ g, g < 8 → ∀ x ∈ s.segment g, ∀ row ∈ s.segmentRow g,
    t.segment g = some (s.converted row lo hi x) ∧
      ((s.converted row lo hi x).parameter ≠ x.parameter →
        .segmentNotice g .notice (s.converted row lo hi x).parameter ∈ t.handed)
  clock : t.sequencer.clock = s.sequencer.clock
  now : t.now = s.now
  added : s.room ((((List.range 8).flatMap (conversionFrames s t)) ++ answers).length) →
    addedV s t ((List.range 8).flatMap (conversionFrames s t) ++ answers)

theorem emptied_segmentRow {r : Region} (other : r ≠ .segments) (s : State) :
    (s.emptied r).segmentRow = s.segmentRow :=
  segmentRow_congr rfl rfl (Regions.get_set_of_ne _ _ other.symm) .rfl

/-- A state before the conversion, beside the region that is cleared. -/
structure Cleared (s w : State) : Prop where
  line : w.line = s.line
  time : w.time = s.time
  sequencer : w.sequencer = s.sequencer
  site : w.store.site = s.store.site
  rows : w.segmentRow = s.segmentRow
  told : .segmentsOutOfService ∈ w.handed ↔ .segmentsOutOfService ∈ s.handed
  noReports : w.reports = []

/-- The reports of the conversion as they are offered. -/
theorem conversion_frames {lo hi : Nat} {s w t : State} (h : Cleared s w)
    (after : ∀ g, g < 8 → ∀ x ∈ s.segment g, t.segment g = (convertSources lo hi w).segment g) :
    (convertSources lo hi w).reports.map (fun r => s.reportFrame r.kind r.data) =
      (List.range 8).flatMap (conversionFrames s t) := by
  have frame : ∀ kind data, w.reportFrame kind data = s.reportFrame kind data :=
    reportFrame_congr_site h.time h.site (by rw [h.sequencer])
  have same : w.segment = s.segment := segment_congr h.rows (by rw [h.sequencer])
  rw [convertSources_reports lo hi h.noReports, List.map_flatMap]
  refine List.flatMap_congr fun g mem => ?_
  have low : g < 8 := List.mem_range.mp mem
  unfold conversionFrames
  cases was : s.segment g with
  | none =>
    unfold outcomeReports
    rw [same, was]
    rfl
  | some x =>
    obtain ⟨row, present⟩ := Option.isSome_iff_exists.mp (State.segment_eq_some.mp was).1
    obtain ⟨left, -⟩ := convertSources_leaves (lo := lo) (hi := hi) (s := w) (by rw [same]; exact was)
      (by rw [h.rows]; exact present) low
    rw [after g low x was, left]
    have frames := outcomeReports_frames (cause := .conversion) (before := w) (by rw [same]; exact was) left
      (sequencerKept_convertSources lo hi w).time
    simp only [frame] at frames
    rw [frames]
    have now : w.now = s.now := congrArg (· / 2) h.time
    simp only [State.segmentReports, frame, now]
    rfl

section
variable {lo hi : Nat} {s w v t : State} {l : List Instr} {tag : Byte} {data : Bytes} (h : Cleared s w)
  (conv : Conversion lo hi w v) (silent : .segmentsOutOfService ∉ l)
  (answered : Answered ((flushReports v).handAll l) (((flushReports v).handAll l).replyFrame 0x06 tag done [])
    [((flushReports v).handAll l).reportFrame 0x02 data] t)

include h in
theorem converted_of_cleared (row : SegmentRow) (r : SegmentRec) :
    w.converted row lo hi r = s.converted row lo hi r := by
  refine converted_congr ?_
  have now : w.now = s.now := congrArg (· / 2) h.time
  funext row r
  simp only [State.parameterOf, State.earliestWindow, State.scheduleRow, State.remaining, h.sequencer, now]

include h conv silent answered in
theorem cleared_segmentRow (region : t.region .segments = s.region .segments) : t.segmentRow = s.segmentRow := by
  have sequencer : t.sequencer = v.sequencer := answered.sequencer.trans (flushReports_sequencer v)
  refine segmentRow_congr ?_ ?_ region ?_
  · rw [sequencer, conv.inService, h.sequencer]
  · rw [sequencer, conv.segmentRows, h.sequencer]
  · rw [← h.told, ← (sequencerKept_convertSources lo hi w).other _ rfl, ← conv.handed,
      ← (sequencerKept_flushReports v).other _ rfl]
    constructor
    · exact fun mem => (List.mem_append.mp (mem_of_besideSpace answered.beside.symm mem nofun)).resolve_right silent
    · exact fun mem => mem_of_besideSpace answered.beside (List.mem_append_left _ mem) nofun

include h conv silent answered in
theorem cleared_segment (region : t.region .segments = s.region .segments) :
    t.segment = (convertSources lo hi w).segment := by
  refine segment_congr ?_ ?_
  · rw [cleared_segmentRow h conv silent answered region, (sequencerKept_convertSources lo hi w).segmentRow, h.rows]
  · rw [answered.sequencer, State.handAll_sequencer, flushReports_sequencer, conv.segments]

include h conv answered in
/-- The frames of the conversion lie before the REPLY. -/
theorem converted_added (after : t.segment = (convertSources lo hi w).segment) :
    let frames := (List.range 8).flatMap (conversionFrames s t) ++
      [s.replyFrame 0x06 tag done [], s.reportFrame 0x02 data]
    s.room frames.length → addedV s t frames := by
  intro frames room
  have reports : v.reports.map (fun r => s.reportFrame r.kind r.data) =
      (List.range 8).flatMap (conversionFrames s t) := by
    rw [conv.reports]
    exact conversion_frames h fun g _ _ _ => congrFun after g
  have count : v.reports.length = ((List.range 8).flatMap (conversionFrames s t)).length := by
    rw [← reports, List.length_map]
  have long : frames.length = v.reports.length + 2 := by rw [List.length_append, count]; rfl
  have line : v.line = s.line := conv.line.trans h.line
  obtain ⟨up, busy, places⟩ := room
  have fits : v.room v.reports.length := by
    refine ⟨by rw [line]; exact up, by rw [line]; exact busy, ?_⟩
    rw [line]
    omega
  have queue := (flushReports_of_room fits).1
  obtain ⟨sameUp, grows⟩ := lineGrows_flushReports v .v
  have site : (flushReports v).store.site = s.store.site := by rw [flushReports_store, conv.store, h.site]
  have time : (flushReports v).time = s.time := (flushReports_time v).trans (conv.time.trans h.time)
  have clock : (flushReports v).sequencer.clock = s.sequencer.clock := by
    rw [flushReports_sequencer, conv.clock, h.sequencer]
  have offered : v.reportFrames = v.reports.map fun r => s.reportFrame r.kind r.data :=
    List.map_congr_left fun r _ => reportFrame_congr_site (conv.time.trans h.time)
      (by rw [conv.store, h.site]) (by rw [conv.clock, h.sequencer]) r.kind r.data
  have more : ((flushReports v).handAll l).room 2 := by
    refine ⟨sameUp.trans fits.1, (grows fits.1 fits.2.1).1, ?_⟩
    change (flushReports v).line.portV.localQ.length + 2 ≤ _
    rw [queue, offered, List.length_append, List.length_map, line]
    omega
  have added := answered.added more
  rw [replyFrame_congr (s := s) (t := (flushReports v).handAll l) site,
    reportFrame_congr_site (s := s) (t := (flushReports v).handAll l) time site clock] at added
  unfold addedV at added ⊢
  rw [added, State.handAll_line, queue, offered, reports, line, List.append_assoc]

include h conv silent answered in
/-- What the clear leaves, with its conversion told as the statement tells it. -/
theorem converted_of_answered (time : t.time = s.time) (region : t.region .segments = s.region .segments) :
    Converted lo hi s t [s.replyFrame 0x06 tag done [], s.reportFrame 0x02 data] where
  segment g low x found row present := by
    have after := cleared_segment h conv silent answered region
    have same : w.segment = s.segment := segment_congr h.rows (by rw [h.sequencer])
    obtain ⟨left, told⟩ := convertSources_leaves (lo := lo) (hi := hi) (s := w) (by rw [same]; exact found)
      (by rw [h.rows]; exact present) low
    rw [converted_of_cleared h] at left told
    refine ⟨(congrFun after g).trans left, fun turns => ?_⟩
    have there := told turns
    rw [← conv.handed] at there
    exact mem_of_besideSpace answered.beside
      (List.mem_append_left _ ((sequencerKept_flushReports v).handed _ there)) nofun
  clock := by
    rw [answered.sequencer, State.handAll_sequencer, flushReports_sequencer, conv.clock, h.sequencer]
  now := congrArg (· / 2) time
  added := converted_added h conv answered (cleared_segment h conv silent answered region)

end

/-- CLEAR REGION of an ACTIVE region whose sources' claims are converted. -/
theorem clearRegion_converts (tag region : Byte) {s : State} (steady : s.steady) (free : s.store.clearing = none)
    {r : Region} {lo hi : Nat} (mem : (r, lo, hi) ∈ converting) (number : region.toNat = Region.number r)
    (live : s.active r = true) (none : ∀ c ∈ s.handed, isPathClaim c = false) :
    completes (.clearRegion tag region) s fun t => Converted lo hi s t
      [s.replyFrame 0x06 tag done [], s.reportFrame 0x02 (byteOf (Region.number r) ++ [0, 0, 0, 0, 1])] := by
  obtain ⟨other, silent⟩ := exitNotices_other mem
  have unlocked : s.interlocked r = false := by
    rcases List.mem_cons.mp mem with same | mem
    · cases same; rfl
    · cases List.mem_singleton.mp mem; rfl
  obtain ⟨t, run, answered⟩ := clearRegion_clears tag region steady free number unlocked
  refine ⟨t, run, ?_⟩
  have waits : ∀ c ∈ ((s.took (.clearRegion tag region)).emptied r).handed, isPathClaim c = false :=
    fun c mem => none c (List.mem_of_mem_erase mem)
  have shape : clearOne r (s.took (.clearRegion tag region)) =
      (flushReports (convertRegion r ((s.took (.clearRegion tag region)).emptied r))).handAll (exitNotices r) :=
    clearOne_of_active (s := s.took (.clearRegion tag region)) live
  have clears : Clears r s t := clears_of_store (by rw [answered.store, clearOne_store]; rfl)
    (by rw [answered.store, clearOne_store]; rfl) (by rw [answered.store, clearOne_store]; rfl)
  have rows : ((s.took (.clearRegion tag region)).emptied r).segmentRow = s.segmentRow :=
    (emptied_segmentRow other _).trans (funext (took_segmentRow nofun))
  have before : Cleared s ((s.took (.clearRegion tag region)).emptied r) :=
    ⟨rfl, rfl, rfl, rfl, rows, List.mem_erase_of_ne nofun, steady.2⟩
  rw [shape] at answered
  exact converted_of_answered before
    (conversion_convertRegion mem waits) silent answered (exec_time run nofun rfl)
    (clears.others .segments (by decide) other.symm)

end Sys2Proof.Machine
end

section
/-!
OBLIGATION. CLEAR REGION and CLEAR ALL (R22, R31 to R34, R42).
-/

namespace Sys2Proof.Machine

/-! ### The claims of one segment after a conversion -/

section
variable {lo hi : Nat} {s t : State} {row : SegmentRow} {x : SegmentRec}

/-- A record that holds none of the claims stays whole. -/
theorem converted_whole (sorted : mapSorted x.claims = true) (few : ∀ e ∈ x.claims, e.1 ≤ 50)
    (none : ∀ i, i < 51 → lo ≤ i ∧ i ≤ hi → mapGet x.claims i = none) : s.converted row lo hi x = x := by
  refine converted_of_none (List.any_eq_false.mpr fun e mem inside => ?_)
  have absent := none e.1 (Nat.lt_succ_of_le (few e mem)) ((within_iff ..).mp inside)
  rw [mapGet_of_mem sorted mem] at absent
  cases absent

theorem claims_any {i : Nat} (inside : lo ≤ i ∧ i ≤ hi) {a : Claim} (found : mapGet x.claims i = some a) :
    (x.claims.any fun e => within e.1 lo hi) = true :=
  List.any_eq_true.mpr ⟨_, mem_of_mapGet found, (within_iff ..).mpr inside⟩

/-- The parameter of a NOTICE whose claims have been converted. -/
theorem converted_says (clock : t.sequencer.clock = s.sequencer.clock) (now : t.now = s.now)
    (sorted : mapSorted x.claims = true) (few : ∀ e ∈ x.claims, e.1 ≤ 50) (notice : x.state = .notice)
    (some : (x.claims.any fun e => within e.1 lo hi) = true) : parameterSays t row (s.converted row lo hi x) := by
  obtain ⟨b, centre, -⟩ := centre_convertClaims some
  let q : SegmentRec := { x with claims := convertClaims lo hi x.claims }
  rw [converted_of_notice notice some]
  refine parameterSays_of_computed (s := t) rfl rfl rfl (mapSorted_convertClaims sorted) (sources_convertClaims few)
    ?_ rfl rfl rfl
  exact (parameterOf_of_centre (r := q) (r' := { q with parameter := s.parameterOf row q }) clock now rfl rfl
    centre).symm

/-- The CENTRE claim in place of a claim converted. -/
theorem converted_centre {i : Nat} (inside : lo ≤ i ∧ i ≤ hi) {a : Claim} (found : mapGet x.claims i = some a) :
    ∃ b ∈ mapGet (s.converted row lo hi x).claims 0,
      (a.urgent = true → b.urgent = true) ∧
      (∀ z ∈ mapGet x.claims 0, b.placed = z.placed ∧ (z.urgent = true → b.urgent = true)) ∧
      (mapGet x.claims 0 = none → b.placed ≤ a.placed ∧
        ∃ e ∈ x.claims, (lo ≤ e.1 ∧ e.1 ≤ hi) ∧ e.2.placed = b.placed) ∧
      (b.urgent = true → ∃ e ∈ x.claims, ((lo ≤ e.1 ∧ e.1 ≤ hi) ∨ e.1 = 0) ∧ e.2.urgent = true) := by
  have mem := mem_of_mapGet found
  obtain ⟨b, centre, given, own, least, back⟩ := centre_convertClaims (claims_any inside found)
  simp only [within_iff] at given least back
  rw [converted_claims]
  refine ⟨b, centre, given _ mem inside, own, fun none => ?_, back⟩
  obtain ⟨below, there⟩ := least none
  exact ⟨below _ mem inside, there⟩

end

/-! ### The parts of the statement -/

theorem Clears.all {r : Region} {s t : State} (h : Clears r s t) :
    t.region r = { header := { state := .empty, count := 0, check := 0 }, rows := [] } ∧
      (∀ q ∈ regionOrder, q ≠ r → t.region q = s.region q) ∧ t.store.site = s.store.site ∧
      t.store.startList = s.store.startList.filter (fun q => q != r) :=
  ⟨h.region, h.others, h.site, h.startList⟩

theorem clearNotices_eq (s : State) (r : Region) :
    clearNotices s r = if s.active r = false then [] else exitNotices r := by
  cases live : s.active r with
  | true => exact clearNotices_of_active live
  | false => exact clearNotices_of_idle live

/-- CLEAR ALL begins with the clear of CHANNELS. -/
theorem clearAll_spec (tag : Byte) {s : State} (steady : s.steady) (free : s.store.clearing = none)
    (first : regionOrder.find? s.interlocked = none) :
    completes (.clearAll tag) s fun t =>
      Clears .channels s t ∧ t.store.clearing = some { tag := tag, cleared := 1 } ∧ t.line = s.line ∧
        t.handed = (s.took (.clearAll tag)).handed ++ clearNotices s .channels := by
  have plain : ¬ (s.active .channels = true ∧ Region.channels ∈ [Region.paths, .schedule]) := by
    rintro ⟨-, mem⟩
    revert mem
    decide
  have left := clearOne_plain (s := s.took (.clearAll tag)) (r := .channels) steady.2 plain
  obtain ⟨region, others, site, startList⟩ :=
    clears_clearAndGoOn (s := s.took (.clearAll tag)) { tag := tag, cleared := 0 } .channels
  refine ⟨_, clearAll_begins tag steady free first, ⟨region, others, site, startList⟩, rfl, ?_, ?_⟩
  · rw [clearAndGoOn_line, left]
    rfl
  · rw [clearAndGoOn_handed, left]
    rfl

/-- What a clear does with the claims of a region's sources, segment by segment. -/
theorem converted_segment {lo hi : Nat} {s t : State} {answers : List LocalFrame} (ok : SegmentsOk s)
    (h : Converted lo hi s t answers) {g : Nat} (low : g < 8) {x y : SegmentRec} (old : s.segment g = some x)
    (new : t.segment g = some y) :
    let mine := fun i : Nat => lo ≤ i ∧ i ≤ hi
    y.state = x.state ∧ y.lead = x.lead ∧ y.grace = x.grace ∧ y.urgent = x.urgent ∧
      (y.parameter ≠ x.parameter → x.state = .notice ∧ Instr.segmentNotice g .notice y.parameter ∈ t.handed) ∧
      (∀ i, i < 51 → 1 ≤ i → mapGet y.claims i = if mine i then none else mapGet x.claims i) ∧
      ((∀ i, i < 51 → mine i → mapGet x.claims i = none) → y = x) ∧
      (x.state = .notice → (∃ i, i < 51 ∧ mine i ∧ (mapGet x.claims i).isSome = true) →
        ∀ seg ∈ s.segmentRow g, parameterSays t seg y) ∧
      (∀ i, i < 51 → mine i → ∀ a ∈ mapGet x.claims i, ∃ b ∈ mapGet y.claims 0,
        (a.urgent = true → b.urgent = true) ∧
        (∀ z ∈ mapGet x.claims 0, b.placed = z.placed ∧ (z.urgent = true → b.urgent = true)) ∧
        (mapGet x.claims 0 = none → b.placed ≤ a.placed ∧ ∃ e ∈ x.claims, mine e.1 ∧ e.2.placed = b.placed) ∧
        (b.urgent = true → ∃ e ∈ x.claims, (mine e.1 ∨ e.1 = 0) ∧ e.2.urgent = true)) := by
  intro mine
  obtain ⟨present, record⟩ := State.segment_eq_some.mp old
  obtain ⟨row, present⟩ := Option.isSome_iff_exists.mp present
  obtain ⟨left, told⟩ := h.segment g low x old row present
  obtain ⟨-, records⟩ := ok
  obtain ⟨-, sorted, few, -⟩ := records _ (mem_of_mapGet record)
  rw [left] at new
  cases new
  refine ⟨converted_state, converted_lead, converted_grace, converted_urgent sorted,
    fun turns => ⟨converted_parameter turns, told turns⟩, fun i _ other => ?_, fun none => ?_,
    fun notice ⟨i, _, inside, held⟩ seg there => ?_, fun i _ inside a found => converted_centre inside found⟩
  · rw [converted_claims]
    exact mapGet_convertClaims other
  · exact converted_whole sorted few none
  · obtain ⟨a, found⟩ := Option.isSome_iff_exists.mp held
    cases there.symm.trans present
    exact converted_says h.clock h.now sorted few notice (claims_any inside found)

/-- Settles O30: CLEAR REGION; CLEAR ALL step by step; its end and the requests that have waited; the conversion. -/
theorem clearsEmptyRegionsAndConvertClaims : Obligations.ClearsEmptyRegionsAndConvertClaims := by
  refine ⟨fun tag region s steady free => ⟨?_, fun r _ number => ⟨?_, ?_⟩⟩, fun tag d s steady => ⟨?_, ?_⟩, ?_, ?_⟩
  · exact taken_noRegion (c := .clearRegion tag region) steady free _
  · exact fun blocked => clearRegion_refused tag region steady free number ((interlocked_iff s r).mpr blocked)
  · intro free'
    have unlocked := eq_false_of_ne_true fun locked => free' ((interlocked_iff s r).mp locked)
    refine completes_mono (clearRegion_spec tag region steady free number unlocked)
      fun t ⟨clears, idle, told, plain, rest⟩ => ?_
    refine ⟨clears.region, fun i _ => by rw [clears.region]; rfl, clears.others, clears.site, clears.startList, idle,
      ?_⟩
    cases r <;> exact ⟨told, plain, rest⟩
  · intro free
    refine ⟨fun blocked => ?_, fun none blocked => ?_, fun none none' => ?_⟩
    · refine clearAll_refused (r := .segments) tag steady free ?_
      rw [firstInterlocked, if_pos ((interlocked_iff s .segments).mpr blocked)]
    · refine clearAll_refused (r := .gates) tag steady free ?_
      rw [firstInterlocked, if_neg fun locked => none ((interlocked_iff s .segments).mp locked),
        if_pos ((interlocked_iff s .gates).mpr blocked)]
    · have first : regionOrder.find? s.interlocked = .none := by
        rw [firstInterlocked, if_neg fun locked => none ((interlocked_iff s .segments).mp locked),
          if_neg fun locked => none' ((interlocked_iff s .gates).mp locked)]
      refine completes_mono (clearAll_spec tag steady free first) fun t ⟨clears, under, line, handed⟩ =>
        ⟨clears.all, under, line, ?_⟩
      rw [handed, clearNotices_eq]
      rfl
  · intro run under
    refine ⟨fun table => tableRequest_waits table steady under, fun alone handed r here empty => ?_⟩
    intro unasked
    have next := step_clearing steady alone handed under
    have goes : Offers .storeAndJobs (fun _ => True) s (clearGoesOn s) := offers_clearGoesOn .refl trivial
    rw [clearGoesOn_of_clearing under] at goes
    refine ⟨_, next, goes.others, fun blocked asks => ?_, fun blocked more => ?_, fun blocked last asks => ?_⟩
    · exact step_locked steady alone handed under here ((interlocked_iff s r).mpr blocked) empty asks next
    · obtain ⟨clears, under', waiting, told, plain⟩ := step_goesOn steady alone handed under here
        (eq_false_of_ne_true fun locked => blocked ((interlocked_iff s r).mp locked)) more next
      refine ⟨clears.all, under', waiting, ?_⟩
      rw [clearNotices_eq] at told plain
      cases r <;> exact ⟨told, plain⟩
    · obtain ⟨clears, under', beside, told, added⟩ := step_last steady alone handed under here
        (eq_false_of_ne_true fun locked => blocked ((interlocked_iff s r).mp locked)) last empty asks next
      rw [clearNotices_eq] at beside told
      exact ⟨clears.all, under', beside, told, added⟩
  · intro s steady alone handed run under ends
    have ⟨r, here, ends'⟩ : ∃ r, regionOrder[run.cleared]? = some r ∧ (run.cleared = 6 ∨ s.interlocked r = true) := by
      rcases ends with last | ⟨r, here, locked⟩
      · exact ⟨.gates, by rw [last]; rfl, .inl last⟩
      · exact ⟨r, here, .inr locked⟩
    exact step_takesRequests steady alone handed under here ends'
  · intro tag s steady free _ ok none k mem live
    rcases List.mem_cons.mp mem with same | mem
    · cases same
      exact completes_mono (clearRegion_converts tag 3 (lo := 3) (hi := 18) steady free (by decide) rfl live none)
        fun t converted => ⟨converted.added, fun g low x old y new => converted_segment ok converted low old new⟩
    · cases List.mem_singleton.mp mem
      exact completes_mono (clearRegion_converts tag 4 (lo := 19) (hi := 50) steady free (by decide) rfl live none)
        fun t converted => ⟨converted.added, fun g low x old y new => converted_segment ok converted low old new⟩

end Sys2Proof.Machine
end
